-- ==== Sys2Proof/Word.lean ====
section
/-! DEFINITION. The numbers and containers the model is written in: the ranges that 0.5 (Conventions) gives each kind
of number, one channel granule, and the two plain-data containers (a sparse table, a list of consecutive numbers). -/
namespace Sys2Proof

/-- One byte of the channel. -/
abbrev Byte := BitVec 8

/-- A 32-bit wrapping quantity: the timebase, the epoch number, the notice indexes (R113, R149, R175). -/
abbrev Word32 := BitVec 32

/-- A station address: 48 bits, the first octet most significant (R36). -/
abbrev StationAddr := BitVec 48

/-- Port numbers run from 0 to 47 (0.5). -/
abbrev Port := Fin 48

/-- Queue classes run from 0 to 3 (0.5). -/
abbrev Cls := Fin 4

/-- Tenants run from 0 to 255 (0.5). -/
abbrev Tenant := Fin 256

/-- Failover groups run from 0 to 63 (0.5). -/
abbrev GroupId := Fin 64

/-- Replication lists run from 0 to 1,023 (0.5). -/
abbrev ListId := Fin 1024

/-- Command slots run from 0 to 15 (R172). -/
abbrev SlotId := Fin 16

/-- A slot of an ingress or an egress ring, 0 to 255 (R20, R99). -/
abbrev RingSlot := Fin 256

/-- The byte lanes of one write inside a granule, lowest address first: `some b` is a lane whose strobe is set and that
carries `b`, `none` a lane whose strobe is clear (Table 0-2, per-byte write strobes). -/
abbrev Lanes := List (Option Byte)

/-- A sparse table: pairs of a number and a value, the numbers strictly rising. A number not listed has either no
entry or the table's own default, as the field that holds the table says. -/
abbrev Table (α : Type) := List (Nat × α)

/-- A first-in, first-out list of numbers held as runs of consecutive numbers: `(a, n)` stands for
`a, a + 1, …, a + n - 1`. The free list, the free copy list and the issued-cell lists are held so (R2, R3, R12). -/
abbrev Runs := List (Nat × Nat)

end Sys2Proof
end

