-- ==== Sys2Proof/Syntax.lean ====
section
/-! DEFINITION. The commands of the part: one constructor for each row of spec/opcode_table.json. A row that is a write
from the interconnect face carries the write's granule as its operand; a row that is an event of one port carries the
port; the other rows carry nothing. -/
namespace Sys2Proof

/-- A write that covers all four bytes of the command word of one command slot (R172). The kind of the command is the
row's own; `low` are the lanes of bytes 0 to 59 of the same granule, `reserved` is byte 62 of the slot, which the part
ignores, and `tag` is bits 15 to 0 of the command word (Table 10-5). -/
structure SlotWrite where
  slot : SlotId
  low : Lanes
  reserved : Byte
  tag : BitVec 16
  deriving DecidableEq, Repr

/-- The commands, in the order of the table. -/
inductive Instr where
  /-- POWER_ON_RESET (R174): RESET_N is released with `straps` on WINBASE[3:0]. -/
  | powerOnReset (straps : BitVec 4)
  /-- INGRESS_SLOT_WRITE (R21): a write of one granule, slot `slot` of the ingress ring of port `p`. -/
  | ingressSlotWrite (p : Port) (slot : RingSlot) (g : Lanes)
  /-- TAKING_OF_DESCRIPTOR (R24): a write of one ingress-ring granule whose ready word takes the descriptor (R22). -/
  | takingOfDescriptor (p : Port) (slot : RingSlot) (g : Lanes)
  /-- POST_ATTEMPT (R102): the queue manager's post attempt for port `p`. -/
  | postAttempt (p : Port)
  /-- COMPLETION (R106): a write of one granule, slot `slot` of the egress ring of port `p`. -/
  | completion (p : Port) (slot : RingSlot) (g : Lanes)
  /-- STATUS_WORD (R117): a write of the granule that is port `p`'s status record. -/
  | statusWord (p : Port) (g : Lanes)
  /-- TRIAL_EXPIRY (R119): the expiry of the trial timer of port `p`. -/
  | trialExpiry (p : Port)
  /-- STALL_EXPIRY (R121): the expiry of the stall timer of port `p`. -/
  | stallExpiry (p : Port)
  /-- DRAIN_EXPIRY (R127): the expiry of the drain timer of port `p`. -/
  | drainExpiry (p : Port)
  /-- AGING_PERIOD_EXPIRY (R47). -/
  | agingPeriodExpiry
  /-- AGING_SWEEP_STEP (R48): the next step of the running aging sweep. -/
  | agingSweepStep
  /-- FLUSH_WALK_STEP (R52): the next step of the running flush walk. -/
  | flushWalkStep
  /-- WALK_START (R134): the failover controller starts the walk of the head of its work list. -/
  | walkStart
  /-- EVACUATION_WALK_STEP (R136): the next step of the running evacuation walk. -/
  | evacuationWalkStep
  /-- DRAIN_WALK_STEP (R140): the next step of the running drain walk. -/
  | drainWalkStep
  /-- EXPORT_WALK_STEP (R158): the next step of the running export walk. -/
  | exportWalkStep
  /-- TABLE_STAGING_WRITE (R169): a write of granule `i` of the control-table area. -/
  | tableStagingWrite (i : Fin 3584) (g : Lanes)
  /-- TABLE_COMMIT (R170): a write of granule `i` of the control-table area that carries a commit. -/
  | tableCommit (i : Fin 3584) (g : Lanes)
  /-- COMMAND_ARGUMENT_WRITE (R172): a write of the granule of command slot `k`. -/
  | commandArgumentWrite (k : SlotId) (g : Lanes)
  /-- CONSUMER_WORD (R176): a write of the granule that holds the notice-consumer word. -/
  | consumerWord (g : Lanes)
  /-- UNKNOWN_COMMAND (R179): a command word whose kind is not in Table 11-3. -/
  | unknownCommand (kind : Byte) (w : SlotWrite)
  /-- START (R168), kind 1. -/
  | start (w : SlotWrite)
  /-- STATION_ADD (R55), kind 2. -/
  | stationAdd (w : SlotWrite)
  /-- STATION_REMOVE (R57), kind 3. -/
  | stationRemove (w : SlotWrite)
  /-- FLUSH (R58), kind 4. -/
  | flush (w : SlotWrite)
  /-- EPOCH_CLOSE (R157), kind 5. -/
  | epochClose (w : SlotWrite)
  /-- PORT_ADMIN_DOWN (R128), kind 6. -/
  | portAdminDown (w : SlotWrite)
  /-- PORT_ADMIN_RELEASE (R128), kind 7. -/
  | portAdminRelease (w : SlotWrite)
  /-- PORT_RESET (R129), kind 8. -/
  | portReset (w : SlotWrite)
  /-- METER_REFILL (R79), kind 9. -/
  | meterRefill (w : SlotWrite)
  /-- TIME_MARK (R180), kind 10. -/
  | timeMark (w : SlotWrite)
  /-- WINDOW_WRITE_NO_EFFECT (R164): a write of the granule at channel address `addr`. -/
  | windowWriteNoEffect (addr : Nat) (g : Lanes)
  /-- TIMEBASE_ADVANCE (R113): one microsecond passes. -/
  | timebaseAdvance
  deriving DecidableEq, Repr

end Sys2Proof
end

