-- ==== Sys2Proof/Machine/Bytes.lean ====
section
/-! DEFINITION. Byte order and byte lanes: little-endian fields (R173), station addresses (R36), the strobes of a
write and what a write's bytes do to a private copy. -/
namespace Sys2Proof.Machine

/-- `v` in `n` bytes, the lowest-addressed byte the least significant (R173). Bits beyond `8 n` are left off. -/
def leBytes : Nat → Nat → List Byte
  | 0, _ => []
  | n + 1, v => BitVec.ofNat 8 v :: leBytes n (v / 256)

/-- The number that bytes hold, the lowest-addressed byte the least significant (R173). -/
def leNat : List Byte → Nat
  | [] => 0
  | b :: rest => b.toNat + 256 * leNat rest

/-- The number held by the `n` bytes of a record from offset `off`. -/
def field (bytes : List Byte) (off n : Nat) : Nat := leNat ((bytes.drop off).take n)

/-- Bits `hi` to `lo` of a number. -/
def bits (v hi lo : Nat) : Nat := v / 2 ^ lo % 2 ^ (hi + 1 - lo)

/-- Bit `i` of a number. -/
def bit (v i : Nat) : Bool := decide (v / 2 ^ i % 2 = 1)

/-- A station address from its six octets, the first octet most significant (R36, R173). -/
def stationOf (octets : List Byte) : StationAddr :=
  BitVec.ofNat 48 (octets.foldl (fun acc b => acc * 256 + b.toNat) 0)

/-- The station address at offset `off` of a record. -/
def stationAt (bytes : List Byte) (off : Nat) : StationAddr := stationOf ((bytes.drop off).take 6)

/-- Bytes written with every strobe set. -/
def strobed (bytes : List Byte) : Lanes := bytes.map some

/-- `n` lanes of a write from lane `off`. -/
def lanesAt (g : Lanes) (off n : Nat) : Lanes := (g.drop off).take n

/-- The write sets all `n` strobes from lane `off`. -/
def allStrobes (g : Lanes) (off n : Nat) : Bool :=
  decide ((lanesAt g off n).length = n) && (lanesAt g off n).all Option.isSome

/-- The write sets some strobe. -/
def anyStrobe (g : Lanes) : Bool := g.any Option.isSome

/-- The bytes a write carries, a lane without its strobe read as 0. Only strobed lanes of it are used. -/
def carried (g : Lanes) : List Byte := g.map (·.getD 0)

/-- A private copy after a write: each byte whose strobe is set takes the written value, the others keep theirs (R21,
R172). -/
def merge : List Byte → Lanes → List Byte
  | b :: bytes, l :: lanes => l.getD b :: merge bytes lanes
  | bytes, _ => bytes

/-- `bytes` filled up with zeros to `n` bytes. -/
def padTo (n : Nat) (bytes : List Byte) : List Byte := bytes ++ List.replicate (n - bytes.length) 0

/-- A record of `n` bytes made of pieces, each at its offset, zero elsewhere (R173). The pieces stand in rising
order and do not overlap. -/
def record (n : Nat) (pieces : List (Nat × List Byte)) : List Byte :=
  padTo n (pieces.foldl (fun acc e => padTo e.1 acc ++ e.2) [])

end Sys2Proof.Machine
end

