-- ==== Sys2Proof/Config.lean ====
section
/-! DEFINITION. What the manual fixes once for the whole part (sizes, window offsets, limits), and the one value it
leaves open. -/
namespace Sys2Proof

/-- Cells of the shared buffer (R1). -/
def Config.cells : Nat := 65536

/-- Copy records of the copy pool (R12). -/
def Config.copies : Nat := 131072

/-- Copy records one frame may have (R14). -/
def Config.copiesPerFrame : Nat := 48

/-- Copies the hold pool may hold (R142). -/
def Config.holdRoom : Nat := 4096

/-- Requests the flush queue may hold (R51). -/
def Config.flushRoom : Nat := 8

/-- Positions of the notice ring (R175). -/
def Config.noticeRoom : Nat := 1024

/-- Visits of one evacuation or drain step (R136). -/
def Config.walkVisits : Nat := 32

/-- Stack frames a replication walk may hold (R63). -/
def Config.walkDepth : Nat := 4

/-- A bound on the passes of R62 in one replication walk. A list has at most 16 entries (R59) and five lists may be in
progress (R63), so a list at the deepest level takes at most 17 passes (16 skips and its end), and a list whose
sublists take `t` passes takes at most `16 * (1 + t) + 1`: 17, 289, 4,641, 74,273, 1,188,385. -/
def Config.walkPasses : Nat := 1188385

/-- Size of the control window (R163): 4000000h bytes. -/
def Config.windowSize : Nat := 0x4000000

/-- Window offsets of Table 10-1. -/
def Config.linkArea : Nat := 0x1000000
def Config.ingressRings : Nat := 0x1100000
def Config.freeCellRings : Nat := 0x1200000
def Config.egressRings : Nat := 0x1300000
def Config.statusRecords : Nat := 0x1400000
def Config.controlTables : Nat := 0x1410000
def Config.commandSlots : Nat := 0x1800000
def Config.noticeRing : Nat := 0x1810000
def Config.consumerWord : Nat := 0x1818000
def Config.exportArea : Nat := 0x1900000

/-- FREE VALUE (log entry 1). Which of several refusal reasons that apply to one offered table entry its TABLE_REJECTED
notice carries: Table 10-2 gives each case its reason and does not say which is reported when several cases refuse the
same entry. The argument is the draw number, `State.freeDraws`. -/
opaque Config.reasonChoice : Nat → Nat

end Sys2Proof
end

