-- ==== Sys2Proof/Machine/State.lean ====
section
/-! DEFINITION. The state of the part, block by block as Table 0-1 gives it, and the machine right after power-on
reset (R174 and the 'after power-on' sentence of each rule cited). -/
namespace Sys2Proof.Machine

/-- The mode of the part (R167). -/
inductive Mode where
  | passive
  | active
  deriving DecidableEq, Repr

/-- Port liveness states (Table 7-1). -/
inductive Liveness where
  | adminDown
  | down
  | trial
  | up
  | stalled
  deriving DecidableEq, Repr

/-- The shed level (R80). -/
inductive ShedLevel where
  | normal
  | tight
  | critical
  deriving DecidableEq, Repr

/-- The colour of a frame (R75). -/
inductive Colour where
  | committed
  | excess
  deriving DecidableEq, Repr

/-- What a station entry, a learn target or a resolution names (Table 3-1). -/
inductive Target where
  | port (p : Port)
  | group (g : GroupId)
  | list (l : ListId)
  deriving DecidableEq, Repr

/-- A phase of a schedule (R97). -/
inductive Phase where
  | skip
  | class1
  | class2
  | class3
  deriving DecidableEq, Repr

/-- The mode of a failover group (R130). -/
inductive GroupMode where
  | ordered
  | spread
  deriving DecidableEq, Repr

/-- The state of a failover group (R132). -/
inductive GroupState where
  | active
  | evacuating
  | dark
  deriving DecidableEq, Repr

/-- The kind of an evacuation work-list entry or walk (R133). -/
inductive WorkKind where
  | evacuate
  | drain
  deriving DecidableEq, Repr

/-- The twelve drop causes, in the order of their counters (R161). -/
inductive DropCause where
  | ingressError
  | segmentOff
  | meter
  | shed
  | tenantQuota
  | queueFull
  | noCopy
  | holdFull
  | noPath
  | stale
  | portDown
  | egressError
  deriving DecidableEq, Repr

/-- A flush request (R51). -/
inductive FlushReq where
  | byPort (p : Port)
  | byGroup (g : GroupId)
  | bySegment (segment : Nat)
  | allLearned
  deriving DecidableEq, Repr

/-- The state of a command slot (R178). -/
inductive SlotStatus where
  | idle
  | busy
  | done
  | failed
  deriving DecidableEq, Repr

/-- The state of a copy record that is not FREE (R12). -/
inductive CopyState where
  | queued
  | posted
  | held
  deriving DecidableEq, Repr

/-! ## Path monitor -/

/-- The table staging copy (R169): one entry's address and, for each byte of it that is staged, its value. -/
structure Staging where
  table : Nat
  index : Nat
  bytes : Table Byte
  deriving DecidableEq, Repr

/-- The path monitor (R163, R167, R169, R172). A slot not listed in `args` has 48 zero bytes. -/
structure PathMonitor where
  winbase : BitVec 4
  mode : Mode
  staging : Option Staging
  args : Table (List Byte)
  deriving DecidableEq, Repr

/-! ## Installed copies of the control tables (R170, Table 10-5) -/

/-- The global entry. `prioMap` holds the class of priority code i in bits 2i+1 and 2i (R96). -/
structure GlobalEntry where
  rotation : Nat
  prioMap : BitVec 16
  tightFloor : Nat
  criticalFloor : Nat
  hysteresis : Nat
  agingPeriod : Nat
  deriving DecidableEq, Repr

/-- The count and unit of one port timer (R114). -/
structure TimerField where
  count : Nat
  unit : Nat
  deriving DecidableEq, Repr

/-- A port table entry; `learnGroup = none` is a learn target of self (R42). -/
structure PortEntry where
  window : Nat
  issueTarget : Nat
  queueProfile : Nat
  schedProfile : Nat
  trial : TimerField
  stall : TimerField
  drain : TimerField
  learnGroup : Option GroupId
  hairpin : Bool
  defaultSegment : Nat
  deriving DecidableEq, Repr

/-- A group entry (R130). `members` are the eight member bytes; those from position `count` on are not examined. -/
structure GroupEntry where
  mode : GroupMode
  count : Nat
  members : List Byte
  deriving DecidableEq, Repr

/-- The entry of one class in one queue profile (Table 5-4, R103). -/
structure QueueProfile where
  minimum : Nat
  markThreshold : Nat
  alpha : Nat
  ageLimit : Nat
  deriving DecidableEq, Repr

/-- A tenant table entry (Table 5-1, R38, R155). -/
structure TenantEntry where
  rate : Nat
  depth : Nat
  quota : Nat
  stationLimit : Nat
  excessMode : Nat
  tariffSet : Nat
  deriving DecidableEq, Repr

/-- A segment table entry (R28, R29, R39, R42). -/
structure SegmentEntry where
  enabled : Bool
  learning : Bool
  tenant : Tenant
  flood : Option ListId
  multicast : Option ListId
  deriving DecidableEq, Repr

/-- One entry position of a replication list as its bytes hold it: kind byte and number (R59). -/
structure ListItem where
  kind : Byte
  number : Nat
  deriving DecidableEq, Repr

/-- A replication list: its count and its 16 entry positions (R59). -/
structure RepList where
  count : Nat
  items : List ListItem
  deriving DecidableEq, Repr

/-- The installed copies. An index not listed in a table holds that table's power-on contents (R174). -/
structure Installed where
  globalEntry : GlobalEntry
  ports : Table PortEntry
  groups : Table GroupEntry
  queueProfiles : Table QueueProfile
  schedules : Table (List Phase)
  tariffs : Table (List Nat)
  tenants : Table TenantEntry
  segments : Table SegmentEntry
  lists : Table RepList
  deriving DecidableEq, Repr

/-! ## Cell manager (Chapter 1) -/

/-- A port's issued-cell list and the place in its free-cell ring (R3, R4); `lap` is true for ring lap 1. -/
structure CellPort where
  issued : Runs
  pos : Nat
  lap : Bool
  deriving DecidableEq, Repr

/-- A frame record (Table 1-2). `ports` is the target-port set, its members in ascending order. The cell count is a field, as
Table 1-2 has it, though R72 says that it is not stored: DESIGN CHOICE, log entry 26. -/
structure Frame where
  tenant : Tenant
  length : Nat
  cellCount : Nat
  colour : Colour
  flowHash : Nat
  copyCount : Nat
  ports : List Port
  deriving DecidableEq, Repr

/-- A copy record that is not FREE (Table 1-3). `frame` is the frame's first cell. -/
structure Copy where
  state : CopyState
  frame : Nat
  port : Option Port
  cls : Cls
  via : Option GroupId
  mark : Bool
  enqueued : Word32
  deriving DecidableEq, Repr

/-- The cell manager: the free list and free copy list, the per-port issued lists, the frame table keyed by first cell,
the copy records that are not FREE keyed by copy tag, and the cell link map (`none` is the end mark, R9). -/
structure CellManager where
  freeList : Runs
  freeCopies : Runs
  ports : Table CellPort
  frames : Table Frame
  copies : Table Copy
  links : Table (Option Nat)
  deriving DecidableEq, Repr

/-! ## Intake unit (Chapter 2) -/

/-- A port's expected slot and lap, and the staging copy of that slot (R20); `lap` is true for lap 1. -/
structure IntakePort where
  slot : Nat
  lap : Bool
  staging : List Byte
  deriving DecidableEq, Repr

/-! ## Lookup unit (Chapter 3) -/

/-- A valid station entry (Table 3-1); `isStatic` is the entry kind, `conflict` the conflict reported flag. -/
structure Station where
  segment : Nat
  addr : StationAddr
  target : Target
  isStatic : Bool
  hit : Bool
  moves : Nat
  locked : Bool
  conflict : Bool
  tenant : Tenant
  deriving DecidableEq, Repr

/-- A queued flush request and the command slots it will end (R51, R58). -/
structure FlushItem where
  req : FlushReq
  slots : List SlotId
  deriving DecidableEq, Repr

/-- The running flush walk (R52). -/
structure FlushWalk where
  item : FlushItem
  cursor : Nat
  removed : Nat
  deriving DecidableEq, Repr

/-- The lookup unit. A station entry is keyed by 4 × set + way; a number not listed is an invalid way. `sweep` is the
sweep's cursor, or none at rest; `agingTimer` the timebase at which the aging period ends, or none while stopped. -/
structure LookupUnit where
  stations : Table Station
  learned : Table Nat
  sweep : Option Nat
  agingTimer : Option Word32
  flushQueue : List FlushItem
  flushWalk : Option FlushWalk
  deriving DecidableEq, Repr

/-! ## Admission unit (Chapter 5) -/

/-- A tenant's meter: token count and last-update time (R73). -/
structure Meter where
  tokens : Nat
  last : Word32
  deriving DecidableEq, Repr

/-- The admission unit (R73, R80, R84). -/
structure AdmissionUnit where
  meters : Table Meter
  held : Table Nat
  shed : ShedLevel
  deriving DecidableEq, Repr

/-! ## Queue manager (Chapter 6) -/

/-- A slot record that is not empty: the tag posted and the lap written (R99). -/
structure SlotRecord where
  tag : Nat
  lap : Bool
  deriving DecidableEq, Repr

/-- The queue manager's state of one port (R97, R99). `owed` counts the post attempts that R101 has called for and that
have not been made yet. -/
structure EgressPort where
  nextWrite : Nat
  lap : Bool
  slots : Table SlotRecord
  phase : Nat
  schedule : List Phase
  pendingSched : Bool
  owed : Nat
  deriving DecidableEq, Repr

/-- The queue manager. Queue 4 × port + class holds copy tags, head first (R94). -/
structure QueueManager where
  queues : Table (List Nat)
  ports : Table EgressPort
  deriving DecidableEq, Repr

/-! ## Liveness monitor (Chapter 7) -/

/-- A port's liveness state, recorded change count and timers (R115, R116). A timer is stopped (`none`) or running with
the timebase value at which it expires. -/
structure LivePort where
  state : Liveness
  changeCount : Nat
  trial : Option Word32
  stall : Option Word32
  drain : Option Word32
  deriving DecidableEq, Repr

/-- The liveness monitor: the timebase, the dividers of the two unit marks (R113) and the ports. -/
structure LivenessMonitor where
  timebase : Word32
  div100us : Nat
  div10ms : Nat
  ports : Table LivePort
  deriving DecidableEq, Repr

/-! ## Failover controller (Chapter 8) -/

/-- The walk in progress (R134, R135): port, kind, the recorded tail of each class, the current class and the resume
point (`none` is the head). -/
structure Walk where
  port : Port
  kind : WorkKind
  tails : List (Option Nat)
  cls : Nat
  resume : Option Nat
  deriving DecidableEq, Repr

/-- The failover controller (R132, R133, R134, R141, R142). Group g's held copies are `hold` at g, oldest first. -/
structure FailoverController where
  groupStates : Table GroupState
  work : List (Port × WorkKind)
  walk : Option Walk
  hold : Table (List Nat)
  drained : Table Bool
  deriving DecidableEq, Repr

/-! ## Accounting unit (Chapter 9) -/

/-- A tenant record of one bank (Table 9-1). `drops` is keyed by the counter number of R161, 0 to 11. -/
structure TenantRecord where
  admittedCommitted : Nat
  admittedExcess : Nat
  deliveredFrames : Nat
  deliveredBytes : Nat
  charge : Nat
  markedDelivered : Nat
  drops : Table Nat
  merged : Nat
  learnRefusals : Nat
  chargeSat : Bool
  countSat : Bool
  deriving DecidableEq, Repr

/-- The running export walk (R149), with the epoch opening time in force when the close was taken (R161). -/
structure ExportWalk where
  bank : Fin 2
  epoch : Word32
  openTime : Word32
  closeTime : Word32
  slot : SlotId
  nextTenant : Nat
  saturated : Nat
  deriving DecidableEq, Repr

/-- The accounting unit (R148, R149). The record of tenant n in bank b is `records` at 256 × b + n. -/
structure AccountingUnit where
  records : Table TenantRecord
  live : Fin 2
  epoch : Word32
  openTime : Word32
  walk : Option ExportWalk
  deriving DecidableEq, Repr

/-! ## Notice writer and command unit (Chapter 11) -/

/-- The notice writer (R175). -/
structure NoticeWriter where
  producer : Word32
  consumer : Word32
  gap : Bool
  deriving DecidableEq, Repr

/-- A command slot: its state, and the kind and tag of the command it last started (R178). -/
structure CommandSlot where
  status : SlotStatus
  kind : Byte
  tag : BitVec 16
  deriving DecidableEq, Repr

/-! ## The memory face -/

/-- One write sent toward memory: its channel address, its byte lanes, and whether the part issued it (`own`) or
forwarded it (R166). -/
structure BusWrite where
  addr : Nat
  lanes : Lanes
  own : Bool
  deriving DecidableEq, Repr

/-- The stream of writes toward memory, newest first. `sent` is what earlier actions sent; the other three gather the
writes of the action in progress, so that its notices follow its other writes and its command status words follow
both (R166); they are empty between actions. -/
structure Bus where
  sent : List BusWrite
  writes : List BusWrite
  notices : List BusWrite
  statuses : List BusWrite
  deriving DecidableEq, Repr

/-- The state of the part. `pending` is the queue of waiting commands; `freeDraws` counts the free values drawn. -/
structure State where
  path : PathMonitor
  tables : Installed
  cells : CellManager
  intake : Table IntakePort
  lookup : LookupUnit
  admission : AdmissionUnit
  queues : QueueManager
  live : LivenessMonitor
  failover : FailoverController
  acct : AccountingUnit
  notices : NoticeWriter
  slots : Table CommandSlot
  bus : Bus
  freeDraws : Nat
  pending : List Instr
  deriving DecidableEq, Repr

/-- Why a step stops with a fault. There is no constructor: the manual gives every command of the part an effect in
every state, so nothing raises a fault. -/
inductive Fault where
  deriving DecidableEq, Repr

/-- Why a command is refused. -/
inductive Refusal where
  /-- Raised by an arm of `exec` whose command has no meaning yet; safe. No arm raises it. -/
  | notModelled (mnemonic : String)
  deriving DecidableEq, Repr

/-! ## Power-on contents (Table 10-6 and the owning rules) -/

/-- R174: the global entry. Codes 0 to 6 map to class 1, code 7 to class 0 (R96). -/
def GlobalEntry.powerOn : GlobalEntry :=
  { rotation := 0, prioMap := 0x1555, tightFloor := 8192, criticalFloor := 2048, hysteresis := 1024,
    agingPeriod := 30000 }

/-- R174, R114: a port entry; unit 1 is 100 µs. -/
def PortEntry.powerOn : PortEntry :=
  { window := 16, issueTarget := 128, queueProfile := 0, schedProfile := 0, trial := ⟨10, 1⟩, stall := ⟨10, 1⟩,
    drain := ⟨10, 1⟩, learnGroup := none, hairpin := false, defaultSegment := 1 }

/-- R130: group g names the single port 40 + (g mod 8). The seven member bytes behind it are 0 (log entry 3). -/
def GroupEntry.powerOn (g : Nat) : GroupEntry :=
  { mode := .ordered, count := 1, members := [BitVec.ofNat 8 (40 + g % 8), 0, 0, 0, 0, 0, 0, 0] }

/-- Table 5-4. -/
def QueueProfile.powerOn : QueueProfile :=
  { minimum := 16, markThreshold := 4096, alpha := 4, ageLimit := 0 }

/-- R97: 64 SKIP phases. -/
def allSkip : List Phase := List.replicate 64 .skip

/-- R155: every tariff is 256. -/
def tariffsPowerOn : List Nat := List.replicate 8 256

/-- R174: every field 0. -/
def TenantEntry.powerOn : TenantEntry :=
  { rate := 0, depth := 0, quota := 0, stationLimit := 0, excessMode := 0, tariffSet := 0 }

/-- R174: disabled, learning off, tenant 0, no lists. -/
def SegmentEntry.powerOn : SegmentEntry :=
  { enabled := false, learning := false, tenant := 0, flood := none, multicast := none }

/-- R59: count 0; the bytes of the 16 positions are 0 (log entry 3). -/
def RepList.powerOn : RepList := { count := 0, items := List.replicate 16 ⟨0, 0⟩ }

/-- R174: no index of a table is listed, so each holds its power-on contents. -/
def Installed.powerOn : Installed :=
  { globalEntry := GlobalEntry.powerOn, ports := [], groups := [], queueProfiles := [], schedules := [], tariffs := [],
    tenants := [], segments := [], lists := [] }

/-- R3, R4: nothing issued, next ring position 0, ring lap 1. -/
def CellPort.powerOn : CellPort := { issued := [], pos := 0, lap := true }

/-- R20: 64 zero bytes. -/
def zeroGranule : List Byte := List.replicate 64 0

/-- R20: expected slot 0, expected lap 0, a zero staging copy. -/
def IntakePort.powerOn : IntakePort := { slot := 0, lap := false, staging := zeroGranule }

/-- R97, R99: next write slot 0, ring lap 1, every slot empty, phase 0, all SKIP, pending flag clear. -/
def EgressPort.powerOn : EgressPort :=
  { nextWrite := 0, lap := true, slots := [], phase := 0, schedule := allSkip, pendingSched := false, owed := 0 }

/-- R115, R116: DOWN, change count 0, timers stopped. -/
def LivePort.powerOn : LivePort := { state := .down, changeCount := 0, trial := none, stall := none, drain := none }

/-- R148: every counter 0, both flags clear. -/
def TenantRecord.zero : TenantRecord :=
  { admittedCommitted := 0, admittedExcess := 0, deliveredFrames := 0, deliveredBytes := 0, charge := 0,
    markedDelivered := 0, drops := [], merged := 0, learnRefusals := 0, chargeSat := false, countSat := false }

/-- R178: IDLE; no command has started, so kind and tag are 0 (log entry 2). -/
def CommandSlot.powerOn : CommandSlot := { status := .idle, kind := 0, tag := 0 }

/-- R172: 48 zero bytes. -/
def zeroArgs : List Byte := List.replicate 48 0

/-- R1, R2, R12: every cell and every copy record is free, in ascending order. -/
def CellManager.powerOn : CellManager :=
  { freeList := [(0, Config.cells)], freeCopies := [(0, Config.copies)], ports := [], frames := [], copies := [],
    links := [] }

/-- R37, R38, R47, R51. -/
def LookupUnit.powerOn : LookupUnit :=
  { stations := [], learned := [], sweep := none, agingTimer := none, flushQueue := [], flushWalk := none }

/-- R149. -/
def AccountingUnit.powerOn : AccountingUnit :=
  { records := [], live := 0, epoch := 0, openTime := 0, walk := none }

/-- Nothing sent, nothing gathered. -/
def Bus.empty : Bus := { sent := [], writes := [], notices := [], statuses := [] }

/-- The machine right after power-on reset (R174, R163, R167 and the power-on sentence of each owning rule). The strap
value is 0 (log entry 2). -/
def State.reset : State :=
  { path := { winbase := 0, mode := .passive, staging := none, args := [] }
    tables := Installed.powerOn
    cells := CellManager.powerOn
    intake := []
    lookup := LookupUnit.powerOn
    admission := { meters := [], held := [], shed := .normal }
    queues := { queues := [], ports := [] }
    live := { timebase := 0, div100us := 0, div10ms := 0, ports := [] }
    failover := { groupStates := [], work := [], walk := none, hold := [], drained := [] }
    acct := AccountingUnit.powerOn
    notices := { producer := 0, consumer := 0, gap := false }
    slots := []
    bus := Bus.empty
    freeDraws := 0
    pending := [] }

end Sys2Proof.Machine
end

