-- ==== Sys2Proof/Machine/Stores.lean ====
section
/-! DEFINITION. The operations of the two containers of Word.lean: sparse tables and run-length lists of numbers. -/
namespace Sys2Proof

/-- The value listed for number `k`, if one is. -/
def Table.find {α : Type} : Table α → Nat → Option α
  | [], _ => none
  | (j, v) :: rest, k => if j = k then some v else Table.find rest k

/-- The table with nothing listed for `k`. -/
def Table.erase {α : Type} (m : Table α) (k : Nat) : Table α := m.filter fun e => e.1 != k

/-- The table with `v` listed for `k`, at its place in the rising order. -/
def Table.put {α : Type} : Table α → Nat → α → Table α
  | [], k, v => [(k, v)]
  | (j, w) :: rest, k, v =>
    if k < j then (k, v) :: (j, w) :: rest
    else if k = j then (k, v) :: rest
    else (j, w) :: Table.put rest k v

/-- The value of number `k` in a table whose unlisted numbers read as `d`. -/
def Table.getD {α : Type} (m : Table α) (k : Nat) (d : α) : α := (m.find k).getD d

/-- The table, whose unlisted numbers read as `d`, with `k` set to `v`. Setting the default unlists the number, so that
equal contents are equal data. -/
def Table.setD {α : Type} [DecidableEq α] (m : Table α) (k : Nat) (v d : α) : Table α :=
  if v = d then m.erase k else m.put k v

/-- The numbers of a table rise strictly. -/
def Table.sorted {α : Type} : Table α → Bool
  | [] => true
  | [_] => true
  | (j, _) :: (k, w) :: rest => decide (j < k) && Table.sorted ((k, w) :: rest)

/-- How many numbers a run-length list holds. -/
def Runs.size : Runs → Nat
  | [] => 0
  | (_, n) :: rest => n + Runs.size rest

/-- The numbers of a run-length list, head first. -/
def Runs.toList : Runs → List Nat
  | [] => []
  | (a, n) :: rest => List.range' a n ++ Runs.toList rest

/-- The run `(a, n)` put behind the tail; it joins the last run when it goes on from it. -/
def Runs.pushRun : Runs → Nat → Nat → Runs
  | [], a, n => if n = 0 then [] else [(a, n)]
  | [(b, k)], a, n => if n = 0 then [(b, k)] else if a = b + k then [(b, k + n)] else [(b, k), (a, n)]
  | r :: r' :: rest, a, n => r :: Runs.pushRun (r' :: rest) a n

/-- One number put behind the tail. -/
def Runs.push (q : Runs) (x : Nat) : Runs := Runs.pushRun q x 1

/-- The second list put behind the first. -/
def Runs.append (q r : Runs) : Runs := r.foldl (fun acc e => Runs.pushRun acc e.1 e.2) q

/-- A list of single numbers put behind the tail, in its order. -/
def Runs.pushAll (q : Runs) (xs : List Nat) : Runs := xs.foldl Runs.push q

/-- The first `n` numbers. -/
def Runs.take : Nat → Runs → Runs
  | _, [] => []
  | n, (a, k) :: rest =>
    if n = 0 then [] else if n < k then [(a, n)] else (a, k) :: Runs.take (n - k) rest

/-- What is left behind the first `n` numbers. -/
def Runs.drop : Nat → Runs → Runs
  | _, [] => []
  | n, (a, k) :: rest => if n < k then (a + n, k - n) :: rest else Runs.drop (n - k) rest

end Sys2Proof
end

