-- ==== Sys2Proof/Machine/Ops.lean ====
section
/-! DEFINITION. The named operations over the state: reading and writing one port's, tenant's, group's or slot's entry
of a block, the installed tables, the stream toward memory, and asking for a notice. -/
namespace Sys2Proof.Machine

/-- The 48 ports in ascending order. -/
def allPorts : List Port := List.finRange 48

/-- The 64 groups in ascending order. -/
def allGroups : List GroupId := List.finRange 64

/-- A number as a port, if it is one. -/
def portOf (n : Nat) : Option Port := if h : n < 48 then some ⟨n, h⟩ else none

/-- A number as a group, if it is one. -/
def groupOf (n : Nat) : Option GroupId := if h : n < 64 then some ⟨n, h⟩ else none

/-- A number as a list, if it is one. -/
def listOf (n : Nat) : Option ListId := if h : n < 1024 then some ⟨n, h⟩ else none

/-- A number as a tenant, if it is one. -/
def tenantOf (n : Nat) : Option Tenant := if h : n < 256 then some ⟨n, h⟩ else none

/-! ## Installed tables -/

def State.portEntry (s : State) (p : Port) : PortEntry := s.tables.ports.getD p PortEntry.powerOn
def State.groupEntry (s : State) (g : GroupId) : GroupEntry := s.tables.groups.getD g (GroupEntry.powerOn g)
def State.tenantEntry (s : State) (n : Tenant) : TenantEntry := s.tables.tenants.getD n TenantEntry.powerOn
def State.segmentEntry (s : State) (g : Nat) : SegmentEntry := s.tables.segments.getD g SegmentEntry.powerOn
def State.repList (s : State) (l : ListId) : RepList := s.tables.lists.getD l RepList.powerOn
def State.scheduleProfile (s : State) (k : Nat) : List Phase := s.tables.schedules.getD k allSkip
def State.tariffSet (s : State) (k : Nat) : List Nat := s.tables.tariffs.getD k tariffsPowerOn

/-- The queue profile entry that class `c` of port `p` uses (R87). -/
def State.profileOf (s : State) (p : Port) (c : Cls) : QueueProfile :=
  s.tables.queueProfiles.getD (4 * (s.portEntry p).queueProfile + c) QueueProfile.powerOn

/-- The queue class of a priority code (R96). -/
def State.classOfPriority (s : State) (code : Nat) : Cls :=
  ⟨s.tables.globalEntry.prioMap.toNat / 2 ^ (2 * code) % 4, Nat.mod_lt _ (by decide)⟩

/-! ## The entries of the blocks -/

def State.cellPort (s : State) (p : Port) : CellPort := s.cells.ports.getD p CellPort.powerOn
def State.setCellPort (s : State) (p : Port) (v : CellPort) : State :=
  { s with cells := { s.cells with ports := s.cells.ports.setD p v CellPort.powerOn } }

def State.frame (s : State) (first : Nat) : Option Frame := s.cells.frames.find first
def State.setFrame (s : State) (first : Nat) (v : Frame) : State :=
  { s with cells := { s.cells with frames := s.cells.frames.put first v } }
def State.removeFrame (s : State) (first : Nat) : State :=
  { s with cells := { s.cells with frames := s.cells.frames.erase first } }

def State.copy (s : State) (tag : Nat) : Option Copy := s.cells.copies.find tag
def State.setCopy (s : State) (tag : Nat) (v : Copy) : State :=
  { s with cells := { s.cells with copies := s.cells.copies.put tag v } }

/-- The free count: the length of the free list (R1). -/
def State.freeCount (s : State) : Nat := Runs.size s.cells.freeList

/-- The issued count of a port (R3). -/
def State.issuedCount (s : State) (p : Port) : Nat := Runs.size (s.cellPort p).issued

def State.intakePort (s : State) (p : Port) : IntakePort := s.intake.getD p IntakePort.powerOn
def State.setIntakePort (s : State) (p : Port) (v : IntakePort) : State :=
  { s with intake := s.intake.setD p v IntakePort.powerOn }

def State.meter (s : State) (n : Tenant) : Meter := s.admission.meters.getD n ⟨0, 0⟩
def State.setMeter (s : State) (n : Tenant) (v : Meter) : State :=
  { s with admission := { s.admission with meters := s.admission.meters.setD n v ⟨0, 0⟩ } }
def State.heldCells (s : State) (n : Tenant) : Nat := s.admission.held.getD n 0
def State.setHeldCells (s : State) (n : Tenant) (v : Nat) : State :=
  { s with admission := { s.admission with held := s.admission.held.setD n v 0 } }

def State.learned (s : State) (n : Tenant) : Nat := s.lookup.learned.getD n 0
def State.setLearned (s : State) (n : Tenant) (v : Nat) : State :=
  { s with lookup := { s.lookup with learned := s.lookup.learned.setD n v 0 } }
def State.setStation (s : State) (way : Nat) (e : Station) : State :=
  { s with lookup := { s.lookup with stations := s.lookup.stations.put way e } }
def State.removeStation (s : State) (way : Nat) : State :=
  { s with lookup := { s.lookup with stations := s.lookup.stations.erase way } }

/-- The class queue of port `p` and class `c`, head first (R94). -/
def State.queue (s : State) (p : Port) (c : Cls) : List Nat := s.queues.queues.getD (4 * p + c) []
def State.setQueue (s : State) (p : Port) (c : Cls) (q : List Nat) : State :=
  { s with queues := { s.queues with queues := s.queues.queues.setD (4 * p + c) q [] } }
def State.egressPort (s : State) (p : Port) : EgressPort := s.queues.ports.getD p EgressPort.powerOn
def State.setEgressPort (s : State) (p : Port) (v : EgressPort) : State :=
  { s with queues := { s.queues with ports := s.queues.ports.setD p v EgressPort.powerOn } }

/-- The posted count: the slots that hold a POSTED copy (R99). -/
def State.postedCount (s : State) (p : Port) : Nat := (s.egressPort p).slots.length

def State.livePort (s : State) (p : Port) : LivePort := s.live.ports.getD p LivePort.powerOn
def State.setLivePort (s : State) (p : Port) (v : LivePort) : State :=
  { s with live := { s.live with ports := s.live.ports.setD p v LivePort.powerOn } }
def State.liveness (s : State) (p : Port) : Liveness := (s.livePort p).state
def State.isUp (s : State) (p : Port) : Bool := decide (s.liveness p = .up)

/-- The present timebase (R113). -/
def State.now (s : State) : Word32 := s.live.timebase

def State.groupState (s : State) (g : GroupId) : GroupState := s.failover.groupStates.getD g .dark
def State.setGroupState (s : State) (g : GroupId) (v : GroupState) : State :=
  { s with failover := { s.failover with groupStates := s.failover.groupStates.setD g v .dark } }
def State.heldCopies (s : State) (g : GroupId) : List Nat := s.failover.hold.getD g []
def State.setHeldCopies (s : State) (g : GroupId) (q : List Nat) : State :=
  { s with failover := { s.failover with hold := s.failover.hold.setD g q [] } }
def State.isDrained (s : State) (p : Port) : Bool := s.failover.drained.getD p false
def State.setDrained (s : State) (p : Port) (v : Bool) : State :=
  { s with failover := { s.failover with drained := s.failover.drained.setD p v false } }
def State.setWalk (s : State) (w : Option Walk) : State := { s with failover := { s.failover with walk := w } }
def State.setWork (s : State) (l : List (Port × WorkKind)) : State :=
  { s with failover := { s.failover with work := l } }

/-- The record of tenant `n` in bank `b` (R148). -/
def State.tenantRecord (s : State) (b : Fin 2) (n : Nat) : TenantRecord :=
  s.acct.records.getD (256 * b + n) TenantRecord.zero
def State.setTenantRecord (s : State) (b : Fin 2) (n : Nat) (v : TenantRecord) : State :=
  { s with acct := { s.acct with records := s.acct.records.setD (256 * b + n) v TenantRecord.zero } }

def State.slot (s : State) (k : SlotId) : CommandSlot := s.slots.getD k CommandSlot.powerOn
def State.setSlot (s : State) (k : SlotId) (v : CommandSlot) : State :=
  { s with slots := s.slots.setD k v CommandSlot.powerOn }
def State.args (s : State) (k : SlotId) : List Byte := s.path.args.getD k zeroArgs
def State.setArgs (s : State) (k : SlotId) (v : List Byte) : State :=
  { s with path := { s.path with args := s.path.args.setD k v zeroArgs } }

/-- The part is ACTIVE (R167). -/
def State.isActive (s : State) : Bool := decide (s.path.mode = .active)

/-! ## The stream toward memory -/

/-- The channel address of a window offset (R163). -/
def State.windowAddr (s : State) (off : Nat) : Nat := s.path.winbase.toNat * Config.windowSize + off

/-- A write of the part's own at a window offset, every strobe set. -/
def State.ownWrite (s : State) (off : Nat) (bytes : List Byte) : BusWrite :=
  { addr := s.windowAddr off, lanes := strobed bytes, own := true }

/-- A write that crosses the part is forwarded unchanged, ahead of every write of the action it brings (R164, R165). -/
def State.forward (s : State) (addr : Nat) (g : Lanes) : State :=
  { s with bus := { s.bus with writes := { addr := addr, lanes := g, own := false } :: s.bus.writes } }

/-- The part issues one write of its own (R166). -/
def State.emit (s : State) (off : Nat) (bytes : List Byte) : State :=
  { s with bus := { s.bus with writes := s.ownWrite off bytes :: s.bus.writes } }

/-- A command slot's result or status words, sent behind every other write of the action (R166). -/
def State.emitStatus (s : State) (off : Nat) (bytes : List Byte) : State :=
  { s with bus := { s.bus with statuses := s.ownWrite off bytes :: s.bus.statuses } }

/-- The end of an action: its writes are sent, the notices after them, the status words last (R166). -/
def State.finish (s : State) : State :=
  { s with bus := { sent := s.bus.statuses ++ (s.bus.notices ++ (s.bus.writes ++ s.bus.sent)), writes := [],
                    notices := [], statuses := [] } }

/-- The byte one write leaves at a channel address, if it writes there. -/
def BusWrite.byteAt (w : BusWrite) (addr : Nat) : Option Byte :=
  if addr < w.addr then none else (w.lanes[addr - w.addr]?).join

/-- What memory holds at a channel address: the last write to it, or nothing known where nothing was written (R163). -/
def lastWritten : List BusWrite → Nat → Option Byte
  | [], _ => none
  | w :: rest, addr => (w.byteAt addr).or (lastWritten rest addr)

/-- The byte a read at a channel address returns (R163). -/
def State.memByte (s : State) (addr : Nat) : Option Byte := lastWritten s.bus.sent addr

/-! ## Notices -/

/-- The notice kinds that Table 11-1 numbers. -/
inductive NoticeKind where
  | portState
  | groupState
  | shedLevel
  | stationLocked
  | staticConflict
  | sweepOverrun
  | flushLost
  | replicationDepth
  | intakeFault
  | strayCompletion
  | tableRejected
  | tableAbandoned
  | epochExported
  | cmdIgnored
  deriving DecidableEq, Repr

/-- The kind numbers of Table 11-1. -/
def NoticeKind.code : NoticeKind → Nat
  | .portState => 1
  | .groupState => 2
  | .shedLevel => 3
  | .stationLocked => 4
  | .staticConflict => 5
  | .sweepOverrun => 6
  | .flushLost => 7
  | .replicationDepth => 8
  | .intakeFault => 9
  | .strayCompletion => 10
  | .tableRejected => 11
  | .tableAbandoned => 12
  | .epochExported => 13
  | .cmdIgnored => 14

/-- The 32 bytes of a notice (Table 10-5). -/
def noticeBytes (seq : Word32) (kind : NoticeKind) (gap : Bool) (time : Word32) (subject first second : Nat) :
    List Byte :=
  leBytes 4 seq.toNat ++ leBytes 2 kind.code ++ leBytes 2 gap.toNat ++ leBytes 4 time.toNat ++ leBytes 2 subject ++
    leBytes 2 0 ++ leBytes 4 first ++ leBytes 4 second ++ leBytes 8 0

/-- The ring is full: the notices between the consumer copy and the producer fill it (R175). -/
def NoticeWriter.full (w : NoticeWriter) : Bool := decide (Config.noticeRoom ≤ (w.producer - w.consumer).toNat)

/-- A block asks for a notice: it is written at the producer's position with the gap flag as it stands, or, the ring
full, lost with the gap flag set (R175). -/
def State.ask (s : State) (kind : NoticeKind) (subject first second : Nat) : State :=
  if s.notices.full then { s with notices := { s.notices with gap := true } }
  else
    { s with
      notices := { s.notices with producer := s.notices.producer + 1, gap := false }
      bus := { s.bus with
        notices :=
          s.ownWrite (Config.noticeRing + 32 * (s.notices.producer.toNat % Config.noticeRoom))
            (noticeBytes s.notices.producer kind s.notices.gap s.now subject first second) :: s.bus.notices } }

end Sys2Proof.Machine
end

