-- ==== Sys2Proof/Machine/Flags.lean ====
section
/-! DEFINITION. The conditions and levels the part derives: timers and when they are due, saturating counters, the shed
level, posting eligibility, staleness, group state, NOTICE_N, and the codes of Table 11-2. -/
namespace Sys2Proof.Machine

/-! ## Timers (R114, R115) -/

/-- The microseconds from a start to the expiry of a timer of this count and unit: count 0 acts as 1; unit 0 counts
microseconds, unit 1 counts 100 µs marks, units 2 and 3 count 10 ms marks, and a mark at the very microsecond of the
start is not counted. The dividers give the microseconds since the last mark of each kind. -/
def timerSpan (f : TimerField) (div100us div10ms : Nat) : Nat :=
  let n := if f.count = 0 then 1 else f.count
  match f.unit with
  | 0 => n
  | 1 => 100 * n - div100us
  | _ => 10000 * n - div10ms

/-- The timebase at which a timer started now expires. -/
def State.expiry (s : State) (f : TimerField) : Word32 :=
  s.now + BitVec.ofNat 32 (timerSpan f s.live.div100us s.live.div10ms)

/-- A running timer's expiry has been reached. Every interval is far below 2^31 µs, so the wrapping difference tells a
moment that has come from one that is still to come (log entry 8). -/
def due (t : Option Word32) (now : Word32) : Bool :=
  match t with
  | none => false
  | some e => decide ((now - e).toNat < 2 ^ 31)

/-- The aging period in microseconds; a field of 0 is read as 1 (R47). -/
def agingSpan (agingPeriod : Nat) : Nat := 10000 * (if agingPeriod = 0 then 1 else agingPeriod)

/-! ## Counters (R150) -/

/-- The largest value of a 32-bit counter. -/
def max32 : Nat := 2 ^ 32 - 1

/-- The largest value of a 48-bit counter. -/
def max48 : Nat := 2 ^ 48 - 1

/-- An add to a counter: a sum above the largest value leaves the counter at its largest value. -/
def satAdd (top a n : Nat) : Nat := if a + n > top then top else a + n

/-- The add was clamped. -/
def satHit (top a n : Nat) : Bool := decide (a + n > top)

/-! ## The shed level (R80) -/

/-- One evaluation of the shed level for free count `f`. -/
def evaluateShed (e : GlobalEntry) (level : ShedLevel) (f : Nat) : ShedLevel :=
  match level with
  | .normal => if f < e.criticalFloor then .critical else if f < e.tightFloor then .tight else .normal
  | .tight =>
    if f < e.criticalFloor then .critical
    else if f ≥ e.tightFloor + e.hysteresis then .normal else .tight
  | .critical => if f ≥ e.criticalFloor + e.hysteresis then .tight else .critical

/-- A change of level toward NORMAL (R6). -/
def ShedLevel.rises : ShedLevel → ShedLevel → Bool
  | .critical, .tight => true
  | .critical, .normal => true
  | .tight, .normal => true
  | _, _ => false

/-- The refill target of a port of this issue target (Table 1-1). -/
def refillTarget (level : ShedLevel) (t : Nat) : Nat :=
  match level with
  | .normal => t
  | .tight => t / 2
  | .critical => 0

/-! ## Thresholds (R88) -/

/-- The dynamic threshold of alpha code `a` at a free count. -/
def threshold (a free : Nat) : Nat :=
  min (if 4 ≤ a then free * 2 ^ (a - 4) else free / 2 ^ (4 - a)) 65536

/-- The EXCESS threshold. -/
def excessThreshold (a free : Nat) : Nat := threshold a free / 2

/-! ## Posting (R100, R103) -/

/-- The class a phase names, if it names one (R97). -/
def Phase.cls? : Phase → Option Cls
  | .skip => none
  | .class1 => some 1
  | .class2 => some 2
  | .class3 => some 3

/-- The four classes in ascending order. -/
def allClasses : List Cls := [0, 1, 2, 3]

/-- All four class queues of the port are empty (R98). -/
def State.queuesEmpty (s : State) (p : Port) : Bool := allClasses.all fun c => (s.queue p c).isEmpty

/-- The port is eligible for posting (R100). -/
def State.eligible (s : State) (p : Port) : Bool :=
  s.isUp p && decide (s.postedCount p < (s.portEntry p).window) &&
    ((s.egressPort p).slots.find (s.egressPort p).nextWrite).isNone && !s.queuesEmpty p

/-- The candidate `tag` of class `c` at port `p` is stale (R103). -/
def State.isStale (s : State) (p : Port) (c : Cls) (tag : Nat) : Bool :=
  let limit := (s.profileOf p c).ageLimit
  match s.copy tag with
  | none => false
  | some k => decide (limit ≠ 0 ∧ limit < (s.now - k.enqueued).toNat)

/-! ## Groups (R130, R131, R132) -/

/-- The member ports of a group entry, in preference order. -/
def GroupEntry.ports (e : GroupEntry) : List Port := (e.members.take e.count).filterMap fun b => portOf b.toNat

/-- The usable members: the members that are UP, in list order (R131). -/
def State.usable (s : State) (g : GroupId) : List Port := (s.groupEntry g).ports.filter s.isUp

/-- The member choice of group `g` for flow hash `h`; `none` is NO_PATH (R131). -/
def State.memberChoice (s : State) (g : GroupId) (h : Nat) : Option Port :=
  let u := s.usable g
  match (s.groupEntry g).mode with
  | .ordered => u.head?
  | .spread => u[h * u.length / 2 ^ 16]?

/-- Port `p` has evacuation work: an EVACUATE entry on the list, or the running evacuation walk (R132). A drain walk of
`p` is none, which R147 puts otherwise for an entry into UP: DESIGN CHOICE for R132, log entry 24. -/
def State.evacuating (s : State) (p : Port) : Bool :=
  decide ((p, WorkKind.evacuate) ∈ s.failover.work) ||
    (match s.failover.walk with
     | some w => decide (w.port = p ∧ w.kind = .evacuate)
     | none => false)

/-- The members of `g` with evacuation work (R132). -/
def State.evacuatingMembers (s : State) (g : GroupId) : List Port := (s.groupEntry g).ports.filter s.evacuating

/-- The state a recompute of group `g` finds (R132). -/
def State.computeGroup (s : State) (g : GroupId) : GroupState :=
  if !(s.evacuatingMembers g).isEmpty then .evacuating
  else if !(s.usable g).isEmpty then .active
  else .dark

/-- The work list holds something or a walk runs: late aborts are held (R143), and the calm point is not reached. -/
def State.walkWork (s : State) : Bool := !s.failover.work.isEmpty || s.failover.walk.isSome

/-- How many copies the hold pool holds (R142). -/
def State.holdCount (s : State) : Nat := (s.failover.hold.map fun e => e.2.length).sum

/-! ## Outputs and codes -/

/-- NOTICE_N is asserted (low) (R176). -/
def State.noticeAsserted (s : State) : Bool := decide (s.notices.producer ≠ s.notices.consumer)

/-- Table 11-2. -/
def Liveness.code : Liveness → Nat
  | .adminDown => 0
  | .down => 1
  | .trial => 2
  | .up => 3
  | .stalled => 4

/-- The causes of a change of liveness state (R116). -/
inductive StateCause where
  | status
  | trialExpiry
  | stallExpiry
  | completion
  | adminDown
  | adminRelease
  | portReset
  deriving DecidableEq, Repr

/-- Table 11-2. -/
def StateCause.code : StateCause → Nat
  | .status => 1
  | .trialExpiry => 2
  | .stallExpiry => 3
  | .completion => 4
  | .adminDown => 5
  | .adminRelease => 6
  | .portReset => 7

/-- Table 11-2. -/
def GroupState.code : GroupState → Nat
  | .active => 0
  | .evacuating => 1
  | .dark => 2

/-- Table 11-2. -/
def ShedLevel.code : ShedLevel → Nat
  | .normal => 0
  | .tight => 1
  | .critical => 2

/-- Table 11-2: target kind 1 PORT, 2 GROUP, 3 LIST. -/
def Target.kindCode : Target → Nat
  | .port _ => 1
  | .group _ => 2
  | .list _ => 3

/-- The target number. -/
def Target.number : Target → Nat
  | .port p => p
  | .group g => g
  | .list l => l

/-- The counter number of a drop cause (R161). -/
def DropCause.index : DropCause → Nat
  | .ingressError => 0
  | .segmentOff => 1
  | .meter => 2
  | .shed => 3
  | .tenantQuota => 4
  | .queueFull => 5
  | .noCopy => 6
  | .holdFull => 7
  | .noPath => 8
  | .stale => 9
  | .portDown => 10
  | .egressError => 11

end Sys2Proof.Machine
end

