-- ==== Sys2Proof/Machine/Operands.lean ====
section
/-! DEFINITION. The fields the part reads from the records that pass it (Tables 10-5 and 11-3), and the lengths it
derives from a frame (R72). -/
namespace Sys2Proof.Machine

/-- A ready word as a write carries it (R21, Table 10-5): the marker C3h in bits 31 to 24. -/
def readyMarker (g : Lanes) : Bool := allStrobes g 60 4 && decide (field (carried g) 63 1 = 0xC3)

/-- The lap bit of the ready word a write carries (Table 10-5). -/
def readyLap (g : Lanes) : Bool := bit (field (carried g) 60 4) 0

/-- An arrival descriptor (Table 2-1). -/
structure Descriptor where
  length : Nat
  cellCount : Nat
  priority : Nat
  tag : Nat
  dst : StationAddr
  src : StationAddr
  fcsBad : Bool
  truncated : Bool
  words : List Word32
  deriving DecidableEq, Repr

/-- The fields of the 64 descriptor bytes (Table 10-5). -/
def Descriptor.read (b : List Byte) : Descriptor :=
  { length := bits (field b 0 2) 13 0
    cellCount := field b 2 1
    priority := bits (field b 3 1) 2 0
    tag := bits (field b 4 2) 11 0
    dst := stationAt b 6
    src := stationAt b 12
    fcsBad := bit (field b 18 1) 0
    truncated := bit (field b 18 1) 1
    words := [0, 1, 2, 3, 4].map fun i => BitVec.ofNat 32 (field b (20 + 4 * i) 4) }

/-- The station address is a group address: the low bit of its first octet (R40). -/
def isGroupAddress (a : StationAddr) : Bool := a.getLsbD 40

/-- The wire length L_w (R72). -/
def wireLength (length : Nat) : Nat := length + 20

/-- The cells a frame of this length occupies: the length divided by 256, rounded up (R72). -/
def cellsFor (length : Nat) : Nat := (length + 255) / 256

/-- The second validation step (R26). -/
def Descriptor.sizeValid (d : Descriptor) : Bool :=
  decide (60 ≤ d.length ∧ d.length ≤ 9600 ∧ d.cellCount = cellsFor d.length)

/-- The flow hash of five flow words under a hash rotation (R31). -/
def flowHash (rotation : Nat) (words : List Word32) : Nat :=
  let h := (words.zipIdx.foldl (fun (h : Word32) e => (h.rotateLeft ((rotation + 7 * e.2) % 32)) ^^^ e.1) 0)
  ((h >>> 16) ^^^ (h &&& 0xFFFF)).toNat

/-- A completion word (Table 10-5): copy tag echo, status byte, lap bit. -/
structure CompletionWord where
  echo : Nat
  status : Nat
  lap : Bool
  deriving DecidableEq, Repr

/-- The completion word a write to an egress-ring granule carries (Table 10-5). -/
def CompletionWord.read (g : Lanes) : CompletionWord :=
  { echo := bits (field (carried g) 56 4) 16 0
    status := field (carried g) 60 1
    lap := bit (field (carried g) 63 1) 0 }

/-- The change count of a port status word (Table 10-5). -/
def statusChangeCount (g : Lanes) : Nat := field (carried g) 60 2

/-- The link state of a port status word: bit 16 set is UP (Table 10-5). -/
def statusLinkUp (g : Lanes) : Bool := bit (field (carried g) 60 4) 16

/-- The value a write of the consumer word carries (Table 10-5). -/
def consumerValue (g : Lanes) : Word32 := BitVec.ofNat 32 (field (carried g) 0 4)

/-- The four bytes of a command word (Table 10-5). -/
def commandWordBytes (kind : Byte) (w : SlotWrite) : List Byte :=
  leBytes 2 w.tag.toNat ++ [w.reserved, kind]

/-- The whole granule of a command write. -/
def slotGranule (kind : Byte) (w : SlotWrite) : Lanes :=
  (w.low.take 60 ++ List.replicate (60 - w.low.length) none) ++ strobed (commandWordBytes kind w)

/-- The argument fields of Table 11-3. -/
def argSegment (a : List Byte) : Nat := field a 0 2
def argStation (a : List Byte) : StationAddr := stationAt a 2
def argTargetKind (a : List Byte) : Nat := field a 8 1
def argTargetNumber (a : List Byte) : Nat := field a 10 2
def argFlushKind (a : List Byte) : Nat := field a 0 1
def argFlushNumber (a : List Byte) : Nat := field a 2 2
def argPort (a : List Byte) : Nat := field a 0 1
def argTenant (a : List Byte) : Nat := field a 0 2

/-- A segment argument in its range, 1 to 4,095 (Table 11-3). -/
def segmentArg? (a : List Byte) : Option Nat :=
  if 1 ≤ argSegment a ∧ argSegment a ≤ 4095 then some (argSegment a) else none

/-- The target that STATION_ADD names, if its kind is one of the three and its number in that kind's range (R55). -/
def targetArg? (a : List Byte) : Option Target :=
  match argTargetKind a with
  | 1 => (portOf (argTargetNumber a)).map Target.port
  | 2 => (groupOf (argTargetNumber a)).map Target.group
  | 3 => (listOf (argTargetNumber a)).map Target.list
  | _ => none

/-- The request FLUSH names, if its kind is known and its number in that kind's range (R58, Table 11-3). -/
def flushArg? (a : List Byte) : Option FlushReq :=
  match argFlushKind a with
  | 1 => (portOf (argFlushNumber a)).map FlushReq.byPort
  | 2 => (groupOf (argFlushNumber a)).map FlushReq.byGroup
  | 3 => if 1 ≤ argFlushNumber a ∧ argFlushNumber a ≤ 4095 then some (.bySegment (argFlushNumber a)) else none
  | 4 => some .allLearned
  | _ => none

end Sys2Proof.Machine
end

