-- ==== Sys2Proof/Machine/Counters.lean ====
section
/-! DEFINITION. What the accounting unit counts in the live bank (9.2, 9.3): one operation per kind of report. -/
namespace Sys2Proof.Machine

/-- The live record of a tenant is changed (R149). -/
def State.updateLive (s : State) (n : Tenant) (f : TenantRecord → TenantRecord) : State :=
  s.setTenantRecord s.acct.live n (f (s.tenantRecord s.acct.live n))

/-- One drop under a cause (R151, R152); the drop counters saturate without a flag (Table 9-1). -/
def TenantRecord.addDrop (c : DropCause) (r : TenantRecord) : TenantRecord :=
  { r with drops := r.drops.setD c.index (satAdd max32 (r.drops.getD c.index 0) 1) 0 }

/-- One drop under a cause is counted against tenant `n` (R151, R152). -/
def State.countDrop (s : State) (c : DropCause) (n : Tenant) : State := s.updateLive n (TenantRecord.addDrop c)

/-- One copy retired under MERGED (R152). -/
def State.countMerged (s : State) (n : Tenant) : State :=
  s.updateLive n fun r => { r with merged := satAdd max32 r.merged 1 }

/-- One learn refused (R46). -/
def State.countRefusal (s : State) (n : Tenant) : State :=
  s.updateLive n fun r => { r with learnRefusals := satAdd max32 r.learnRefusals 1 }

/-- One admitted frame of a colour (R153); these counters set COUNT_SAT (R150). -/
def TenantRecord.addAdmitted (c : Colour) (r : TenantRecord) : TenantRecord :=
  match c with
  | .committed =>
    { r with
      admittedCommitted := satAdd max32 r.admittedCommitted 1
      countSat := r.countSat || satHit max32 r.admittedCommitted 1 }
  | .excess =>
    { r with
      admittedExcess := satAdd max32 r.admittedExcess 1
      countSat := r.countSat || satHit max32 r.admittedExcess 1 }

/-- One admitted frame is counted against tenant `n` (R93, R153). -/
def State.countAdmitted (s : State) (c : Colour) (n : Tenant) : State := s.updateLive n (TenantRecord.addAdmitted c)

/-- An add to the charge; a clamped add sets CHARGE_SAT (R156). -/
def TenantRecord.addCharge (amount : Nat) (r : TenantRecord) : TenantRecord :=
  { r with charge := satAdd max48 r.charge amount, chargeSat := r.chargeSat || satHit max48 r.charge amount }

/-- The delivery of one copy of wire length `lw` with a charge and a mark (R154). -/
def TenantRecord.addDelivered (lw amount : Nat) (mark : Bool) (r : TenantRecord) : TenantRecord :=
  let r :=
    { r with
      deliveredFrames := satAdd max32 r.deliveredFrames 1
      deliveredBytes := satAdd max48 r.deliveredBytes lw
      countSat := r.countSat || satHit max32 r.deliveredFrames 1 || satHit max48 r.deliveredBytes lw }
  let r := r.addCharge amount
  if mark then { r with markedDelivered := satAdd max32 r.markedDelivered 1 } else r

/-- The tariff of a class and colour for a tenant, read as installed now (R155, Table 10-5). -/
def State.tariff (s : State) (n : Tenant) (c : Cls) (k : Colour) : Nat :=
  (s.tariffSet (s.tenantEntry n).tariffSet).getD (2 * c + (if k = .committed then 0 else 1)) 0

/-- A SENT copy is counted and charged (R154, R156). -/
def State.countDelivered (s : State) (n : Tenant) (length : Nat) (k : Colour) (c : Cls) (mark : Bool) : State :=
  s.updateLive n (TenantRecord.addDelivered (wireLength length) (wireLength length * s.tariff n c k) mark)

/-- The causes under which a copy is retired (R16). -/
inductive RetireCause where
  | sent
  | egressError
  | stale
  | portDown
  | noPath
  | merged
  | holdFull
  deriving DecidableEq, Repr

/-- Step 2 of R16: the cause of a retirement is counted against the frame's tenant, and a SENT copy charged. -/
def State.countRetired (s : State) (cause : RetireCause) (f : Frame) (k : Copy) : State :=
  match cause with
  | .sent => s.countDelivered f.tenant f.length f.colour k.cls k.mark
  | .egressError => s.countDrop .egressError f.tenant
  | .stale => s.countDrop .stale f.tenant
  | .portDown => s.countDrop .portDown f.tenant
  | .noPath => s.countDrop .noPath f.tenant
  | .merged => s.countMerged f.tenant
  | .holdFull => s.countDrop .holdFull f.tenant

end Sys2Proof.Machine
end

