-- ==== Sys2Proof/Machine/Slots.lean ====
section
/-! DEFINITION. The command slots: the result codes, how a slot ends and how it stays BUSY (R178, R179, R181), and how a
command word handed on for a slot starts a command or is ignored. -/
namespace Sys2Proof.Machine

/-- Table 11-4. -/
inductive ResultCode where
  | none
  | replaced
  | argument
  | state
  | busy
  | full
  | setFull
  | duplicate
  | notFound
  | staticRemoved
  | learnedRemoved
  deriving DecidableEq, Repr

/-- Table 11-4. -/
def ResultCode.code : ResultCode → Nat
  | .none => 0
  | .replaced => 1
  | .argument => 2
  | .state => 3
  | .busy => 4
  | .full => 5
  | .setFull => 6
  | .duplicate => 7
  | .notFound => 8
  | .staticRemoved => 9
  | .learnedRemoved => 10

/-- The state codes of a status word (Table 10-5). -/
def SlotStatus.code : SlotStatus → Nat
  | .idle => 0
  | .busy => 1
  | .done => 2
  | .failed => 3

/-- The four bytes of a status word (Table 10-5). -/
def statusWordBytes (st : SlotStatus) (code : ResultCode) (tag : BitVec 16) : List Byte :=
  leBytes 2 tag.toNat ++ leBytes 1 code.code ++ leBytes 1 st.code

/-- The command in slot `k` ends: the slot takes its final state, and its result value and status word are written once
(R179), in one write: DESIGN CHOICE, log entry 7. -/
def State.endSlot (s : State) (k : SlotId) (st : SlotStatus) (code : ResultCode) (result : Nat) : State :=
  (s.setSlot k { s.slot k with status := st }).emitStatus (Config.commandSlots + 0x40 * k + 52)
    (leBytes 4 result ++ statusWordBytes st code (s.slot k).tag)

/-- The command ends DONE. -/
def State.done (s : State) (k : SlotId) (code : ResultCode) (result : Nat) : State := s.endSlot k .done code result

/-- The command ends FAILED; its result value is 0 (R179). -/
def State.fail (s : State) (k : SlotId) (code : ResultCode) : State := s.endSlot k .failed code 0

/-- The command stays BUSY past its starting action: a status word of BUSY with its tag and result code 0 is written
(R179). -/
def State.stayBusy (s : State) (k : SlotId) : State :=
  s.emitStatus (Config.commandSlots + 0x40 * k + 56) (statusWordBytes .busy .none (s.slot k).tag)

/-- The bytes 0 to 47 of slot `k` that a write carries are applied to its argument copy (R172). -/
def State.takeArgs (s : State) (k : SlotId) (g : Lanes) : State := s.setArgs k (merge (s.args k) (g.take 48))

/-- Slot `k` is BUSY. -/
def State.slotBusy (s : State) (k : SlotId) : Bool := decide ((s.slot k).status = .busy)

/-- A command word for a BUSY slot is ignored, and CMD_IGNORED is posted (R178). -/
def State.ignoreCommand (s : State) (k : SlotId) (kind : Byte) (tag : BitVec 16) : State :=
  s.ask .cmdIgnored k (2 ^ 24 * kind.toNat + tag.toNat) (2 ^ 24 * (s.slot k).kind.toNat + (s.slot k).tag.toNat)

/-- The slot is BUSY with the command that starts (R178). -/
def State.startSlot (s : State) (k : SlotId) (kind : Byte) (tag : BitVec 16) : State :=
  s.setSlot k { status := .busy, kind := kind, tag := tag }

/-- In PASSIVE every kind except START ends FAILED with STATE (R179). -/
def State.requireActive (s : State) (k : SlotId) (run : State) : State := if s.isActive then run else s.fail k .state

end Sys2Proof.Machine
end

