-- ==== Sys2Proof/Machine/Accounting.lean ====
section
/-! DEFINITION. Closing an epoch and the export walk (R157 to R161). -/
namespace Sys2Proof.Machine

/-- The other bank (R157). -/
def otherBank (b : Fin 2) : Fin 2 := if b = 0 then 1 else 0

/-- The window offset of export bank `b` (R161). -/
def exportBank (b : Fin 2) : Nat := Config.exportArea + 0x4040 * b

/-- The fourteen counters of the narrowed mask, in their order: the twelve drops, merged copies, learn refusals
(R161). -/
def TenantRecord.narrowed (r : TenantRecord) : List Nat :=
  (List.range 12).map (fun i => r.drops.getD i 0) ++ [r.merged, r.learnRefusals]

/-- The drop total, clamped at 2^32 − 1 (Table 9-3). -/
def TenantRecord.dropTotal (r : TenantRecord) : Nat := min ((List.range 12).map fun i => r.drops.getD i 0).sum max32

/-- The narrowed mask: bit i set when counter i exceeds 65,535 (Table 9-3). -/
def TenantRecord.narrowedMask (r : TenantRecord) : Nat :=
  (r.narrowed.zipIdx.map fun e => if 65535 < e.1 then 2 ^ e.2 else 0).sum

/-- The 64 bytes of an export record (Table 9-3). -/
def exportRecord (r : TenantRecord) (tenant : Nat) (epoch : Word32) : List Byte :=
  leBytes 4 r.admittedCommitted ++ leBytes 4 r.admittedExcess ++ leBytes 4 r.deliveredFrames ++
    leBytes 6 r.deliveredBytes ++ leBytes 5 (r.charge / 256) ++
    leBytes 1 (r.chargeSat.toNat + 2 * r.countSat.toNat) ++ leBytes 4 r.markedDelivered ++ leBytes 4 r.dropTotal ++
    (r.narrowed.flatMap fun n => leBytes 2 (min n 65535)) ++ leBytes 2 r.narrowedMask ++ leBytes 1 tenant ++
    leBytes 1 epoch.toNat

/-- The completion word of a finished header: 3Ch above the low 24 bits of the closed epoch number (Table 9-4). -/
def headerMark (epoch : Word32) : List Byte := leBytes 3 epoch.toNat ++ [0x3C]

/-- The 64 bytes of an export header (Table 9-4). -/
def exportHeader (w : ExportWalk) : List Byte :=
  leBytes 4 w.epoch.toNat ++ leBytes 4 w.openTime.toNat ++ leBytes 4 w.closeTime.toNat ++ leBytes 2 256 ++
    leBytes 1 w.bank ++ leBytes 1 (min w.saturated 255) ++ leBytes 44 0 ++ headerMark w.epoch

/-- The walk record changes. -/
def State.setExport (s : State) (w : Option ExportWalk) : State := { s with acct := { s.acct with walk := w } }

/-- An accepted EPOCH_CLOSE of slot `k`: the banks flip, the walk runs over the closed bank, the epoch advances, and the
completion word of the header is written as 0 (R157). -/
def State.closeEpoch (s : State) (k : SlotId) : State :=
  let b := s.acct.live
  let s1 : State :=
    { s with
      acct := { s.acct with
        live := otherBank b
        epoch := s.acct.epoch + 1
        openTime := s.now
        walk := some
          { bank := b, epoch := s.acct.epoch, openTime := s.acct.openTime, closeTime := s.now, slot := k,
            nextTenant := 0, saturated := 0 } } }
  (s1.emit (exportBank b + 60) (leBytes 4 0)).stayBusy k

/-- EPOCH_CLOSE once it has started (R157, R179). -/
def State.epochCloseBody (s : State) (k : SlotId) : State :=
  s.requireActive k <| if s.acct.walk.isSome then s.fail k .busy else s.closeEpoch k

/-- The carry of a closed charge: its low 8 bits, or nothing when it saturated (R159). -/
def TenantRecord.carry (r : TenantRecord) : Nat := if r.chargeSat then 0 else r.charge % 256

/-- One tenant of an export step (R158): its record is written, the fraction carried into the live bank, and the closed
record cleared. Each record is a write of its own: DESIGN CHOICE, log entry 7. -/
def State.exportTenant (w : ExportWalk) (s : State) (n : Nat) : State :=
  let r := s.tenantRecord w.bank n
  let s1 := s.emit (exportBank w.bank + 0x40 + 0x40 * n) (exportRecord r n w.epoch)
  let l := s1.tenantRecord s1.acct.live n
  let s2 := if r.chargeSat then s1 else s1.setTenantRecord s1.acct.live n (l.addCharge r.carry)
  s2.setTenantRecord w.bank n TenantRecord.zero

/-- The tenants of the step that begins at tenant `n` (R158). -/
def stepTenants (n : Nat) : List Nat := List.range' n 16

/-- The saturated records among the tenants of a step (R158). -/
def State.saturatedIn (s : State) (b : Fin 2) (n : Nat) : Nat :=
  ((stepTenants n).filter fun t => (s.tenantRecord b t).chargeSat).length

/-- A step of the running export walk (R158); the step that treats tenant 255 ends it (R160). -/
def State.exportStep (s : State) (w : ExportWalk) : State :=
  let s1 := (stepTenants w.nextTenant).foldl (State.exportTenant w) s
  let w1 := { w with nextTenant := w.nextTenant + 16, saturated := w.saturated + s.saturatedIn w.bank w.nextTenant }
  if w1.nextTenant < 256 then s1.setExport (some w1)
  else
    ((((s1.emit (exportBank w.bank) (exportHeader w1)).ask .epochExported w.slot w.epoch.toNat
      (2 ^ 16 * w.bank + w1.saturated)).done w.slot .none 0).setExport none)

/-- EXPORT_WALK_STEP (R158). -/
def execExportWalkStep (s : State) : Host.Outcome State Fault Refusal :=
  match s.acct.walk with
  | none => .next s
  | some w => .next (s.exportStep w).finish

end Sys2Proof.Machine
end

