-- ==== Sys2Proof/Machine/Cells.lean ====
section
/-! DEFINITION. The cell manager and the shed level it drives: refill runs and reports of the free count (R4 to R6, R80,
R81), claims and link words (R7, R9), the target-port set (R11), copy creation (R14), retirement and the freeing of a
frame (R16, R17). -/
namespace Sys2Proof.Machine

/-! ## Free-cell rings and refill runs -/

/-- The four bytes of a free-cell entry (R4, Table 10-5). -/
def freeCellEntry (cell : Nat) (lap : Bool) : List Byte := leBytes 2 cell ++ [0, if lap then 0x80 else 0]

/-- The next ring position and lap after position `pos` of a free-cell ring (R4). -/
def nextRingPos (pos : Nat) (lap : Bool) : Nat × Bool := if pos ≥ 511 then (0, !lap) else (pos + 1, lap)

/-- The free-cell entries of port `p` for `cells`, from ring position `pos` and `lap` on; the newest write first (R4).
Each entry is a write of its own: DESIGN CHOICE, log entry 7. -/
def State.freeCellWrites (s : State) (p : Port) : Nat → Bool → List Nat → List BusWrite
  | _, _, [] => []
  | pos, lap, c :: rest =>
    s.freeCellWrites p (nextRingPos pos lap).1 (nextRingPos pos lap).2 rest ++
      [s.ownWrite (Config.freeCellRings + 0x800 * p + 4 * pos) (freeCellEntry c lap)]

/-- How many cells a refill run gives port `p`: up to its refill target, as far as the free list reaches (R5, R6). -/
def State.refillNeed (s : State) (p : Port) : Nat :=
  min (refillTarget s.admission.shed (s.portEntry p).issueTarget - s.issuedCount p) s.freeCount

/-- `n` cells go from the head of the free list to the newest end of the issued list of port `p`, and their free-cell
entries are written (R4, R6). -/
def State.issueCells (s : State) (p : Port) (n : Nat) : State :=
  let got := Runs.take n s.cells.freeList
  let r := s.cellPort p
  let s1 : State :=
    { s with
      cells := { s.cells with freeList := Runs.drop n s.cells.freeList }
      bus := { s.bus with writes := s.freeCellWrites p r.pos r.lap (Runs.toList got) ++ s.bus.writes } }
  s1.setCellPort p
    { issued := Runs.append r.issued got, pos := (r.pos + n) % 512,
      lap := if 512 ≤ r.pos + n then !r.lap else r.lap }

/-- The share of port `p` in a refill run (R6). -/
def State.refillPort (s : State) (p : Port) : State :=
  if s.refillNeed p = 0 then s else s.issueCells p (s.refillNeed p)

/-- A refill run over the ports in ascending order; made in ACTIVE only (R6). -/
def State.refillRun (s : State) : State := if s.isActive then allPorts.foldl State.refillPort s else s

/-- The shed level takes a new value and the change is reported (R81). -/
def State.setShed (s : State) (level : ShedLevel) : State :=
  ({ s with admission := { s.admission with shed := level } } : State).ask .shedLevel 0
    (256 * s.admission.shed.code + level.code) s.freeCount

/-- A report of the free count: the shed level is evaluated; a change is posted; a change toward NORMAL brings a refill
run, whose new free count, if it issued a cell, is reported in turn (R1, R6, R80, R81). The first argument bounds the
reports: each further one follows a rise, and two rises lead from CRITICAL to NORMAL, so three are enough. -/
def State.reportFree : Nat → State → State
  | 0, s => s
  | n + 1, s =>
    let level := evaluateShed s.tables.globalEntry s.admission.shed s.freeCount
    if level = s.admission.shed then s
    else
      let s1 := s.setShed level
      if s.admission.shed.rises level then
        let s2 := s1.refillRun
        if s2.freeCount = s1.freeCount then s1 else State.reportFree n s2
      else s1

/-- A new free count is reported (R1). -/
def State.report (s : State) : State := s.reportFree 3

/-- A refill run, and the report of the free count it leaves if it issued a cell (R6). -/
def State.refill (s : State) : State :=
  if s.refillRun.freeCount = s.freeCount then s else s.refillRun.report

/-- The end of an action's frees, which began with the free count `before`: the new count is reported once, and one
refill run follows (R17). -/
def State.settle (s : State) (before : Nat) : State :=
  if s.freeCount = before then s else s.report.refill

/-! ## Claims, link words and frees -/

/-- The `n` oldest cells of the issued list of port `p` are claimed (R7). -/
def State.claim (s : State) (p : Port) (n : Nat) : State :=
  s.setCellPort p { s.cellPort p with issued := Runs.drop n (s.cellPort p).issued }

/-- The cells a claim of `n` cells takes, oldest first (R7). -/
def State.claimed (s : State) (p : Port) (n : Nat) : List Nat := Runs.toList (Runs.take n (s.cellPort p).issued)

/-- The cell link map and the link words of a frame: each cell names the next, the last carries the end mark, FFFFh in
its link word (R9). Each link word is a write of its own: DESIGN CHOICE, log entry 7. -/
def State.writeLinks : List Nat → State → State
  | [], s => s
  | [c], s =>
    ({ s with cells := { s.cells with links := s.cells.links.put c none } } : State).emit (Config.linkArea + 2 * c)
      (leBytes 2 0xFFFF)
  | c :: d :: rest, s =>
    State.writeLinks (d :: rest)
      (({ s with cells := { s.cells with links := s.cells.links.put c (some d) } } : State).emit
        (Config.linkArea + 2 * c) (leBytes 2 d))

/-- Cells go to the tail of the free list in frame order, and their link map entries are removed (R8, R9). -/
def State.freeCells (s : State) (cells : List Nat) : State :=
  { s with
    cells := { s.cells with
      freeList := Runs.pushAll s.cells.freeList cells
      links := cells.foldl (fun m c => m.erase c) s.cells.links } }

/-- The cells the link map gives from `c` to the end mark, at most `n` of them (R17). -/
def linkedCells (links : Table (Option Nat)) : Nat → Nat → List Nat
  | 0, _ => []
  | n + 1, c =>
    match links.find c with
    | some (some d) => c :: linkedCells links n d
    | some none => [c]
    | none => []

/-! ## Frames and copies -/

/-- Port `p` joins a target-port set, kept in ascending order (R11). -/
def addPort (p : Port) : List Port → List Port
  | [] => [p]
  | q :: rest => if p < q then p :: q :: rest else if p = q then q :: rest else q :: addPort p rest

/-- Port `p` leaves a target-port set (R11). -/
def dropPort (p : Port) (l : List Port) : List Port := l.filter (· ≠ p)

/-- The frame under formation (Table 2-3), with the colour the admission unit adds (R75). -/
structure Forming where
  cells : List Nat
  port : Port
  segment : Nat
  tenant : Tenant
  length : Nat
  cellCount : Nat
  cls : Cls
  dst : StationAddr
  src : StationAddr
  flowHash : Nat
  colour : Colour
  deriving DecidableEq, Repr

/-- The key of the frame: its first cell (R10). -/
def Forming.first (f : Forming) : Nat := f.cells.headD 0

/-- The cost of a frame in tokens (R75). -/
def frameCost (length : Nat) : Nat := 16 * wireLength length

/-- The frame record is entered with its first copy record: the tokens of a COMMITTED frame are debited, the tenant's
held cell count rises, and one admitted frame is counted (R14, R77, R84, R93). -/
def State.enterFrame (s : State) (f : Forming) : State :=
  let s1 := s.setFrame f.first
    { tenant := f.tenant, length := f.length, cellCount := f.cellCount, colour := f.colour, flowHash := f.flowHash,
      copyCount := 0, ports := [] }
  let m := s1.meter f.tenant
  let s2 :=
    if f.colour = .committed then s1.setMeter f.tenant { m with tokens := m.tokens - frameCost f.length } else s1
  (s2.setHeldCells f.tenant (s2.heldCells f.tenant + f.cellCount)).countAdmitted f.colour f.tenant

/-- One more copy record names the frame (R14). -/
def State.raiseCopies (s : State) (first : Nat) : State :=
  match s.frame first with
  | none => s
  | some f => s.setFrame first { f with copyCount := f.copyCount + 1 }

/-- The frame's target-port set gains a port (R11). -/
def State.joinPort (s : State) (first : Nat) (p : Port) : State :=
  match s.frame first with
  | none => s
  | some f => s.setFrame first { f with ports := addPort p f.ports }

/-- The frame's target-port set loses a port (R11). -/
def State.leavePort (s : State) (first : Nat) (p : Port) : State :=
  match s.frame first with
  | none => s
  | some f => s.setFrame first { f with ports := dropPort p f.ports }

/-- Where a new copy goes: a port's class queue, or the hold pool under an evacuating group (R14). -/
inductive Place where
  | queue (p : Port)
  | hold (g : GroupId)
  deriving DecidableEq, Repr

/-- The copy count the frame has now: 0 while it is under formation (R14). -/
def State.copyCount (s : State) (first : Nat) : Nat :=
  match s.frame first with
  | none => 0
  | some f => f.copyCount

/-- A copy record can be had for the frame (R14). -/
def State.copyAvailable (s : State) (f : Forming) : Bool :=
  decide (0 < Runs.size s.cells.freeCopies) && decide (s.copyCount f.first < Config.copiesPerFrame)

/-- One post attempt is called for (R101). -/
def State.owe (s : State) (p : Port) : State :=
  s.setEgressPort p { s.egressPort p with owed := (s.egressPort p).owed + 1 }

/-- A created copy record takes its place: appended at the tail of the class queue with its port in the target-port
set, or appended to the group's held copies (R14, R67). -/
def State.placeNew (s : State) (tag first : Nat) (place : Place) (c : Cls) : State :=
  match place with
  | .queue p => ((s.setQueue p c (s.queue p c ++ [tag])).joinPort first p).owe p
  | .hold g => s.setHeldCopies g (s.heldCopies g ++ [tag])

/-- The record a creation makes (R13, R14). -/
def State.newCopy (s : State) (f : Forming) (place : Place) (via : Option GroupId) (mark : Bool) : Copy :=
  match place with
  | .queue p =>
    { state := .queued, frame := f.first, port := some p, cls := f.cls, via := via, mark := mark, enqueued := s.now }
  | .hold _ =>
    { state := .held, frame := f.first, port := none, cls := f.cls, via := via, mark := mark, enqueued := s.now }

/-- A request to create a copy record (R14): the head of the free copy list is taken, or the target is counted under
NO_COPY. -/
def State.createCopy (s : State) (f : Forming) (place : Place) (via : Option GroupId) (mark : Bool) : State :=
  if s.copyAvailable f then
    let tag := (Runs.toList (Runs.take 1 s.cells.freeCopies)).headD 0
    let s1 : State := { s with cells := { s.cells with freeCopies := Runs.drop 1 s.cells.freeCopies } }
    let s2 := s1.setCopy tag (s1.newCopy f place via mark)
    let s3 := if (s2.frame f.first).isNone then s2.enterFrame f else s2
    (s3.raiseCopies f.first).placeNew tag f.first place f.cls
  else s.countDrop .noCopy f.tenant

/-- The frame's last copy is gone: its record is removed, its cells are freed in frame order and its tenant's held cell
count falls (R17). The report of the free count and the refill run are the action's (`settle`). -/
def State.freeFrame (s : State) (first : Nat) (f : Frame) : State :=
  let s1 := (s.removeFrame first).freeCells (linkedCells s.cells.links s.cells.links.length first)
  s1.setHeldCells f.tenant (s1.heldCells f.tenant - f.cellCount)

/-- The record of a retired copy becomes FREE, at the tail of the free copy list (R16). -/
def State.releaseRecord (s : State) (tag : Nat) : State :=
  { s with
    cells := { s.cells with copies := s.cells.copies.erase tag, freeCopies := Runs.push s.cells.freeCopies tag } }

/-- Retirement of a copy whose owner has taken it out of its queue, posted set or hold list (R16, R17). -/
def State.retire (s : State) (tag : Nat) (cause : RetireCause) : State :=
  match s.copy tag with
  | none => s
  | some k =>
    let s1 :=
      match k.port with
      | some p => s.leavePort k.frame p
      | none => s
    match s1.frame k.frame with
    | none => s1.releaseRecord tag
    | some f =>
      let s2 := (s1.countRetired cause f k).releaseRecord tag
      if f.copyCount ≤ 1 then s2.freeFrame k.frame f
      else s2.setFrame k.frame { f with copyCount := f.copyCount - 1 }

end Sys2Proof.Machine
end

