-- ==== Sys2Proof/Machine/Queues.lean ====
section
/-! DEFINITION. The class queues: adoption of a pending schedule (R98), taking a copy from a queue (R95) and what that
does to a walk's place (R135), and the egress ring of a port (R99). -/
namespace Sys2Proof.Machine

/-- The schedule the port's entry names, as installed, becomes the schedule in force; the pending flag clears (R98). -/
def State.adopt (s : State) (p : Port) : State :=
  s.setEgressPort p
    { s.egressPort p with schedule := s.scheduleProfile (s.portEntry p).schedProfile, pendingSched := false }

/-- Adoption on empty queues, which also sets the phase pointer to 0 (R98). -/
def State.adoptIfEmpty (s : State) (p : Port) : State :=
  if (s.egressPort p).pendingSched && s.queuesEmpty p then
    let s1 := s.adopt p
    s1.setEgressPort p { s1.egressPort p with phase := 0 }
  else s

/-- The phase pointer advances by one; an advance from phase 63 returns it to 0 and adopts a pending schedule (R98,
R102). -/
def State.advancePhase (s : State) (p : Port) : State :=
  if 63 ≤ (s.egressPort p).phase then
    let s1 := s.setEgressPort p { s.egressPort p with phase := 0 }
    if (s1.egressPort p).pendingSched then s1.adopt p else s1
  else s.setEgressPort p { s.egressPort p with phase := (s.egressPort p).phase + 1 }

/-- A copy leaves a class queue, from wherever it stands; the others keep their order (R95). -/
def State.dequeue (s : State) (p : Port) (c : Cls) (tag : Nat) : State := s.setQueue p c ((s.queue p c).erase tag)

/-- The queue manager has taken a copy from the head of a queue of the walked port: a departed resume point becomes the
head, a departed recorded tail ends its class (R135). -/
def Walk.forget (w : Walk) (p : Port) (c : Cls) (tag : Nat) : Walk :=
  if w.port = p then
    { w with
      resume := if w.cls = c.val ∧ w.resume = some tag then none else w.resume
      tails := if w.tails.getD c none = some tag then w.tails.set c none else w.tails }
  else w

/-- The walk meets a departure from the head of a class queue (R135). -/
def State.forgetInWalk (s : State) (p : Port) (c : Cls) (tag : Nat) : State :=
  s.setWalk (s.failover.walk.map fun w => w.forget p c tag)

/-- A copy becomes QUEUED at the tail of its class queue on port `q`, and `q` joins its frame's target-port set (R11,
R95). -/
def State.appendQueued (s : State) (tag : Nat) (k : Copy) (q : Port) : State :=
  ((s.setCopy tag { k with state := .queued, port := some q }).setQueue q k.cls (s.queue q k.cls ++ [tag])).joinPort
    k.frame q

/-- The frame's cell count, as a queue's cell depth counts it (R94). -/
def State.cellsOfCopy (s : State) (tag : Nat) : Nat :=
  match s.copy tag with
  | none => 0
  | some k =>
    match s.frame k.frame with
    | none => 0
    | some f => f.cellCount

/-- The cell depth of a class queue: the sum of the cell counts of its copies' frames (R94). -/
def State.cellDepth (s : State) (p : Port) (c : Cls) : Nat := ((s.queue p c).map s.cellsOfCopy).sum

/-- The copy depth of a class queue (R94). -/
def State.copyDepth (s : State) (p : Port) (c : Cls) : Nat := (s.queue p c).length

/-- The slot after slot `n` of an egress ring, and its lap (R99). -/
def nextEgressSlot (n : Nat) (lap : Bool) : Nat × Bool := if n ≥ 255 then (0, !lap) else (n + 1, lap)

/-- The tags of the posted set of a port, oldest post first. Slots are filled in ring order and a filled slot is not
posted into again, so the oldest post stands at the next write slot or behind it (R99, R111). -/
def EgressPort.postedInOrder (e : EgressPort) : List Nat :=
  ((e.slots.filter fun x => decide (e.nextWrite ≤ x.1)) ++ (e.slots.filter fun x => decide (x.1 < e.nextWrite))).map
    fun x => x.2.tag

/-- Slot `n` of the egress ring of port `p` is emptied (R99). -/
def State.emptySlot (s : State) (p : Port) (n : Nat) : State :=
  s.setEgressPort p { s.egressPort p with slots := (s.egressPort p).slots.erase n }

end Sys2Proof.Machine
end

