-- ==== Sys2Proof/Machine/Failover.lean ====
section
/-! DEFINITION. The failover controller: group recomputes (R132), the work list (R133), walks and their steps (R134 to
R140), the hold pool and late aborts (R142, R143), and the calm point (R145). -/
namespace Sys2Proof.Machine

/-! ## Group state -/

/-- A recompute of group `g`; a change posts GROUP_STATE (R132). -/
def State.recomputeGroup (s : State) (g : GroupId) : State :=
  if s.computeGroup g = s.groupState g then s
  else
    (s.setGroupState g (s.computeGroup g)).ask .groupState g
      (256 * (s.groupState g).code + (s.computeGroup g).code)
      (65536 * (s.usable g).length + (s.evacuatingMembers g).length)

/-- The groups of which `p` is a member, as installed, in ascending order. -/
def State.groupsOf (s : State) (p : Port) : List GroupId := allGroups.filter fun g => decide (p ∈ (s.groupEntry g).ports)

/-- The groups of which `p` is a member are recomputed (R132), in ascending group number, so that their GROUP_STATE
notices stand in that order: DESIGN CHOICE, log entry 23. -/
def State.recomputeGroupsOf (s : State) (p : Port) : State := (s.groupsOf p).foldl State.recomputeGroup s

/-! ## The work list -/

/-- An append of a pair already on the list leaves the list unchanged (R133). -/
def State.appendWork (s : State) (p : Port) (k : WorkKind) : State :=
  if (p, k) ∈ s.failover.work then s else s.setWork (s.failover.work ++ [(p, k)])

/-- Both entries of `p` are removed from wherever they stand (R125, R133). -/
def State.removeWork (s : State) (p : Port) : State := s.setWork (s.failover.work.filter fun e => e.1 ≠ p)

/-! ## The hold pool -/

/-- A copy becomes HELD under group `g` (R142). -/
def State.hold (s : State) (tag : Nat) (k : Copy) (g : GroupId) : State :=
  (s.setCopy tag { k with state := .held, port := none }).setHeldCopies g (s.heldCopies g ++ [tag])

/-- The placing of a via-group copy by a fresh member choice, its old port already out of the target-port set: under
NO_PATH or MERGED it is retired, otherwise it joins the chosen port's tail (R137, R143, R145). The port that received
it is answered. -/
def State.rechoose (s : State) (tag : Nat) (k : Copy) (g : GroupId) : State × Option Port :=
  match s.frame k.frame with
  | none => (s, none)
  | some f =>
    match s.memberChoice g f.flowHash with
    | none => (s.retire tag .noPath, none)
    | some q => if q ∈ f.ports then (s.retire tag .merged, none) else (s.appendQueued tag k q, some q)

/-- A late abort: the ABORTED completion of a via-group copy of `g`, whose slot the queue manager has emptied (R143). -/
def State.lateAbort (s : State) (tag : Nat) (k : Copy) (g : GroupId) : State × Option Port :=
  let s1 :=
    match k.port with
    | some p => s.leavePort k.frame p
    | none => s
  let k1 : Copy := { k with port := none }
  let s2 := s1.setCopy tag k1
  if s2.walkWork then
    if s2.holdCount < Config.holdRoom then (s2.hold tag k1 g, none) else (s2.retire tag .holdFull, none)
  else s2.rechoose tag k1 g

/-- The release of one held copy of group `g` (R145). -/
def State.releaseOne (g : GroupId) (acc : State × List Port) (tag : Nat) : State × List Port :=
  match acc.1.copy tag with
  | none => acc
  | some k =>
    if acc.1.groupState g = .dark then (acc.1.retire tag .noPath, acc.2)
    else
      let r := acc.1.rechoose tag k g
      (r.1, acc.2 ++ r.2.toList)

/-- The release of one group's held copies, oldest first (R145). -/
def State.releaseGroup (acc : State × List Port) (g : GroupId) : State × List Port :=
  (acc.1.heldCopies g).foldl (State.releaseOne g) (acc.1.setHeldCopies g [], acc.2)

/-- The calm point: the groups are recomputed and the whole hold pool is released, groups in ascending order. The ports
that received copies are answered (R145). -/
def State.calmPoint (s : State) : State × List Port :=
  allGroups.foldl State.releaseGroup (allGroups.foldl State.recomputeGroup s, [])

/-- Each port named receives one post attempt (R101, R138, R145). A port that several events of R101 in one action name
is owed one attempt for them: DESIGN CHOICE, log entry 9. -/
def State.oweEach (s : State) (ports : List Port) : State := ports.eraseDups.foldl State.owe s

/-! ## Walks -/

/-- The walk of the head entry of the work list starts: its recorded tails are taken, a drain walk sets the drained
mark, and the port's groups are recomputed (R134, R140, R141). -/
def State.startWalk (s : State) : State :=
  match s.failover.work with
  | [] => s
  | (p, k) :: rest =>
    let w : Walk :=
      { port := p, kind := k, tails := allClasses.map fun c => (s.queue p c).getLast?, cls := 0, resume := none }
    let s1 := (s.setWork rest).setWalk (some w)
    let s2 := if k = .drain then s1.setDrained p true else s1
    s2.recomputeGroupsOf p

/-- The copies of a queue beyond the resume point (R135). -/
def afterResume (q : List Nat) : Option Nat → List Nat
  | none => q
  | some r => if r ∈ q then (q.dropWhile (· ≠ r)).drop 1 else q

/-- What one visit of a copy does (R136, R140). -/
inductive Visit where
  | stays
  | retires (cause : RetireCause)
  | moves (q : Port)
  deriving DecidableEq, Repr

/-- The outcome of visiting copy `k` of the walked port `p` (R136, R140). -/
def State.visitOutcome (s : State) (kind : WorkKind) (p : Port) (k : Copy) : Visit :=
  match k.via with
  | none => if kind = .evacuate then .stays else .retires .portDown
  | some g =>
    match s.frame k.frame with
    | none => .stays
    | some f =>
      match s.memberChoice g f.flowHash with
      | none => .retires .noPath
      | some q => if q = p then .stays else if q ∈ f.ports then .retires .merged else .moves q

/-- A move of a via-group copy from port `p` to port `q` (R138). -/
def State.moveCopy (s : State) (tag : Nat) (k : Copy) (p q : Port) : State :=
  ((s.dequeue p k.cls tag).leavePort k.frame p).appendQueued tag k q

/-- The state, the place of the walk and the ports that received copies, in the course of one step. -/
structure StepState where
  st : State
  cls : Nat
  resume : Option Nat
  received : List Port

/-- One visit of copy `tag` in class `c` of port `p` (R136, R140). -/
def StepState.visit (kind : WorkKind) (p : Port) (c : Cls) (tag : Nat) (x : StepState) : StepState :=
  match x.st.copy tag with
  | none => { x with resume := some tag }
  | some k =>
    match x.st.visitOutcome kind p k with
    | .stays => { x with resume := some tag }
    | .retires cause => { x with st := (x.st.dequeue p c tag).retire tag cause }
    | .moves q => { x with st := x.st.moveCopy tag k p q, received := x.received ++ [q] }

/-- The copy a step visits next in class `c`: the one behind the resume point, unless the recorded tail is none or has
left the queue, or nothing stands beyond the resume point (R135). -/
def StepState.next? (tails : List (Option Nat)) (p : Port) (c : Cls) (x : StepState) : Option Nat :=
  match tails.getD c none with
  | none => none
  | some t => if t ∈ x.st.queue p c then (afterResume (x.st.queue p c) x.resume).head? else none

/-- The visits of one step from its place on: at most `visits` copies, in class order, each class up to its recorded
tail (R135, R136). The first argument bounds the loop: each turn makes a visit or passes to the next class. -/
def walkVisits (kind : WorkKind) (p : Port) (tails : List (Option Nat)) : Nat → Nat → StepState → StepState
  | 0, _, x => x
  | n + 1, visits, x =>
    if h : x.cls < 4 then
      let c : Cls := ⟨x.cls, h⟩
      match x.next? tails p c with
      | none => walkVisits kind p tails n visits { x with cls := x.cls + 1, resume := none }
      | some t =>
        if visits = 0 then x
        else
          let y := x.visit kind p c t
          if tails.getD c none = some t then
            walkVisits kind p tails n (visits - 1) { y with cls := y.cls + 1, resume := none }
          else walkVisits kind p tails n (visits - 1) y
    else x

/-- The end of a walk of port `p`: its groups are recomputed; then the next walk starts, or the calm point is reached and
the hold pool released (R139). The ports that received released copies are answered. -/
def State.endWalk (s : State) (p : Port) : State × List Port :=
  let s1 := (s.setWalk none).recomputeGroupsOf p
  if s1.failover.work.isEmpty then s1.calmPoint else (s1.startWalk, [])

/-- One step of the running walk `w` (R136, R140). The frees of the step, those of a release included, are reported
once at its end (R17). A port that received copies by a move and by the release is owed one attempt (DESIGN CHOICE, log
entry 9). -/
def State.walkStep (s : State) (w : Walk) : State :=
  let x :=
    walkVisits w.kind w.port w.tails (Config.walkVisits + 5) Config.walkVisits
      { st := s, cls := w.cls, resume := w.resume, received := [] }
  let s1 := if s.queuesEmpty w.port then x.st else x.st.adoptIfEmpty w.port
  let r : State × List Port :=
    if x.cls < 4 then (s1.setWalk (some { w with cls := x.cls, resume := x.resume }), [])
    else s1.endWalk w.port
  (r.1.oweEach (x.received ++ r.2)).settle s.freeCount

/-! ## The rows -/

/-- With no walk running and the work list not empty, the walk of its head entry starts (R134). -/
def State.walkStartEvent (s : State) : State :=
  match s.failover.walk with
  | some _ => s
  | none => s.startWalk

/-- WALK_START (R134): the event, and the end of its action. -/
def execWalkStart (s : State) : Host.Outcome State Fault Refusal := .next s.walkStartEvent.finish

/-- EVACUATION_WALK_STEP (R136): the next step of the running evacuation walk. -/
def execEvacuationWalkStep (s : State) : Host.Outcome State Fault Refusal :=
  match s.failover.walk with
  | none => .next s
  | some w => if w.kind = .evacuate then .next (s.walkStep w).finish else .next s

/-- DRAIN_WALK_STEP (R140): the next step of the running drain walk. -/
def execDrainWalkStep (s : State) : Host.Outcome State Fault Refusal :=
  match s.failover.walk with
  | none => .next s
  | some w => if w.kind = .drain then .next (s.walkStep w).finish else .next s

end Sys2Proof.Machine
end

