-- ==== Sys2Proof/Machine/Stations.lean ====
section
/-! DEFINITION. The lookup unit: the station table (R36, R37), destination resolution (R39 to R41), source learning (R42
to R46), the aging sweep (R47 to R49), the flush queue and flush walk (R51, R52), and the station commands (R55, R57,
R58). -/
namespace Sys2Proof.Machine

/-! ## The table -/

/-- The set of a key: the exclusive OR of the address's four 12-bit pieces and the segment number (R36). -/
def stationSet (segment : Nat) (a : StationAddr) : Nat :=
  (a.extractLsb' 36 12 ^^^ a.extractLsb' 24 12 ^^^ a.extractLsb' 12 12 ^^^ a.extractLsb' 0 12 ^^^
    BitVec.ofNat 12 segment).toNat

/-- The four ways of a set, as the table numbers them. -/
def waysOf (set : Nat) : List Nat := [4 * set, 4 * set + 1, 4 * set + 2, 4 * set + 3]

/-- The way that holds the entry of a key, with the entry (R36, R39). -/
def State.lookup? (s : State) (segment : Nat) (a : StationAddr) : Option (Nat × Station) :=
  (waysOf (stationSet segment a)).findSome? fun w =>
    match s.lookup.stations.find w with
    | some e => if e.segment = segment ∧ e.addr = a then some (w, e) else none
    | none => none

/-- The lowest-numbered invalid way of a key's set (R46, R55). -/
def State.freeWay? (s : State) (segment : Nat) (a : StationAddr) : Option Nat :=
  (waysOf (stationSet segment a)).find? fun w => (s.lookup.stations.find w).isNone

/-- A LEARNED entry of tenant `n` is gone: its learned count falls by 1 (R38). -/
def State.lowerLearned (s : State) (n : Tenant) : State := s.setLearned n (s.learned n - 1)

/-! ## Resolution -/

/-- The target of a frame's destination, or no path (R40, R41). -/
def State.resolve (s : State) (f : Forming) : Option Target :=
  let e := s.segmentEntry f.segment
  match s.lookup? f.segment f.dst with
  | some (_, st) => some st.target
  | none =>
    if isGroupAddress f.dst then (e.multicast.or e.flood).map Target.list else e.flood.map Target.list

/-! ## Learning -/

/-- The learn target of a port (R42). -/
def State.learnTarget (s : State) (p : Port) : Target :=
  match (s.portEntry p).learnGroup with
  | some g => .group g
  | none => .port p

/-- STATION_LOCKED and STATIC_CONFLICT carry the station and a target (Table 11-1). -/
def State.askStation (s : State) (kind : NoticeKind) (segment : Nat) (a : StationAddr) (t : Target) : State :=
  s.ask kind segment (a.toNat % 2 ^ 32) (a.toNat / 2 ^ 32 + 2 ^ 16 * t.number + 2 ^ 30 * t.kindCode)

/-- A learn that hits a LEARNED entry that is not LOCKED with a different target moves it; the fourth move since the
last sweep visit locks it (R44). -/
def State.moveStation (s : State) (w : Nat) (e : Station) (t : Target) : State :=
  if e.moves < 3 then s.setStation w { e with target := t, hit := true, moves := e.moves + 1 }
  else (s.setStation w { e with target := t, hit := true, locked := true }).askStation .stationLocked e.segment e.addr t

/-- A learn that hits entry `e` (R43, R44, R45). -/
def State.learnHit (s : State) (w : Nat) (e : Station) (t : Target) : State :=
  if e.isStatic then
    if e.target = t ∨ e.conflict then s
    else (s.askStation .staticConflict e.segment e.addr t).setStation w { e with conflict := true }
  else if e.locked then s
  else if e.target = t then s.setStation w { e with hit := true }
  else s.moveStation w e t

/-- A learn that misses (R46). -/
def State.learnMiss (s : State) (f : Forming) (t : Target) : State :=
  match s.freeWay? f.segment f.src with
  | none => s.countRefusal f.tenant
  | some w =>
    if s.learned f.tenant < (s.tenantEntry f.tenant).stationLimit then
      (s.setStation w
        { segment := f.segment, addr := f.src, target := t, isStatic := false, hit := true, moves := 0, locked := false,
          conflict := false, tenant := f.tenant }).setLearned f.tenant (s.learned f.tenant + 1)
    else s.countRefusal f.tenant

/-- Source learning of a frame under formation (R42). -/
def State.learn (s : State) (f : Forming) : State :=
  if (s.segmentEntry f.segment).learning && !isGroupAddress f.src then
    match s.lookup? f.segment f.src with
    | some (w, e) => s.learnHit w e (s.learnTarget f.port)
    | none => s.learnMiss f (s.learnTarget f.port)
  else s

/-! ## Walks over the table -/

/-- The way stands in the 64 sets of a step with its cursor at set `c` (R48, R52). -/
def inStep (c way : Nat) : Bool := decide (c ≤ way / 4 ∧ way / 4 < c + 64)

/-- The ways of a step with the entries they hold. -/
def State.stepEntries (s : State) (c : Nat) : List (Nat × Station) := s.lookup.stations.filter fun e => inStep c e.1

/-- A LEARNED entry is removed from its way (R38, R48, R52). -/
def State.dropLearned (s : State) (w : Nat) (e : Station) : State := (s.removeStation w).lowerLearned e.tenant

/-- The visit of one valid entry by the aging sweep (R48). -/
def State.sweepEntry (s : State) (x : Nat × Station) : State :=
  if x.2.isStatic then s.setStation x.1 { x.2 with conflict := false }
  else if x.2.hit then s.setStation x.1 { x.2 with hit := false, moves := 0, locked := false }
  else s.dropLearned x.1 x.2

/-- A sweep step with its cursor at set `c`; the step that visits set 4,095 ends the sweep (R48). -/
def State.sweepStep (s : State) (c : Nat) : State :=
  let s1 := (s.stepEntries c).foldl State.sweepEntry s
  { s1 with lookup := { s1.lookup with sweep := if c + 64 < 4096 then some (c + 64) else none } }

/-- The request a LEARNED entry matches (R52). -/
def FlushReq.matches (r : FlushReq) (e : Station) : Bool :=
  match r with
  | .byPort p => decide (e.target = .port p)
  | .byGroup g => decide (e.target = .group g)
  | .bySegment n => decide (e.segment = n)
  | .allLearned => true

/-- With no flush walk running and the queue not empty, the walk of the head request starts at set 0 (R52). -/
def State.startFlush (s : State) : State :=
  match s.lookup.flushWalk, s.lookup.flushQueue with
  | none, item :: rest =>
    { s with
      lookup := { s.lookup with flushQueue := rest, flushWalk := some { item := item, cursor := 0, removed := 0 } } }
  | _, _ => s

/-- The request is already in the queue (R51). -/
def State.flushQueued (s : State) (r : FlushReq) : Bool := s.lookup.flushQueue.any fun i => decide (i.req = r)

/-- The new request joins an equal queued one: the command slots of both end with its walk (R51). -/
def mergeFlush (r : FlushReq) (slots : List SlotId) (q : List FlushItem) : List FlushItem :=
  q.map fun i => if i.req = r then { i with slots := i.slots ++ slots } else i

/-- A request is offered to the flush queue: merged, appended, or refused because the queue is full (R51). The answer
tells whether it was accepted. -/
def State.offerFlush (s : State) (r : FlushReq) (slots : List SlotId) : State × Bool :=
  if s.flushQueued r then
    ({ s with lookup := { s.lookup with flushQueue := mergeFlush r slots s.lookup.flushQueue } }, true)
  else if s.lookup.flushQueue.length < Config.flushRoom then
    (({ s with
        lookup := { s.lookup with flushQueue := s.lookup.flushQueue ++ [{ req := r, slots := slots }] } } :
        State).startFlush,
      true)
  else (s, false)

/-- The by-port flush the liveness monitor asks for; a full queue loses it with FLUSH_LOST (R51, R53). -/
def State.flushByPort (s : State) (p : Port) : State :=
  let r := s.offerFlush (.byPort p) []
  if r.2 then r.1 else s.ask .flushLost p 0 0

/-- The command slots in ascending order. -/
def allSlots : List SlotId := List.finRange 16

/-- Each FLUSH command of a finished request ends DONE with the walk's removal count, in ascending slot number (R52,
R181). -/
def State.endFlushSlots (s : State) (slots : List SlotId) (removed : Nat) : State :=
  (allSlots.filter fun k => decide (k ∈ slots)).foldl (fun s k => s.done k .none removed) s

/-- The entries one flush step removes (R52). -/
def State.flushHits (s : State) (w : FlushWalk) : List (Nat × Station) :=
  (s.stepEntries w.cursor).filter fun x => !x.2.isStatic && w.item.req.matches x.2

/-- A step of the running flush walk; the last one ends its commands and starts the next queued walk (R52). -/
def State.flushStep (s : State) (w : FlushWalk) : State :=
  let hits := s.flushHits w
  let s1 := hits.foldl (fun s x => s.dropLearned x.1 x.2) s
  let removed := w.removed + hits.length
  if w.cursor + 64 < 4096 then
    { s1 with
      lookup := { s1.lookup with flushWalk := some { w with cursor := w.cursor + 64, removed := removed } } }
  else
    (({ s1 with lookup := { s1.lookup with flushWalk := none } } : State).endFlushSlots w.item.slots removed).startFlush

/-! ## The commands -/

/-- A new or converted STATIC entry (R55). -/
def State.staticEntry (s : State) (segment : Nat) (a : StationAddr) (t : Target) : Station :=
  { segment := segment, addr := a, target := t, isStatic := true, hit := false, moves := 0, locked := false,
    conflict := false, tenant := (s.segmentEntry segment).tenant }

/-- STATION_ADD with arguments in range (R55). -/
def State.addStation (s : State) (k : SlotId) (segment : Nat) (a : StationAddr) (t : Target) : State :=
  match s.lookup? segment a with
  | some (w, e) =>
    if e.isStatic then s.fail k .duplicate
    else ((s.setStation w (s.staticEntry segment a t)).lowerLearned e.tenant).done k .replaced 0
  | none =>
    match s.freeWay? segment a with
    | some w => (s.setStation w (s.staticEntry segment a t)).done k .none 0
    | none => s.fail k .setFull

/-- STATION_ADD once it has started (R55, R179). -/
def State.stationAddBody (s : State) (k : SlotId) : State :=
  s.requireActive k <|
    match segmentArg? (s.args k), targetArg? (s.args k) with
    | some segment, some t => s.addStation k segment (argStation (s.args k)) t
    | _, _ => s.fail k .argument

/-- STATION_REMOVE once it has started (R57, R179). -/
def State.stationRemoveBody (s : State) (k : SlotId) : State :=
  s.requireActive k <|
    match segmentArg? (s.args k) with
    | none => s.fail k .argument
    | some segment =>
      match s.lookup? segment (argStation (s.args k)) with
      | none => s.fail k .notFound
      | some (w, e) =>
        if e.isStatic then (s.removeStation w).done k .staticRemoved 0
        else (s.dropLearned w e).done k .learnedRemoved 0

/-- FLUSH once it has started (R58, R179). -/
def State.flushBody (s : State) (k : SlotId) : State :=
  s.requireActive k <|
    match flushArg? (s.args k) with
    | none => s.fail k .argument
    | some r => if (s.offerFlush r [k]).2 then (s.offerFlush r [k]).1.stayBusy k else s.fail k .full

/-! ## The rows -/

/-- The expiry of the aging period, when it has come: the timer restarts, and the sweep is started or SWEEP_OVERRUN is
posted (R47, R48, R49). -/
def State.agingExpiry (s : State) : State :=
  let s1 : State :=
    { s with
      lookup := { s.lookup with
        agingTimer := some (s.now + BitVec.ofNat 32 (agingSpan s.tables.globalEntry.agingPeriod)) } }
  match s.lookup.sweep with
  | none => { s1 with lookup := { s1.lookup with sweep := some 0 } }
  | some c => s1.ask .sweepOverrun 0 c s.tables.globalEntry.agingPeriod

/-- AGING_PERIOD_EXPIRY (R47). -/
def execAgingPeriodExpiry (s : State) : Host.Outcome State Fault Refusal :=
  if s.isActive && due s.lookup.agingTimer s.now then .next s.agingExpiry.finish else .next s

/-- AGING_SWEEP_STEP (R48). -/
def execAgingSweepStep (s : State) : Host.Outcome State Fault Refusal :=
  match s.lookup.sweep with
  | none => .next s
  | some c => .next (s.sweepStep c).finish

/-- FLUSH_WALK_STEP (R52). -/
def execFlushWalkStep (s : State) : Host.Outcome State Fault Refusal :=
  match s.lookup.flushWalk with
  | none => .next s
  | some w => .next (s.flushStep w).finish

end Sys2Proof.Machine
end

