-- ==== Sys2Proof/Machine/Liveness.lean ====
section
/-! DEFINITION. The liveness monitor: changes of liveness state and what they bring (R116, R124, R125), status words
(R117 to R119), timer expiries (R119, R121, R127), the reports of the queue manager (R120, R123), the port commands'
part (R128, R129), and the timebase (R113). -/
namespace Sys2Proof.Machine

/-! ## Changes of state -/

/-- PORT_STATE: previous state, new state and cause, then posted count and recorded change count (R116, Table 11-1). -/
def State.askPortState (s : State) (p : Port) (was : Liveness) (cause : StateCause) : State :=
  s.ask .portState p (2 ^ 16 * was.code + 2 ^ 8 * (s.liveness p).code + cause.code)
    (2 ^ 16 * s.postedCount p + (s.livePort p).changeCount)

def State.setLiveness (s : State) (p : Port) (l : Liveness) : State :=
  s.setLivePort p { s.livePort p with state := l }

def State.stopTrial (s : State) (p : Port) : State := s.setLivePort p { s.livePort p with trial := none }
def State.stopStall (s : State) (p : Port) : State := s.setLivePort p { s.livePort p with stall := none }
def State.stopDrain (s : State) (p : Port) : State := s.setLivePort p { s.livePort p with drain := none }

/-- The timer is started, or restarted, with the count and unit installed now (R114, R115). -/
def State.startTrial (s : State) (p : Port) : State :=
  s.setLivePort p { s.livePort p with trial := some (s.expiry (s.portEntry p).trial) }
def State.startStall (s : State) (p : Port) : State :=
  s.setLivePort p { s.livePort p with stall := some (s.expiry (s.portEntry p).stall) }
def State.startDrain (s : State) (p : Port) : State :=
  s.setLivePort p { s.livePort p with drain := some (s.expiry (s.portEntry p).drain) }

/-- Port `p` leaves UP for `l`: the six steps of R124, in their order. -/
def State.leaveUp (s : State) (p : Port) (l : Liveness) (cause : StateCause) : State :=
  let s1 := (s.setLiveness p l).stopStall p
  let s2 := s1.appendWork p .evacuate
  let s3 := s2.startDrain p
  let s4 := if l = .down ∨ l = .adminDown then s3.flushByPort p else s3
  (s4.askPortState p .up cause).recomputeGroupsOf p

/-- A change of state that neither leaves nor enters UP: the state and the trial timer are set, the by-port flush of
R53 is asked for where `flush` says so, PORT_STATE is posted and the port's groups are recomputed (R116, R118, R128). -/
def State.moveState (s : State) (p : Port) (l : Liveness) (cause : StateCause) (flush : Bool) : State :=
  let s1 := (s.setLiveness p l).stopTrial p
  let s2 := if flush then s1.flushByPort p else s1
  (s2.askPortState p (s.liveness p) cause).recomputeGroupsOf p

/-- Port `p` goes out of service into `l`, DOWN or ADMIN_DOWN, from the state it is in (R118, R128, R129): from UP with
the effects of leaving UP, from TRIAL and STALLED with the flush, from the other of the two without it; a port already
in `l` is left as it is. -/
def State.takeDown (s : State) (p : Port) (l : Liveness) (cause : StateCause) : State :=
  match s.liveness p with
  | .up => s.leaveUp p l cause
  | .trial => s.moveState p l cause true
  | .stalled => s.moveState p l cause true
  | was => if was = l then s else s.moveState p l cause false

/-- Port `p` goes to TRIAL and its trial timer starts (R119, R123). -/
def State.enterTrial (s : State) (p : Port) (cause : StateCause) : State :=
  ((((s.setLiveness p .trial).startTrial p).askPortState p (s.liveness p) cause)).recomputeGroupsOf p

/-- The removal of the entries of `p` has emptied the work list with no walk running: the calm point (R133, R145). -/
def State.reachesCalm (before s : State) : Bool := !before.failover.work.isEmpty && !s.walkWork

/-- A drain walk of `p` is running (R141). -/
def State.drainWalkOf (s : State) (p : Port) : Bool :=
  match s.failover.walk with
  | some w => decide (w.port = p ∧ w.kind = .drain)
  | none => false

/-- Port `p` enters UP: the seven steps of R125, in their order, with the release of the calm point, where it is
reached, between steps 6 and 7 (R145). The entry of `p` and a release onto `p` in one action owe `p` one attempt (R101):
DESIGN CHOICE, log entry 9. -/
def State.enterUp (s : State) (p : Port) : State :=
  let s1 := (s.setLiveness p .up).stopTrial p
  let s2 := s1.removeWork p
  let s3 := s2.stopDrain p
  let s4 := if s3.drainWalkOf p then s3 else s3.setDrained p false
  let s5 := if 0 < s4.postedCount p then s4.startStall p else s4
  let s6 := (s5.askPortState p (s.liveness p) .trialExpiry).recomputeGroupsOf p
  let r : State × List Port := if s.reachesCalm s2 then s6.calmPoint else (s6, [])
  (r.1.settle s.freeCount).oweEach (r.2 ++ [p])

/-! ## Reports of the queue manager -/

/-- A completion of `p` with a matching tag has been handled: the liveness monitor is told, with the posted count as it
stands (R110, R120, R123). -/
def State.completionReport (s : State) (p : Port) : State :=
  match s.liveness p with
  | .up => if 0 < s.postedCount p then s.startStall p else s.stopStall p
  | .stalled => s.enterTrial p .completion
  | _ => s

/-! ## Status words -/

/-- A status word of `p` is taken: its change count is recorded and its link state acted on (R117, R118, R119). -/
def State.statusTaken (s : State) (p : Port) (changeCount : Nat) (linkUp : Bool) : State :=
  let s1 := s.setLivePort p { s.livePort p with changeCount := changeCount }
  if linkUp then (if s1.liveness p = .down then s1.enterTrial p .status else s1)
  else s1.takeDown p .down .status

/-- A status word is taken when all four of its strobes are set, in ACTIVE, and the port is not ADMIN_DOWN (R117). -/
def State.takesStatus (s : State) (p : Port) (g : Lanes) : Bool :=
  s.isActive && allStrobes g 60 4 && decide (s.liveness p ≠ .adminDown)

/-- The write `g` falls on the status record of `p`, and has been forwarded (R117). -/
def State.statusWrite (s : State) (p : Port) (g : Lanes) : State :=
  if s.takesStatus p g then s.statusTaken p (statusChangeCount g) (statusLinkUp g) else s

/-- The window offset of a port's status record (R117). -/
def statusOffset (p : Port) : Nat := Config.statusRecords + 0x40 * p

/-- STATUS_WORD (R117): the write is forwarded, and its status word taken if it is one that is taken. -/
def execStatusWord (p : Port) (g : Lanes) (s : State) : Host.Outcome State Fault Refusal :=
  .next ((s.forward (s.windowAddr (statusOffset p)) g).statusWrite p g).finish

/-! ## Timer expiries -/

/-- TRIAL_EXPIRY (R119): taken while the port is TRIAL and its trial timer's expiry has come. -/
def execTrialExpiry (p : Port) (s : State) : Host.Outcome State Fault Refusal :=
  if s.liveness p = .trial ∧ due (s.livePort p).trial s.now then .next (s.enterUp p).finish else .next s

/-- STALL_EXPIRY (R121): taken while the port is UP and its stall timer's expiry has come. -/
def execStallExpiry (p : Port) (s : State) : Host.Outcome State Fault Refusal :=
  if s.liveness p = .up ∧ due (s.livePort p).stall s.now then .next (s.leaveUp p .stalled .stallExpiry).finish
  else .next s

/-- A drain expiry stops the timer and appends (p, DRAIN) to the work list (R115, R127). -/
def State.drainExpiry (s : State) (p : Port) : State := (s.stopDrain p).appendWork p .drain

/-- DRAIN_EXPIRY (R127): taken while the port is not UP and its drain timer's expiry has come. -/
def execDrainExpiry (p : Port) (s : State) : Host.Outcome State Fault Refusal :=
  if s.liveness p ≠ .up ∧ due (s.livePort p).drain s.now then .next (s.drainExpiry p).finish else .next s

/-! ## Port commands -/

/-- A command that names a port runs on it, or ends FAILED with ARGUMENT (R179, Table 11-3). -/
def State.withPortArg (s : State) (k : SlotId) (run : Port → State) : State :=
  s.requireActive k <|
    match portOf (argPort (s.args k)) with
    | some p => run p
    | none => s.fail k .argument

/-- PORT_ADMIN_DOWN once it has started (R128). -/
def State.portAdminDownBody (s : State) (k : SlotId) : State :=
  s.withPortArg k fun p => (s.takeDown p .adminDown .adminDown).done k .none 0

/-- PORT_ADMIN_RELEASE once it has started (R128). -/
def State.portAdminReleaseBody (s : State) (k : SlotId) : State :=
  s.withPortArg k fun p =>
    if s.liveness p = .adminDown then (s.moveState p .down .adminRelease false).done k .none 0 else s.fail k .state

/-- The liveness monitor's part of PORT_RESET: the report of a posted count of 0 stops the stall timer, then the port
goes to DOWN unless it is DOWN or ADMIN_DOWN (R120, R129). -/
def State.resetLiveness (s : State) (p : Port) : State :=
  if (s.stopStall p).liveness p = .adminDown then s.stopStall p else (s.stopStall p).takeDown p .down .portReset

/-! ## The timebase -/

/-- One microsecond: the timebase advances, wrapping after 4,294,967,295, and the dividers of the unit marks with it
(R113). -/
def State.tick (s : State) : State :=
  { s with
    live := { s.live with
      timebase := s.live.timebase + 1
      div100us := if s.live.div100us + 1 = 100 then 0 else s.live.div100us + 1
      div10ms := if s.live.div10ms + 1 = 10000 then 0 else s.live.div10ms + 1 } }

/-- The 100 µs mark falls in the microsecond that has just come (R113). -/
def State.mark100us (s : State) : Bool := decide (s.live.div100us = 0)

/-- The 10 ms mark falls in the microsecond that has just come (R113). -/
def State.mark10ms (s : State) : Bool := decide (s.live.div10ms = 0)

/-- TIMEBASE_ADVANCE (R113). -/
def execTimebaseAdvance (s : State) : Host.Outcome State Fault Refusal := .next s.tick

end Sys2Proof.Machine
end

