-- ==== Sys2Proof/Machine/Egress.lean ====
section
/-! DEFINITION. The queue manager: post attempts (R100 to R105), completions (R106 to R110) and its part of PORT_RESET
(R111). -/
namespace Sys2Proof.Machine

/-! ## Post attempts -/

/-- A stale head candidate is removed from its queue and retired under STALE; a port whose queues it emptied adopts its
pending schedule (R98, R103). -/
def State.discard (s : State) (p : Port) (c : Cls) (tag : Nat) : State :=
  (((s.dequeue p c tag).forgetInWalk p c tag).adoptIfEmpty p).retire tag .stale

/-- The strict choice: stale heads of class 0 are discarded, the first head that is not stale is chosen (R102 step 1).
The first argument bounds the loop; each turn takes one copy from the queue. -/
def State.strictPick (p : Port) : Nat → State → Option Nat × State
  | 0, s => (none, s)
  | n + 1, s =>
    match s.queue p 0 with
    | [] => (none, s)
    | t :: _ => if s.isStale p 0 t then State.strictPick p n (s.discard p 0 t) else (some t, s)

/-- The class the phase at the phase pointer names, if it names one (R102). -/
def State.phaseClass (s : State) (p : Port) : Option Cls :=
  ((s.egressPort p).schedule.getD (s.egressPort p).phase .skip).cls?

/-- The phase scan with `left` phases still to be examined (R102 step 2). The first argument bounds the loop; each turn
advances the pointer or takes one copy from a queue. -/
def State.scanPick (p : Port) : Nat → Nat → State → Option Nat × State
  | 0, _, s => (none, s)
  | n + 1, left, s =>
    if left = 0 then (none, s)
    else
      match s.phaseClass p with
      | none => State.scanPick p n (left - 1) (s.advancePhase p)
      | some c =>
        match s.queue p c with
        | [] => State.scanPick p n (left - 1) (s.advancePhase p)
        | t :: _ => if s.isStale p c t then State.scanPick p n left (s.discard p c t) else (some t, s.advancePhase p)

/-- How many copies wait in the port's four queues. -/
def State.waiting (s : State) (p : Port) : Nat := (allClasses.map fun c => s.copyDepth p c).sum

/-- The choice of a post attempt: class 0 strictly, then the scan (R102). -/
def State.pick (s : State) (p : Port) : Option Nat × State :=
  match s.strictPick p (s.waiting p + 1) with
  | (some t, s1) => (some t, s1)
  | (none, s1) => s1.scanPick p (64 + s1.waiting p + 1) 64

/-- The bytes 0 to 55 of an egress descriptor (R105, Table 10-5). -/
def descriptorBytes (tag : Nat) (k : Copy) (f : Frame) (lap : Bool) : List Byte :=
  record 56
    [(0, leBytes 4 tag), (4, leBytes 2 k.frame), (6, leBytes 1 f.cellCount),
     (7, leBytes 1 (k.cls + (if k.mark then 0x80 else 0))), (8, leBytes 2 f.length), (55, leBytes 1 lap.toNat)]

/-- The window offset of slot `n` of the egress ring of port `p` (R99). -/
def egressOffset (p : Port) (n : Nat) : Nat := Config.egressRings + 0x4000 * p + 0x40 * n

/-- The egress ring of a port takes the copy posted into its next write slot (R99, R104 steps 4 and 5). -/
def EgressPort.fill (e : EgressPort) (tag : Nat) : EgressPort :=
  { e with
    slots := e.slots.put e.nextWrite ⟨tag, e.lap⟩
    nextWrite := (nextEgressSlot e.nextWrite e.lap).1
    lap := (nextEgressSlot e.nextWrite e.lap).2 }

/-- Posting copy `tag` on port `p` (R104): the queue gives it up, its descriptor is written into the next write slot,
the slot record takes it, a posted count that rises from 0 starts the stall timer, emptied queues adopt a pending
schedule, and a post attempt follows. -/
def State.post (s : State) (p : Port) (tag : Nat) (k : Copy) (f : Frame) : State :=
  let s1 := (s.dequeue p k.cls tag).forgetInWalk p k.cls tag
  let s2 := s1.setCopy tag { k with state := .posted }
  let e := s2.egressPort p
  let s3 := s2.emit (egressOffset p e.nextWrite) (descriptorBytes tag k f e.lap)
  let s4 := s3.setEgressPort p (e.fill tag)
  let s5 := if s.postedCount p = 0 then s4.startStall p else s4
  (s5.adoptIfEmpty p).owe p

/-- The chosen copy, if there is one, is posted (R102). -/
def State.postChosen (s : State) (p : Port) (choice : Option Nat) : State :=
  match choice with
  | none => s
  | some t =>
    match s.copy t with
    | none => s
    | some k =>
      match s.frame k.frame with
      | none => s
      | some f => s.post p t k f

/-- A post attempt for port `p` (R102). The frees of its discards are reported, and their refill run made, when the
discards are complete (R17). -/
def State.attempt (s : State) (p : Port) : State :=
  if s.eligible p then ((s.pick p).2.settle s.freeCount).postChosen p (s.pick p).1 else s

/-- POST_ATTEMPT (R101, R102): one of the post attempts called for is made. -/
def execPostAttempt (p : Port) (s : State) : Host.Outcome State Fault Refusal :=
  if (s.egressPort p).owed = 0 then .next s
  else .next ((s.setEgressPort p { s.egressPort p with owed := (s.egressPort p).owed - 1 }).attempt p).finish

/-! ## Completions -/

/-- An ABORTED direct copy returns to the head of its queue, or is retired under PORT_DOWN on a drained port (R109). -/
def State.directReturn (s : State) (p : Port) (tag : Nat) (k : Copy) : State :=
  if s.isDrained p then s.retire tag .portDown
  else (s.setCopy tag { k with state := .queued }).setQueue p k.cls (tag :: s.queue p k.cls)

/-- An ABORTED copy, its slot emptied: a via-group copy is a late abort, a direct copy returns (R109). The port whose
queue a late abort joined is answered. -/
def State.aborted (s : State) (p : Port) (tag : Nat) (k : Copy) : State × Option Port :=
  match k.via with
  | some g => s.lateAbort tag k g
  | none => (s.directReturn p tag k, none)

/-- The copy of a completion with a matching tag, its slot emptied, by the status byte (R108, R109): 1 SENT, 3 ABORTED,
and 2 or any other value ERROR. -/
def State.completeCopy (s : State) (p : Port) (tag status : Nat) : State × Option Port :=
  match s.copy tag with
  | none => (s, none)
  | some k =>
    if status = 1 then (s.retire tag .sent, none)
    else if status = 3 then s.aborted p tag k
    else (s.retire tag .egressError, none)

/-- A completion is taken (R106 to R110). A completion whose tag does not match is a stray and changes nothing else; one
that matches is handled, its frees reported, the liveness monitor told, and a post attempt called for. The completion of
`p`, a direct copy returned to `p` and a late abort re-chosen onto `p` in one action owe `p` one attempt (R101, R143):
DESIGN CHOICE, log entry 9. -/
def State.takeCompletion (s : State) (p : Port) (n : Nat) (rec : SlotRecord) (w : CompletionWord) : State :=
  if w.echo ≠ rec.tag then
    s.ask .strayCompletion p (2 ^ 24 * n + rec.tag) (2 ^ 24 * w.status + w.echo)
  else
    let r := (s.emptySlot p n).completeCopy p rec.tag w.status
    ((r.1.settle s.freeCount).completionReport p).oweEach (r.2.toList ++ [p])

/-- The slot record a write to an egress-ring granule completes, if it meets every condition of R106. -/
def State.completes (s : State) (p : Port) (n : Nat) (g : Lanes) : Option SlotRecord :=
  if s.isActive && allStrobes g 56 8 then
    match (s.egressPort p).slots.find n with
    | some rec => if rec.lap = (CompletionWord.read g).lap then some rec else none
    | none => none
  else none

/-- The write `g` falls in slot `n` of the egress ring of `p`, and has been forwarded (R106). -/
def State.egressWrite (s : State) (p : Port) (n : Nat) (g : Lanes) : State :=
  match s.completes p n g with
  | some rec => s.takeCompletion p n rec (CompletionWord.read g)
  | none => s

/-- COMPLETION (R106): the write is forwarded, and its completion word taken if it is one that is taken. -/
def execCompletion (p : Port) (slot : RingSlot) (g : Lanes) (s : State) : Host.Outcome State Fault Refusal :=
  .next ((s.forward (s.windowAddr (egressOffset p slot)) g).egressWrite p slot g).finish

/-! ## Port reset -/

/-- The copy record names a via-group. -/
def State.isVia (s : State) (tag : Nat) : Bool :=
  match s.copy tag with
  | some k => k.via.isSome
  | none => false

/-- One copy of the reset's two passes, handled as ABORTED (R111). -/
def State.resetAbort (p : Port) (acc : State × List Port) (tag : Nat) : State × List Port :=
  match acc.1.copy tag with
  | none => acc
  | some k =>
    let r := acc.1.aborted p tag k
    (r.1, acc.2 ++ (if k.via.isNone && !acc.1.isDrained p then [p] else r.2.toList))

/-- The queue manager's part of PORT_RESET: the ring restarts; the via-group copies are handled first, oldest post
first, then the direct copies, newest post first (R111). Each port whose queues a copy joined gets one post attempt
(R101). -/
def State.resetEgress (s : State) (p : Port) : State :=
  let tags := (s.egressPort p).postedInOrder
  let s1 := s.setEgressPort p { s.egressPort p with slots := [], nextWrite := 0, lap := true }
  let order := tags.filter s.isVia ++ (tags.filter fun t => !s.isVia t).reverse
  let r := order.foldl (State.resetAbort p) (s1, [])
  r.1.oweEach r.2

end Sys2Proof.Machine
end

