-- ==== Sys2Proof/Machine/ControlTables.lean ====
section
/-! DEFINITION. The control tables: where their entries stand (Table 10-4), their bytes (Table 10-5), the staging copy
(R169), validation (R171) and what an install brings (R170, Table 10-3). -/
namespace Sys2Proof.Machine

/-! ## Where entries stand -/

/-- A table of Table 10-4: number, offset from the control-table base, entries, entry size. -/
structure TableArea where
  number : Nat
  offset : Nat
  entries : Nat
  size : Nat
  deriving DecidableEq, Repr

/-- Table 10-4. -/
def tableAreas : List TableArea :=
  [⟨0, 0x00000, 1, 64⟩, ⟨1, 0x00100, 48, 64⟩, ⟨2, 0x01000, 64, 64⟩, ⟨3, 0x02000, 16, 16⟩, ⟨4, 0x02100, 4, 128⟩,
   ⟨5, 0x02400, 4, 64⟩, ⟨6, 0x03000, 256, 64⟩, ⟨7, 0x08000, 4096, 16⟩, ⟨8, 0x18000, 1024, 128⟩]

/-- The table a byte of the control-table area belongs to; none in a gap (R164). -/
def areaAt (off : Nat) : Option TableArea :=
  tableAreas.find? fun t => decide (t.offset ≤ off ∧ off < t.offset + t.entries * t.size)

/-- One entry's share of a write: the entry and its lanes, lane 0 being byte `base` of the entry (R165). -/
structure EntryWrite where
  table : Nat
  index : Nat
  size : Nat
  base : Nat
  lanes : Lanes
  deriving DecidableEq, Repr

/-- The shares of a write to granule `i` of the control-table area, entry by entry in ascending address order; an entry
none of whose strobes is set is not touched (R165). -/
def entryWrites (i : Nat) (g : Lanes) : List EntryWrite :=
  match areaAt (64 * i) with
  | none => []
  | some t =>
    let at0 := 64 * i - t.offset
    let shares : List EntryWrite :=
      if t.size < 64 then
        (List.range (64 / t.size)).map fun j =>
          ⟨t.number, at0 / t.size + j, t.size, 0, lanesAt g (t.size * j) t.size⟩
      else [⟨t.number, at0 / t.size, t.size, at0 % t.size, g⟩]
    shares.filter fun e => anyStrobe e.lanes

/-- The share covers the whole commit word of its entry with A5h in the top byte: a commit (R169). -/
def EntryWrite.commits (e : EntryWrite) : Bool :=
  allStrobes e.lanes (e.size - 4 - e.base) 4 && decide (field (carried e.lanes) (e.size - 1 - e.base) 1 = 0xA5)

/-! ## The bytes of an installed copy (Table 10-5) -/

def bytesOfGlobal (e : GlobalEntry) : List Byte :=
  record 64
    [(0, leBytes 1 e.rotation), (2, leBytes 2 e.prioMap.toNat), (4, leBytes 2 e.tightFloor),
     (6, leBytes 2 e.criticalFloor), (8, leBytes 2 e.hysteresis), (60, leBytes 2 e.agingPeriod)]

def bytesOfTimer (f : TimerField) : List Byte := leBytes 1 f.count ++ leBytes 1 f.unit

def bytesOfPort (e : PortEntry) : List Byte :=
  record 64
    [(0, leBytes 1 e.window), (2, leBytes 2 e.issueTarget), (4, leBytes 1 (e.queueProfile + 16 * e.schedProfile)),
     (6, bytesOfTimer e.trial ++ bytesOfTimer e.stall ++ bytesOfTimer e.drain),
     (12, leBytes 1 (match e.learnGroup with | none => 0 | some g => 0x80 + g)), (13, leBytes 1 e.hairpin.toNat),
     (60, leBytes 2 e.defaultSegment)]

def bytesOfGroup (e : GroupEntry) : List Byte :=
  record 64 [(0, leBytes 1 (if e.mode = .ordered then 0 else 1)), (1, leBytes 1 e.count), (2, e.members)]

def bytesOfProfile (e : QueueProfile) : List Byte :=
  record 16 [(0, leBytes 2 e.minimum), (2, leBytes 2 e.markThreshold), (4, leBytes 1 e.alpha), (12, leBytes 3 e.ageLimit)]

/-- The bits of a phase (Table 10-5). -/
def Phase.code : Phase → Nat
  | .skip => 0
  | .class1 => 1
  | .class2 => 2
  | .class3 => 3

def bytesOfSchedule (l : List Phase) : List Byte := record 128 [(0, l.flatMap fun x => leBytes 1 x.code)]

def bytesOfTariffs (l : List Nat) : List Byte := record 64 [(0, l.flatMap fun x => leBytes 2 x)]

def bytesOfTenant (e : TenantEntry) : List Byte :=
  record 64
    [(0, leBytes 4 e.rate), (4, leBytes 4 e.depth), (8, leBytes 4 e.quota), (12, leBytes 2 e.stationLimit),
     (14, leBytes 1 (e.excessMode + 16 * e.tariffSet))]

/-- A list field of a segment entry; FFFFh is none. -/
def bytesOfListField (l : Option ListId) : List Byte :=
  leBytes 2 (match l with | none => 0xFFFF | some n => n.val)

def bytesOfSegment (e : SegmentEntry) : List Byte :=
  record 16
    [(0, leBytes 1 (e.enabled.toNat + 2 * e.learning.toNat)), (2, leBytes 2 e.tenant), (4, bytesOfListField e.flood),
     (6, bytesOfListField e.multicast)]

def bytesOfList (e : RepList) : List Byte :=
  record 128 [(0, e.items.flatMap fun x => [x.kind, 0] ++ leBytes 2 x.number), (64, leBytes 1 e.count)]

/-! ## Validation (R171, Table 10-2) -/

/-- The reasons of Table 11-2. -/
inductive Reason where
  | count
  | range
  | duplicate
  deriving DecidableEq, Repr

/-- Table 11-2. -/
def Reason.code : Reason → Nat
  | .count => 1
  | .range => 2
  | .duplicate => 3

/-- The reasons whose condition holds. -/
def reasonsOf (l : List (Bool × Reason)) : List Reason := (l.filter (·.1)).map (·.2)

def readGlobal (b : List Byte) : GlobalEntry :=
  { rotation := bits (field b 0 1) 4 0, prioMap := BitVec.ofNat 16 (bits (field b 2 2) 13 0),
    tightFloor := field b 4 2, criticalFloor := field b 6 2, hysteresis := field b 8 2, agingPeriod := field b 60 2 }

def readTimer (b : List Byte) (off : Nat) : TimerField :=
  { count := field b off 1, unit := bits (field b (off + 1) 1) 1 0 }

/-- The clamps of a port entry (R171). -/
def clamp (lo hi v : Nat) : Nat := if v < lo then lo else if hi < v then hi else v

def readPort (b : List Byte) : PortEntry :=
  { window := clamp 1 64 (field b 0 1), issueTarget := clamp 8 511 (field b 2 2),
    queueProfile := bits (field b 4 1) 1 0, schedProfile := bits (field b 4 1) 5 4, trial := readTimer b 6,
    stall := readTimer b 8, drain := readTimer b 10,
    learnGroup := if bit (field b 12 1) 7 then groupOf (bits (field b 12 1) 5 0) else none,
    hairpin := bit (field b 13 1) 0, defaultSegment := bits (field b 60 2) 11 0 }

def readGroup (b : List Byte) : GroupEntry :=
  { mode := if field b 0 1 = 0 then .ordered else .spread, count := field b 1 1, members := (b.drop 2).take 8 }

/-- Why a group entry is refused (R130, R171). The member positions examined are those below the member count. -/
def groupReasons (b : List Byte) : List Reason :=
  let n := field b 1 1
  let members := ((b.drop 2).take 8).take n
  reasonsOf
    [(decide (n = 0 ∨ 8 < n), .count), (members.any fun m => decide (47 < m.toNat), .range),
     (decide (1 < field b 0 1), .range), (!decide members.Nodup, .duplicate)]

def readProfile (b : List Byte) : QueueProfile :=
  { minimum := field b 0 2, markThreshold := field b 2 2, alpha := bits (field b 4 1) 2 0, ageLimit := field b 12 3 }

/-- The phase of a byte's low 2 bits (Table 10-5). -/
def phaseOf (b : Byte) : Phase :=
  match b.toNat % 4 with
  | 0 => .skip
  | 1 => .class1
  | 2 => .class2
  | _ => .class3

def readSchedule (b : List Byte) : List Phase := (b.take 64).map phaseOf

def readTariffs (b : List Byte) : List Nat := (List.range 8).map fun i => field b (2 * i) 2

def readTenant (b : List Byte) : TenantEntry :=
  { rate := bits (field b 0 4) 19 0, depth := bits (field b 4 4) 26 0, quota := bits (field b 8 4) 16 0,
    stationLimit := min (bits (field b 12 2) 14 0) 16384, excessMode := bits (field b 14 1) 1 0,
    tariffSet := bits (field b 14 1) 5 4 }

/-- A list field names no list a segment may name: it is neither FFFFh nor 0 to 1,023 (R171). -/
def badListField (v : Nat) : Bool := decide (v ≠ 0xFFFF ∧ 1023 < v)

def readSegment (b : List Byte) : SegmentEntry :=
  { enabled := bit (field b 0 1) 0, learning := bit (field b 0 1) 1, tenant := Fin.ofNat 256 (field b 2 2),
    flood := listOf (field b 4 2), multicast := listOf (field b 6 2) }

/-- Why a segment entry is refused (R171). -/
def segmentReasons (b : List Byte) : List Reason :=
  reasonsOf
    [(decide (255 < field b 2 2), .range), (badListField (field b 4 2), .range), (badListField (field b 6 2), .range)]

/-- The entry position `i` of a list's bytes (Table 10-5). -/
def readItem (b : List Byte) (i : Nat) : ListItem := { kind := b.getD (4 * i) 0, number := field b (4 * i + 2) 2 }

def readList (b : List Byte) : RepList := { count := field b 64 1, items := (List.range 16).map (readItem b) }

/-- An entry position holds an unknown kind or a number out of its kind's range (R60). -/
def ListItem.bad (e : ListItem) : Bool :=
  match e.kind.toNat with
  | 1 => decide (47 < e.number)
  | 2 => decide (63 < e.number)
  | 3 => decide (1023 < e.number)
  | _ => true

/-- Why a list is refused (R60, R171). Only positions below the count are examined. -/
def listReasons (b : List Byte) : List Reason :=
  reasonsOf
    [(decide (16 < field b 64 1), .count),
     ((((List.range 16).map (readItem b)).take (field b 64 1)).any ListItem.bad, .range)]

/-! ## Installs (R170, Table 10-3) -/

/-- The bytes of the installed copy of entry `i` of a table. -/
def State.installedBytes (s : State) (table i : Nat) : List Byte :=
  match table with
  | 0 => bytesOfGlobal s.tables.globalEntry
  | 1 => bytesOfPort (s.tables.ports.getD i PortEntry.powerOn)
  | 2 => bytesOfGroup (s.tables.groups.getD i (GroupEntry.powerOn i))
  | 3 => bytesOfProfile (s.tables.queueProfiles.getD i QueueProfile.powerOn)
  | 4 => bytesOfSchedule (s.scheduleProfile i)
  | 5 => bytesOfTariffs (s.tariffSet i)
  | 6 => bytesOfTenant (s.tables.tenants.getD i TenantEntry.powerOn)
  | 7 => bytesOfSegment (s.segmentEntry i)
  | _ => bytesOfList (s.tables.lists.getD i RepList.powerOn)

/-- Why the offered bytes of an entry are refused; empty where they are accepted (R171). -/
def entryReasons (table : Nat) (b : List Byte) : List Reason :=
  match table with
  | 2 => groupReasons b
  | 7 => segmentReasons b
  | 8 => listReasons b
  | _ => []

/-- The installed tables change. -/
def State.setTables (s : State) (t : Installed) : State := { s with tables := t }

/-- A new global entry: in ACTIVE the shed level is re-evaluated (R82). -/
def State.installGlobal (s : State) (b : List Byte) : State :=
  let s1 := s.setTables { s.tables with globalEntry := readGlobal b }
  if s1.isActive then s1.report else s1

/-- A port's pending flag is set, and a port whose queues are empty adopts at once (R98). -/
def State.setPendingSched (s : State) (p : Port) : State :=
  (s.setEgressPort p { s.egressPort p with pendingSched := true }).adoptIfEmpty p

/-- A new port entry: a changed schedule profile number sets the pending flag; in ACTIVE a refill run and a post attempt
follow (R6, R98, R101). -/
def State.installPort (s : State) (p : Port) (b : List Byte) : State :=
  let was := (s.portEntry p).schedProfile
  let s1 := s.setTables { s.tables with ports := s.tables.ports.setD p (readPort b) PortEntry.powerOn }
  let s2 := if (readPort b).schedProfile = was then s1 else s1.setPendingSched p
  if s2.isActive then (s2.refill).owe p else s2

/-- A new group entry is followed by a recompute of the group's state (R130). -/
def State.installGroup (s : State) (g : GroupId) (b : List Byte) : State :=
  (s.setTables { s.tables with groups := s.tables.groups.setD g (readGroup b) (GroupEntry.powerOn g) }).recomputeGroup g

/-- A new schedule profile sets the pending flag of every port that names it (R98). -/
def State.installSchedule (s : State) (i : Nat) (b : List Byte) : State :=
  let s1 := s.setTables { s.tables with schedules := s.tables.schedules.setD i (readSchedule b) allSkip }
  (allPorts.filter fun p => decide ((s.portEntry p).schedProfile = i)).foldl State.setPendingSched s1

/-- A new tenant entry clamps the tenant's tokens to its depth (R78). -/
def State.installTenant (s : State) (n : Tenant) (b : List Byte) : State :=
  let s1 := s.setTables { s.tables with tenants := s.tables.tenants.setD n (readTenant b) TenantEntry.powerOn }
  s1.setMeter n { s1.meter n with tokens := min (s1.meter n).tokens (readTenant b).depth }

/-- An accepted entry becomes the installed copy, with its clamps and masks, and its owner acts on the install (R170,
R171, Table 10-3). -/
def State.install (s : State) (table i : Nat) (b : List Byte) : State :=
  match table with
  | 0 => s.installGlobal b
  | 1 =>
    match portOf i with
    | some p => s.installPort p b
    | none => s
  | 2 =>
    match groupOf i with
    | some g => s.installGroup g b
    | none => s
  | 3 =>
    s.setTables { s.tables with queueProfiles := s.tables.queueProfiles.setD i (readProfile b) QueueProfile.powerOn }
  | 4 => s.installSchedule i b
  | 5 => s.setTables { s.tables with tariffs := s.tables.tariffs.setD i (readTariffs b) tariffsPowerOn }
  | 6 =>
    match tenantOf i with
    | some n => s.installTenant n b
    | none => s
  | 7 => s.setTables { s.tables with segments := s.tables.segments.setD i (readSegment b) SegmentEntry.powerOn }
  | _ => s.setTables { s.tables with lists := s.tables.lists.setD i (readList b) RepList.powerOn }

/-- The reason a refused entry's notice carries. Where one reason applies it is that one; where several do, the manual
does not say which, and a free value chooses (log entry 1). -/
def pickReason (l : List Reason) (draw : Nat) : Reason :=
  match l.eraseDups with
  | [] => .count
  | [r] => r
  | r :: rest => (r :: rest).getD (Config.reasonChoice draw % (r :: rest).length) r

/-- The entry is refused: the installed copy stands and TABLE_REJECTED is posted (R170, Table 11-1). -/
def State.reject (s : State) (table i : Nat) (reasons : List Reason) : State :=
  ({ s with freeDraws := s.freeDraws + 1 } : State).ask .tableRejected i
    (2 ^ 8 * table + (pickReason reasons s.freeDraws).code) 0

/-! ## Staging (R169) -/

/-- The bytes of a share are staged, each strobed byte replacing what was staged for it before (R169). -/
def stageBytes : Nat → Lanes → Table Byte → Table Byte
  | _, [], m => m
  | off, none :: rest, m => stageBytes (off + 1) rest m
  | off, some b :: rest, m => stageBytes (off + 1) rest (m.put off b)

/-- Bytes overlaid with staged ones. -/
def overlay (bytes : List Byte) (m : Table Byte) : List Byte := bytes.zipIdx.map fun e => (m.find e.2).getD e.1

def State.setStaging (s : State) (v : Option Staging) : State := { s with path := { s.path with staging := v } }

/-- The staged bytes of another entry are abandoned, with TABLE_ABANDONED if there are any (R169). -/
def State.abandon (s : State) (table i : Nat) : State :=
  match s.path.staging with
  | none => s
  | some g =>
    if g.table = table ∧ g.index = i then s
    else
      let s1 := s.setStaging none
      if g.bytes.isEmpty then s1 else s1.ask .tableAbandoned g.index (2 ^ 8 * g.table) 0

/-- The bytes staged for an entry. -/
def State.stagedBytes (s : State) (table i : Nat) : Table Byte :=
  match s.path.staging with
  | some g => if g.table = table ∧ g.index = i then g.bytes else []
  | none => []

/-- A write's share is staged (R169). -/
def State.stageEntry (s : State) (e : EntryWrite) : State :=
  let s1 := s.abandon e.table e.index
  s1.setStaging
    (some ⟨e.table, e.index, stageBytes e.base e.lanes (s1.stagedBytes e.table e.index)⟩)

/-- A commit (R170): the installed copy overlaid with the staged bytes, the commit word among them, is validated and
installed or refused; the staging copy then holds no entry. -/
def State.commit (s : State) (e : EntryWrite) : State :=
  let offered := overlay (s.installedBytes e.table e.index) (s.stagedBytes e.table e.index)
  let s1 := s.setStaging none
  match entryReasons e.table offered with
  | [] => s1.install e.table e.index offered
  | reasons => s1.reject e.table e.index reasons

/-- One entry's share of a write to the control tables, in PASSIVE or ACTIVE (R169, R170). -/
def State.entryWrite (s : State) (e : EntryWrite) : State :=
  if e.commits then (s.stageEntry e).commit e else s.stageEntry e

/-- The write `g` falls in granule `i` of the control-table area, and has been forwarded (R165, R169). -/
def State.tableWrite (s : State) (i : Nat) (g : Lanes) : State := (entryWrites i g).foldl State.entryWrite s

/-- The window offset of granule `i` of the control-table area. -/
def tableOffset (i : Nat) : Nat := Config.controlTables + 64 * i

/-- TABLE_STAGING_WRITE (R169). -/
def execTableStagingWrite (i : Fin 3584) (g : Lanes) (s : State) : Host.Outcome State Fault Refusal :=
  .next ((s.forward (s.windowAddr (tableOffset i)) g).tableWrite i g).finish

/-- TABLE_COMMIT (R170): the write is staged and each commit in it handled, entry by entry. -/
def execTableCommit (i : Fin 3584) (g : Lanes) (s : State) : Host.Outcome State Fault Refusal :=
  .next ((entryWrites i g).foldl State.entryWrite (s.forward (s.windowAddr (tableOffset i)) g)).finish

end Sys2Proof.Machine
end

