-- ==== Sys2Proof/Machine/Admission.lean ====
section
/-! DEFINITION. The admission unit: meter refill and colour (R74, R75), the frame-level checks (R76, R83, R85, R86), the
copy-level check and the mark (R87 to R92), and METER_REFILL (R79). -/
namespace Sys2Proof.Machine

/-- The meter of a tenant brought up to the present: the elapsed time modulo 2^32, at most one second, is credited at
the installed rate up to the installed depth (R74). -/
def refilledMeter (e : TenantEntry) (m : Meter) (now : Word32) : Meter :=
  { tokens := min e.depth (m.tokens + min (now - m.last).toNat 1000000 * e.rate), last := now }

/-- The meter of tenant `n` is brought up to the present (R74). -/
def State.refillMeter (s : State) (n : Tenant) : State :=
  s.setMeter n (refilledMeter (s.tenantEntry n) (s.meter n) s.now)

/-- The colour the refilled meter gives a frame (R75). -/
def State.colourOf (s : State) (n : Tenant) (length : Nat) : Colour :=
  if frameCost length ≤ (s.meter n).tokens then .committed else .excess

/-- The excess mode drops EXCESS frames: DROP_EXCESS, and 3 acts as it (R76). -/
def TenantEntry.dropsExcess (e : TenantEntry) : Bool := decide (2 ≤ e.excessMode)

/-- The excess mode is MARK_EXCESS (R76). -/
def TenantEntry.marksExcess (e : TenantEntry) : Bool := decide (e.excessMode = 1)

/-- The shed level refuses a frame of this colour and class (R83). -/
def shedRefuses (level : ShedLevel) (k : Colour) (c : Cls) : Bool :=
  match level with
  | .normal => false
  | .tight => decide (k = .excess)
  | .critical => decide (k = .excess) || decide (c ≠ 0)

/-- The frame-level checks that follow the colour, in order; the first that refuses gives its cause (R86). -/
def State.frameRefusal (s : State) (f : Forming) : Option DropCause :=
  if f.colour = .excess && (s.tenantEntry f.tenant).dropsExcess then some .meter
  else if shedRefuses s.admission.shed f.colour f.cls then some .shed
  else if (s.tenantEntry f.tenant).quota < s.heldCells f.tenant + f.cellCount then some .tenantQuota
  else none

/-- The depth a class queue may reach with a copy of this colour (R89, R90). -/
def State.queueBound (s : State) (p : Port) (c : Cls) (k : Colour) : Nat :=
  match k with
  | .committed => max (s.profileOf p c).minimum (threshold (s.profileOf p c).alpha s.freeCount)
  | .excess => excessThreshold (s.profileOf p c).alpha s.freeCount

/-- The copy-level check of a copy of frame `f` for port `p` (R89, R90). -/
def State.copyFits (s : State) (f : Forming) (p : Port) : Bool :=
  decide (s.cellDepth p f.cls + f.cellCount ≤ s.queueBound p f.cls f.colour)

/-- The mark of an EXCESS frame under MARK_EXCESS (R91, R92): the whole mark of a held copy. -/
def State.excessMark (s : State) (f : Forming) : Bool :=
  decide (f.colour = .excess) && (s.tenantEntry f.tenant).marksExcess

/-- The mark of a copy admitted to a class queue of `p` (R91). -/
def State.copyMark (s : State) (f : Forming) (p : Port) : Bool :=
  decide ((s.profileOf p f.cls).markThreshold < s.cellDepth p f.cls + f.cellCount) || s.excessMark f

/-- METER_REFILL once it has started (R79, R179). -/
def State.meterRefillBody (s : State) (k : SlotId) : State :=
  s.requireActive k <|
    match tenantOf (argTenant (s.args k)) with
    | none => s.fail k .argument
    | some n => (s.setMeter n ⟨(s.tenantEntry n).depth, s.now⟩).done k .none 0

end Sys2Proof.Machine
end

