-- ==== Sys2Proof/Machine/Replication.lean ====
section
/-! DEFINITION. The replication walker (Chapter 4): the walk over nested lists (R61 to R63), what an entry yields (R64,
R65), the copies made (R66, R67), and single targets (R68, R69). -/
namespace Sys2Proof.Machine

/-- A place in a list: the list, the next entry index and the remaining count (R61). -/
structure WalkPos where
  list : ListId
  next : Nat
  remaining : Nat
  deriving DecidableEq, Repr

/-- The walker's state in one walk (R61). -/
structure RepWalk where
  pos : WalkPos
  stack : List WalkPos
  served : List Port
  heldGroups : List GroupId
  depthReported : Bool
  deriving DecidableEq, Repr

/-- The start of list `l` (R62, R63). -/
def State.startOf (s : State) (l : ListId) : WalkPos := { list := l, next := 0, remaining := (s.repList l).count }

/-- The walker at the start of a walk over list `l` (R61, R62). -/
def State.startRep (s : State) (l : ListId) : RepWalk :=
  { pos := s.startOf l, stack := [], served := [], heldGroups := [], depthReported := false }

/-- A candidate port that has passed the exclusion checks: the copy-level check, then the copy request (R66). -/
def State.offerCopy (s : State) (f : Forming) (p : Port) (via : Option GroupId) : State :=
  if s.copyFits f p then s.createCopy f (.queue p) via (s.copyMark f p) else s.countDrop .queueFull f.tenant

/-- A copy bound for the hold pool under evacuating group `g` (R67, R92). -/
def State.offerHeld (s : State) (f : Forming) (g : GroupId) : State :=
  if s.holdCount < Config.holdRoom then s.createCopy f (.hold g) (some g) (s.excessMark f)
  else s.countDrop .holdFull f.tenant

/-- The ingress check: `p` is the frame's ingress port and its hairpin flag is clear (R64). -/
def State.ingressExcluded (s : State) (f : Forming) (p : Port) : Bool :=
  decide (p = f.port) && !(s.portEntry p).hairpin

/-- The three exclusion checks of a candidate in a list (R64). -/
def State.excluded (s : State) (f : Forming) (w : RepWalk) (p : Port) : Bool :=
  decide (p ∈ w.served) || s.ingressExcluded f p || !s.isUp p

/-- Candidate `p` of a list walk: skipped, or served (R64, R66). -/
def repCandidate (f : Forming) (p : Port) (via : Option GroupId) (x : RepWalk × State) : RepWalk × State :=
  if x.2.excluded f x.1 p then x
  else ({ x.1 with served := x.1.served ++ [p] }, x.2.offerCopy f p via)

/-- A GROUP(g) entry (R65). -/
def repGroup (f : Forming) (g : GroupId) (x : RepWalk × State) : RepWalk × State :=
  if x.2.groupState g = .evacuating then
    if g ∈ x.1.heldGroups then x
    else ({ x.1 with heldGroups := x.1.heldGroups ++ [g] }, x.2.offerHeld f g)
  else
    match x.2.memberChoice g f.flowHash with
    | none => x
    | some m => repCandidate f m (some g) x

/-- A SUBLIST(l) entry, taken at position `i` of list `inList` (R63). -/
def repSublist (f : Forming) (l inList : ListId) (i : Nat) (x : RepWalk × State) : RepWalk × State :=
  if x.1.stack.length < Config.walkDepth then
    ({ x.1 with pos := x.2.startOf l, stack := x.1.pos :: x.1.stack }, x.2)
  else if x.1.depthReported then x
  else
    ({ x.1 with depthReported := true },
      x.2.ask .replicationDepth f.segment (2 ^ 16 * inList + i) l)

/-- The entry at position `i` of list `l` is acted on by its kind, 1 PORT, 2 GROUP, 3 SUBLIST (R62, Table 10-5). An
installed list holds no other kind and no number out of range below its count (R60). -/
def repEntry (f : Forming) (l : ListId) (i : Nat) (x : RepWalk × State) : RepWalk × State :=
  let e := (x.2.repList l).items.getD i ⟨0, 0⟩
  match e.kind.toNat with
  | 1 =>
    match portOf e.number with
    | some p => repCandidate f p none x
    | none => x
  | 2 =>
    match groupOf e.number with
    | some g => repGroup f g x
    | none => x
  | 3 =>
    match listOf e.number with
    | some m => repSublist f m l i x
    | none => x
  | _ => x

/-- One pass of R62: an entry is taken and acted on, or the top stack frame is popped; none at the end of the walk. -/
def repPass (f : Forming) (x : RepWalk × State) : Option (RepWalk × State) :=
  let w := x.1
  if w.pos.remaining = 0 then
    match w.stack with
    | [] => none
    | t :: rest => some ({ w with pos := t, stack := rest }, x.2)
  else
    some
      (repEntry f w.pos.list w.pos.next
        ({ w with pos := { w.pos with next := w.pos.next + 1, remaining := w.pos.remaining - 1 } }, x.2))

/-- The passes of a walk to its end (R62); the first argument bounds them (`Config.walkPasses`). -/
def repWalk (f : Forming) : Nat → RepWalk × State → State
  | 0, x => x.2
  | n + 1, x =>
    match repPass f x with
    | none => x.2
    | some y => repWalk f n y

/-- A direct PORT target: the ingress check alone, whatever the port's liveness state (R68). -/
def State.directPort (s : State) (f : Forming) (p : Port) : State :=
  if s.ingressExcluded f p then s else s.offerCopy f p none

/-- A direct GROUP target (R69). -/
def State.directGroup (s : State) (f : Forming) (g : GroupId) : State :=
  if s.groupState g = .evacuating then s.offerHeld f g
  else
    match s.memberChoice g f.flowHash with
    | none => s.countDrop .noPath f.tenant
    | some m => if s.ingressExcluded f m then s else s.offerCopy f m (some g)

/-- The copies of a frame that passed the frame-level checks (R33). -/
def State.replicate (s : State) (f : Forming) (t : Target) : State :=
  match t with
  | .port p => s.directPort f p
  | .group g => s.directGroup f g
  | .list l => repWalk f Config.walkPasses (s.startRep l, s)

end Sys2Proof.Machine
end

