-- ==== Sys2Proof/Machine/Intake.lean ====
section
/-! DEFINITION. The intake unit: writes into the ingress rings (R20 to R23) and the taking of a descriptor (R24 to R33,
with R7, R8 and R86). -/
namespace Sys2Proof.Machine

/-- The window offset of slot `n` of the ingress ring of port `p` (R20). -/
def ingressOffset (p : Port) (n : Nat) : Nat := Config.ingressRings + 0x4000 * p + 0x40 * n

/-- The expected slot advances, its lap flipping at the wrap, and the staging copy is cleared (R20, R22). -/
def IntakePort.advance (i : IntakePort) : IntakePort :=
  { slot := if i.slot ≥ 255 then 0 else i.slot + 1, lap := if i.slot ≥ 255 then !i.lap else i.lap,
    staging := zeroGranule }

/-- The tenant of a segment's entry (R28). -/
def State.segmentTenant (s : State) (segment : Nat) : Tenant := (s.segmentEntry segment).tenant

/-- The segment of a frame: its tag, or for tag 0 the port's default segment (R28). -/
def State.segmentOf (s : State) (p : Port) (d : Descriptor) : Nat :=
  if d.tag = 0 then (s.portEntry p).defaultSegment else d.tag

/-- The frame under formation of descriptor `d` (R30, Table 2-3). Its colour is set by the admission unit (R75). -/
def State.form (s : State) (p : Port) (d : Descriptor) (cells : List Nat) : Forming :=
  { cells := cells, port := p, segment := s.segmentOf p d, tenant := s.segmentTenant (s.segmentOf p d),
    length := d.length, cellCount := d.cellCount, cls := s.classOfPriority d.priority, dst := d.dst, src := d.src,
    flowHash := flowHash s.tables.globalEntry.rotation d.words, colour := .excess }

/-- A resolved frame: meter refill and colour, the other frame-level checks, then its copies (R33, R86, R93). -/
def State.admitFrame (s : State) (f : Forming) (t : Target) : State :=
  let s1 := s.refillMeter f.tenant
  let f1 : Forming := { f with colour := s1.colourOf f.tenant f.length }
  match s1.frameRefusal f1 with
  | some cause => s1.countDrop cause f1.tenant
  | none => s1.replicate f1 t

/-- A frame under formation: link words, learning, resolution, admission and copies (R30, R32, R33). -/
def State.forwardFrame (s : State) (f : Forming) : State :=
  let s1 := (State.writeLinks f.cells s).learn f
  match s1.resolve f with
  | none => s1.countDrop .noPath f.tenant
  | some t => s1.admitFrame f t

/-- The stages of a taking behind the claim (R26 to R33). -/
def State.takeStages (s : State) (p : Port) (d : Descriptor) (cells : List Nat) : State :=
  if !d.sizeValid || d.fcsBad || d.truncated then
    s.countDrop .ingressError (s.segmentTenant (s.portEntry p).defaultSegment)
  else
    let g := s.segmentOf p d
    if g = 0 ∨ (s.segmentEntry g).enabled = false then s.countDrop .segmentOff (s.segmentTenant g)
    else s.forwardFrame (s.form p d cells)

/-- The close of a taking that claimed `cells`: cells of a frame with no copy are freed in frame order and the new free
count reported; then, if any cell was claimed, one refill run is made (R8, R33). -/
def State.closeTaking (s : State) (cells : List Nat) : State :=
  match cells with
  | [] => s
  | first :: _ => if (s.frame first).isSome then s.refill else ((s.freeCells cells).report).refill

/-- The taking of the descriptor staged for port `p` (R24): the expected slot has advanced (R22), then the first
validation step and the claim (R25, R7), the stages, and the close. -/
def State.takeDescriptor (s : State) (p : Port) : State :=
  let i := s.intakePort p
  let d := Descriptor.read i.staging
  let s1 := s.setIntakePort p i.advance
  if s1.issuedCount p < d.cellCount then
    s1.ask .intakeFault p (2 ^ 24 * 2 + i.slot) (2 ^ 16 * d.cellCount + s1.issuedCount p)
  else
    let cells := s1.claimed p d.cellCount
    ((s1.claim p d.cellCount).takeStages p d cells).closeTaking cells

/-- The strobed bytes of a write are merged into the staging copy of port `p` (R21). -/
def State.stageIngress (s : State) (p : Port) (g : Lanes) : State :=
  s.setIntakePort p { s.intakePort p with staging := merge (s.intakePort p).staging g }

/-- INTAKE_FAULT of kind ORDER: the slot written and the lap carried (R23, Table 11-1). -/
def State.orderFault (s : State) (p : Port) (n : Nat) (lap : Bool) : State :=
  s.ask .intakeFault p (2 ^ 24 * 1 + n) lap.toNat

/-- The write takes the descriptor: ACTIVE, the expected slot, a whole ready word with the marker and the expected lap
(R22). -/
def State.takes (s : State) (p : Port) (n : Nat) (g : Lanes) : Bool :=
  s.isActive && decide (n = (s.intakePort p).slot) && readyMarker g && (readyLap g == (s.intakePort p).lap)

/-- The write `g` falls in slot `n` of the ingress ring of port `p`, and has been forwarded (R21, R22, R23). -/
def State.ingressWrite (s : State) (p : Port) (n : Nat) (g : Lanes) : State :=
  if !s.isActive then s
  else if n = (s.intakePort p).slot then
    if readyMarker g then
      if readyLap g = (s.intakePort p).lap then (s.stageIngress p g).takeDescriptor p
      else (s.stageIngress p g).orderFault p n (readyLap g)
    else s.stageIngress p g
  else if readyMarker g then s.orderFault p n (readyLap g)
  else s

/-- INGRESS_SLOT_WRITE (R21): the write is forwarded, then staged, taken or judged an order fault as what it is. -/
def execIngressSlotWrite (p : Port) (slot : RingSlot) (g : Lanes) (s : State) : Host.Outcome State Fault Refusal :=
  .next ((s.forward (s.windowAddr (ingressOffset p slot)) g).ingressWrite p slot g).finish

/-- TAKING_OF_DESCRIPTOR (R22, R24): the ready write is forwarded and merged, and the descriptor it completes is taken.
A write that takes nothing acts as the ingress-ring write it is. -/
def execTakingOfDescriptor (p : Port) (slot : RingSlot) (g : Lanes) (s : State) : Host.Outcome State Fault Refusal :=
  let s1 := s.forward (s.windowAddr (ingressOffset p slot)) g
  if s.takes p slot g then .next (((s1.stageIngress p g).takeDescriptor p)).finish
  else .next (s1.ingressWrite p slot g).finish

/-- The intake unit's part of PORT_RESET (R35). -/
def State.resetIntake (s : State) (p : Port) : State := s.setIntakePort p IntakePort.powerOn

end Sys2Proof.Machine
end

