-- ==== Sys2Proof/Machine/Commands.lean ====
section
/-! DEFINITION. The command unit: START (R168), PORT_RESET (R129), TIME_MARK (R180), and the rows of Table 11-3, each a
write of a command slot whose command word carries the row's kind (R172, R178, R179). -/
namespace Sys2Proof.Machine

/-! ## START -/

/-- Step 1 of R168: the free list and free copy list in ascending order, every free-cell ring restarted (R18). -/
def State.startCells (s : State) : State :=
  allPorts.foldl (fun s p => s.setCellPort p { s.cellPort p with pos := 0, lap := true })
    { s with cells := { s.cells with freeList := [(0, Config.cells)], freeCopies := [(0, Config.copies)] } }

/-- Step 2 of R168: every port's intake state (R20). -/
def State.startIntake (s : State) : State := { s with intake := [] }

/-- Step 3 of R168: every egress ring, and every phase pointer (R97, R99). -/
def State.startEgress (s : State) : State :=
  allPorts.foldl
    (fun s p => s.setEgressPort p { s.egressPort p with slots := [], nextWrite := 0, lap := true, phase := 0 }) s

/-- Step 4 of R168: every port DOWN, its timers stopped, its recorded change count as it stands (R116). -/
def State.startLive (s : State) : State :=
  allPorts.foldl
    (fun s p => s.setLivePort p { s.livePort p with state := .down, trial := none, stall := none, drain := none }) s

/-- Steps 5 to 8 of R168: the shed level, the epoch opening time, the aging period timer and the mode (R82, R149, R47,
R167). -/
def State.startRest (s : State) : State :=
  { s with
    admission := { s.admission with shed := .normal }
    acct := { s.acct with openTime := s.now }
    lookup := { s.lookup with
      agingTimer := some (s.now + BitVec.ofNat 32 (agingSpan s.tables.globalEntry.agingPeriod)) }
    path := { s.path with mode := .active } }

/-- START accepted in PASSIVE (R168): steps 1 to 8, the first refill run with the evaluation of the shed level on the
free count it leaves, and the slot DONE. -/
def State.startPart (s : State) (k : SlotId) : State :=
  (s.startCells.startIntake.startEgress.startLive.startRest.refillRun.report).done k .none 0

/-- START once it has started; in ACTIVE it fails with STATE (R168, R179). -/
def State.startBody (s : State) (k : SlotId) : State := if s.isActive then s.fail k .state else s.startPart k

/-! ## PORT_RESET -/

/-- The cell manager's part of PORT_RESET: the issued cells go to the tail of the free list, oldest first, and the
free-cell ring restarts (R19). -/
def State.resetCells (s : State) (p : Port) : State :=
  let s1 : State :=
    { s with cells := { s.cells with freeList := Runs.append s.cells.freeList (s.cellPort p).issued } }
  s1.setCellPort p CellPort.powerOn

/-- PORT_RESET of `p` (R129): the parts of the cell manager, the intake unit and the queue manager; the new free count,
reported once, and the refill run (R17, R19); then the liveness monitor's part. -/
def State.portReset (s : State) (p : Port) : State :=
  let s1 := ((s.resetCells p).resetIntake p).resetEgress p
  let s2 := if s1.freeCount = s.freeCount then s1.refill else s1.report.refill
  s2.resetLiveness p

/-- PORT_RESET once it has started (R129, R179). -/
def State.portResetBody (s : State) (k : SlotId) : State := s.withPortArg k fun p => (s.portReset p).done k .none 0

/-! ## TIME_MARK -/

/-- TIME_MARK once it has started: DONE with the present timebase as result value (R180). -/
def State.timeMarkBody (s : State) (k : SlotId) : State := s.requireActive k (s.done k .none s.now.toNat)

/-! ## Command words -/

/-- A command of a kind that is not in Table 11-3 ends FAILED with ARGUMENT, in either mode (R179). -/
def State.unknownBody (s : State) (k : SlotId) : State := s.fail k .argument

/-- What the command of a kind does once it has started (Table 11-3). -/
def State.commandBody (s : State) (kind : Byte) (k : SlotId) : State :=
  match kind.toNat with
  | 1 => s.startBody k
  | 2 => s.stationAddBody k
  | 3 => s.stationRemoveBody k
  | 4 => s.flushBody k
  | 5 => s.epochCloseBody k
  | 6 => s.portAdminDownBody k
  | 7 => s.portAdminReleaseBody k
  | 8 => s.portResetBody k
  | 9 => s.meterRefillBody k
  | 10 => s.timeMarkBody k
  | _ => s.unknownBody k

/-- A command word handed on for slot `k`: ignored while the slot is BUSY, started otherwise (R178). `body` is what the
command does once it has started. -/
def State.commandWord (s : State) (k : SlotId) (kind : Byte) (tag : BitVec 16) (body : State → State) : State :=
  if s.slotBusy k then s.ignoreCommand k kind tag else body (s.startSlot k kind tag)

/-- The window offset of command slot `k` (R172). -/
def slotOffset (k : SlotId) : Nat := Config.commandSlots + 0x40 * k

/-- A command write of kind `kind`: forwarded, its argument bytes applied, its command word handed on (R172, R178). -/
def State.commandWrite (s : State) (kind : Byte) (w : SlotWrite) (body : State → State) : State :=
  ((s.forward (s.windowAddr (slotOffset w.slot)) (slotGranule kind w)).takeArgs w.slot w.low).commandWord w.slot kind
    w.tag body

/-- The write `g` falls on the granule of slot `k`, and has been forwarded (R172): bytes 0 to 47 go to the argument
copy, and a command word covered whole is handed on. -/
def State.slotWrite (s : State) (k : SlotId) (g : Lanes) : State :=
  let s1 := s.takeArgs k g
  if allStrobes g 60 4 then
    let kind := (carried g).getD 63 0
    s1.commandWord k kind (BitVec.ofNat 16 (field (carried g) 60 2)) fun s2 => s2.commandBody kind k
  else s1

/-! ## The rows -/

/-- COMMAND_ARGUMENT_WRITE (R172). -/
def execCommandArgumentWrite (k : SlotId) (g : Lanes) (s : State) : Host.Outcome State Fault Refusal :=
  .next ((s.forward (s.windowAddr (slotOffset k)) g).slotWrite k g).finish

/-- UNKNOWN_COMMAND (R179): a kind outside Table 11-3; a kind of the table is the command it names. -/
def execUnknownCommand (kind : Byte) (w : SlotWrite) (s : State) : Host.Outcome State Fault Refusal :=
  .next (s.commandWrite kind w fun s1 => s1.commandBody kind w.slot).finish

/-- START (R168). -/
def execStart (w : SlotWrite) (s : State) : Host.Outcome State Fault Refusal :=
  .next (s.commandWrite 1 w fun s1 => s1.startBody w.slot).finish

/-- STATION_ADD (R55). -/
def execStationAdd (w : SlotWrite) (s : State) : Host.Outcome State Fault Refusal :=
  .next (s.commandWrite 2 w fun s1 => s1.stationAddBody w.slot).finish

/-- STATION_REMOVE (R57). -/
def execStationRemove (w : SlotWrite) (s : State) : Host.Outcome State Fault Refusal :=
  .next (s.commandWrite 3 w fun s1 => s1.stationRemoveBody w.slot).finish

/-- FLUSH (R58). -/
def execFlush (w : SlotWrite) (s : State) : Host.Outcome State Fault Refusal :=
  .next (s.commandWrite 4 w fun s1 => s1.flushBody w.slot).finish

/-- EPOCH_CLOSE (R157). -/
def execEpochClose (w : SlotWrite) (s : State) : Host.Outcome State Fault Refusal :=
  .next (s.commandWrite 5 w fun s1 => s1.epochCloseBody w.slot).finish

/-- PORT_ADMIN_DOWN (R128). -/
def execPortAdminDown (w : SlotWrite) (s : State) : Host.Outcome State Fault Refusal :=
  .next (s.commandWrite 6 w fun s1 => s1.portAdminDownBody w.slot).finish

/-- PORT_ADMIN_RELEASE (R128). -/
def execPortAdminRelease (w : SlotWrite) (s : State) : Host.Outcome State Fault Refusal :=
  .next (s.commandWrite 7 w fun s1 => s1.portAdminReleaseBody w.slot).finish

/-- PORT_RESET (R129). -/
def execPortReset (w : SlotWrite) (s : State) : Host.Outcome State Fault Refusal :=
  .next (s.commandWrite 8 w fun s1 => s1.portResetBody w.slot).finish

/-- METER_REFILL (R79). -/
def execMeterRefill (w : SlotWrite) (s : State) : Host.Outcome State Fault Refusal :=
  .next (s.commandWrite 9 w fun s1 => s1.meterRefillBody w.slot).finish

/-- TIME_MARK (R180). -/
def execTimeMark (w : SlotWrite) (s : State) : Host.Outcome State Fault Refusal :=
  .next (s.commandWrite 10 w fun s1 => s1.timeMarkBody w.slot).finish

end Sys2Proof.Machine
end

