-- ==== Sys2Proof/Machine/Path.lean ====
section
/-! DEFINITION. The path monitor: the classification of the control window (R163 to R165), a write at any address, the
notice-consumer word (R176), and power-on reset (R174). -/
namespace Sys2Proof.Machine

/-- The areas of Table 10-1, with what a granule of each one that the part interprets stands for; `other` is every
area handed to nothing and every offset outside them all. -/
inductive Area where
  | ingress (p : Port) (slot : Nat)
  | egress (p : Port) (slot : Nat)
  | status (p : Port)
  | tables (granule : Nat)
  | commandSlot (k : SlotId)
  | consumer
  | other
  deriving DecidableEq, Repr

/-- A number as a command slot, if it is one. -/
def slotOf (n : Nat) : Option SlotId := if h : n < 16 then some ⟨n, h⟩ else none

/-- The area of the granule at a window offset (Table 10-1). -/
def areaOf (off : Nat) : Area :=
  if Config.ingressRings ≤ off ∧ off < Config.ingressRings + 0xC0000 then
    match portOf ((off - Config.ingressRings) / 0x4000) with
    | some p => .ingress p ((off - Config.ingressRings) % 0x4000 / 64)
    | none => .other
  else if Config.egressRings ≤ off ∧ off < Config.egressRings + 0xC0000 then
    match portOf ((off - Config.egressRings) / 0x4000) with
    | some p => .egress p ((off - Config.egressRings) % 0x4000 / 64)
    | none => .other
  else if Config.statusRecords ≤ off ∧ off < Config.statusRecords + 0xC00 then
    match portOf ((off - Config.statusRecords) / 64) with
    | some p => .status p
    | none => .other
  else if Config.controlTables ≤ off ∧ off < Config.controlTables + 0x38000 then
    .tables ((off - Config.controlTables) / 64)
  else if Config.commandSlots ≤ off ∧ off < Config.commandSlots + 0x400 then
    match slotOf ((off - Config.commandSlots) / 64) with
    | some k => .commandSlot k
    | none => .other
  else if Config.consumerWord ≤ off ∧ off < Config.consumerWord + 64 then .consumer
  else .other

/-- The window offset of a channel address, if it lies in the control window (R163). -/
def State.offsetOf (s : State) (addr : Nat) : Option Nat :=
  if s.windowAddr 0 ≤ addr ∧ addr < s.windowAddr Config.windowSize then some (addr - s.windowAddr 0) else none

/-- What the notice writer does with consumer value `v` (R176). -/
def NoticeWriter.consume (w : NoticeWriter) (v : Word32) : NoticeWriter :=
  { w with consumer := if (w.producer - v).toNat ≤ Config.noticeRoom then v else w.producer }

/-- The write `g` falls on the granule of the consumer word, and has been forwarded (R176). -/
def State.consumerWrite (s : State) (g : Lanes) : State :=
  if s.isActive && allStrobes g 0 4 then { s with notices := s.notices.consume (consumerValue g) } else s

/-- A write in an area, already forwarded, is handed to the area's owner; the owners of the areas interpreted in ACTIVE
alone look at the mode (R164, Table 10-1). -/
def State.areaWrite (s : State) (a : Area) (g : Lanes) : State :=
  match a with
  | .ingress p n => s.ingressWrite p n g
  | .egress p n => s.egressWrite p n g
  | .status p => s.statusWrite p g
  | .tables i => s.tableWrite i g
  | .commandSlot k => s.slotWrite k g
  | .consumer => s.consumerWrite g
  | .other => s

/-- One granule of a write at channel address `addr` crosses the part (R163, R164, R165). -/
def State.presentWrite (s : State) (addr : Nat) (g : Lanes) : State :=
  let s1 := s.forward addr g
  match s.offsetOf addr with
  | none => s1
  | some off => s1.areaWrite (areaOf off) g

/-- CONSUMER_WORD (R176). -/
def execConsumerWord (g : Lanes) (s : State) : Host.Outcome State Fault Refusal :=
  .next ((s.forward (s.windowAddr Config.consumerWord) g).consumerWrite g).finish

/-- WINDOW_WRITE_NO_EFFECT (R164): a write at any channel address; an area or offset that the present mode does not
interpret changes no state of the part. -/
def execWindowWriteNoEffect (addr : Nat) (g : Lanes) (s : State) : Host.Outcome State Fault Refusal :=
  .next (s.presentWrite addr g).finish

/-- Power-on reset with a strap value (R163, R174): every block takes its power-on contents; memory is not written, and
the waiting commands stand. -/
def State.powerOn (s : State) (straps : BitVec 4) : State :=
  { State.reset with
    path := { State.reset.path with winbase := straps }
    bus := s.bus
    freeDraws := s.freeDraws
    pending := s.pending }

/-- POWER_ON_RESET (R174). -/
def execPowerOnReset (straps : BitVec 4) (s : State) : Host.Outcome State Fault Refusal :=
  .next (s.powerOn straps).finish

end Sys2Proof.Machine
end

