-- ==== Sys2Proof/Machine/Dispatch.lean ====
section
/-! DEFINITION. One arm per command: the meaning each row of spec/opcode_table.json has. -/
namespace Sys2Proof.Machine

def exec (i : Instr) (s : State) : Host.Outcome State Fault Refusal :=
  match i with
  | .powerOnReset straps => Sys2Proof.Machine.execPowerOnReset straps s
  | .ingressSlotWrite p slot g => Sys2Proof.Machine.execIngressSlotWrite p slot g s
  | .takingOfDescriptor p slot g => Sys2Proof.Machine.execTakingOfDescriptor p slot g s
  | .postAttempt p => Sys2Proof.Machine.execPostAttempt p s
  | .completion p slot g => Sys2Proof.Machine.execCompletion p slot g s
  | .statusWord p g => Sys2Proof.Machine.execStatusWord p g s
  | .trialExpiry p => Sys2Proof.Machine.execTrialExpiry p s
  | .stallExpiry p => Sys2Proof.Machine.execStallExpiry p s
  | .drainExpiry p => Sys2Proof.Machine.execDrainExpiry p s
  | .agingPeriodExpiry => Sys2Proof.Machine.execAgingPeriodExpiry s
  | .agingSweepStep => Sys2Proof.Machine.execAgingSweepStep s
  | .flushWalkStep => Sys2Proof.Machine.execFlushWalkStep s
  | .walkStart => Sys2Proof.Machine.execWalkStart s
  | .evacuationWalkStep => Sys2Proof.Machine.execEvacuationWalkStep s
  | .drainWalkStep => Sys2Proof.Machine.execDrainWalkStep s
  | .exportWalkStep => Sys2Proof.Machine.execExportWalkStep s
  | .tableStagingWrite n g => Sys2Proof.Machine.execTableStagingWrite n g s
  | .tableCommit n g => Sys2Proof.Machine.execTableCommit n g s
  | .commandArgumentWrite k g => Sys2Proof.Machine.execCommandArgumentWrite k g s
  | .consumerWord g => Sys2Proof.Machine.execConsumerWord g s
  | .unknownCommand kind w => Sys2Proof.Machine.execUnknownCommand kind w s
  | .start w => Sys2Proof.Machine.execStart w s
  | .stationAdd w => Sys2Proof.Machine.execStationAdd w s
  | .stationRemove w => Sys2Proof.Machine.execStationRemove w s
  | .flush w => Sys2Proof.Machine.execFlush w s
  | .epochClose w => Sys2Proof.Machine.execEpochClose w s
  | .portAdminDown w => Sys2Proof.Machine.execPortAdminDown w s
  | .portAdminRelease w => Sys2Proof.Machine.execPortAdminRelease w s
  | .portReset w => Sys2Proof.Machine.execPortReset w s
  | .meterRefill w => Sys2Proof.Machine.execMeterRefill w s
  | .timeMark w => Sys2Proof.Machine.execTimeMark w s
  | .windowWriteNoEffect addr g => Sys2Proof.Machine.execWindowWriteNoEffect addr g s
  | .timebaseAdvance => Sys2Proof.Machine.execTimebaseAdvance s

end Sys2Proof.Machine
end

