-- ==== Sys2Proof/Safety.lean ====
section
/-! DEFINITION. What the statements about the part are said in: the writes an action sends, what a command of a slot
leaves, the blocks a command may touch, and the invariants of the part's state. -/
namespace Sys2Proof.Machine

/-! ## What crosses the memory face -/

/-- No write of an action is gathered and unsent: the state between two actions (R166). -/
def State.quiet (s : State) : Prop := s.bus.writes = [] ∧ s.bus.notices = [] ∧ s.bus.statuses = []

/-- The write of granule `g` at a window offset, as it crosses the part (R164). -/
def State.crossing (s : State) (off : Nat) (g : Lanes) : BusWrite :=
  { addr := s.windowAddr off, lanes := g, own := false }

/-- The state with further writes sent, the newest first. -/
def State.sending (s : State) (ws : List BusWrite) : State := { s with bus := { s.bus with sent := ws ++ s.bus.sent } }

/-- What memory holds in `n` bytes from a window offset (R163). -/
def State.readBytes (s : State) (off n : Nat) : List (Option Byte) :=
  (List.range n).map fun i => s.memByte (s.windowAddr off + i)

/-- The write of the notice that would be asked for now, its detail words given (R175, Table 10-5). -/
def State.noticeWrite (s : State) (kind : NoticeKind) (subject first second : Nat) : BusWrite :=
  s.ownWrite (Config.noticeRing + 32 * (s.notices.producer.toNat % Config.noticeRoom))
    (noticeBytes s.notices.producer kind s.notices.gap s.now subject first second)

/-- The notice writer after that notice (R175). -/
def NoticeWriter.written (w : NoticeWriter) : NoticeWriter := { w with producer := w.producer + 1, gap := false }

/-- A notice as a block asks for it: kind, subject and the two detail words (R175). -/
structure NoticeAsk where
  kind : NoticeKind
  subject : Nat
  first : Nat
  second : Nat
  deriving DecidableEq, Repr

/-- The state once the notices of a list have been asked for, one after another (R175). -/
def State.noticed (s : State) (l : List NoticeAsk) : State :=
  l.foldl (fun s n => s.ask n.kind n.subject n.first n.second) s

/-- The state after an action's writes `own` and the notices asked for behind them, the newest write first: each notice is
written where the ring has room, the gap flag then clear, and otherwise lost with the gap flag set (R166, R175). -/
def State.telling (s : State) (own : List BusWrite) (asks : List NoticeAsk) : State :=
  match asks with
  | [] => s.sending own
  | n :: rest =>
    if (s.notices.producer - s.notices.consumer).toNat < 1024 then
      ({ s with notices := s.notices.written } : State).telling
        (s.noticeWrite n.kind n.subject n.first n.second :: own) rest
    else ({ s with notices := { s.notices with gap := true } } : State).telling own rest

/-- What an action has sent between `s` and `t`, and what it has made of the notice writer: its writes `own`, then the
notices asked for, then the status words `status`, each list newest first (R166, R175). -/
def State.sends (s t : State) (own : List BusWrite) (asks : List NoticeAsk) (status : List BusWrite) : Prop :=
  t.notices = (s.noticed asks).notices ∧
    t.bus = (s.sending (status ++ ((s.noticed asks).bus.notices ++ own))).bus

/-- What an action has sent between `s` and `t`, and what it has made of the notice writer: first its writes `own`, then
the writes gathered in `base`, then the notices gathered there, then the status words `status`, each list newest first
(R166, R175). `base` is `s` carried through what asks for notices and issues cells, in the order of the action. -/
def State.delivers (s t base : State) (own status : List BusWrite) : Prop :=
  t.notices = base.notices ∧ t.bus = (s.sending (status ++ (base.bus.notices ++ (base.bus.writes ++ own)))).bus

/-- The status word write of a slot whose command has ended, its result value 0 (R179). -/
def State.endWrite (s : State) (k : SlotId) (st : SlotStatus) (tag : BitVec 16) : BusWrite :=
  s.ownWrite (slotOffset k + 52) (leBytes 4 0 ++ statusWordBytes st .none tag)

/-- The status word write of a slot whose command has ended DONE with a result value (R179). -/
def State.doneWrite (s : State) (k : SlotId) (tag : BitVec 16) (result : Nat) : BusWrite :=
  s.ownWrite (slotOffset k + 52) (leBytes 4 result ++ statusWordBytes .done .none tag)

/-! ## Control tables -/

/-- The notice a write to entry `e` brings where bytes of another entry are staged: TABLE_ABANDONED of that entry (R169,
Table 11-1). -/
def State.abandonAsks (s : State) (e : EntryWrite) : List NoticeAsk :=
  match s.path.staging with
  | none => []
  | some v =>
    if v.bytes = [] ∨ (v.table = e.table ∧ v.index = e.index) then []
    else [{ kind := .tableAbandoned, subject := v.index, first := 2 ^ 8 * v.table, second := 0 }]

/-- The lanes of a granule that fall in the entry of 16 bytes at place `j` of it, at their places (R165). -/
def entryLanes (j : Nat) (g : Lanes) : Lanes := g.zipIdx.map fun x => if x.2 / 16 = j then x.1 else none

/-- The tables of Table 10-4: first granule of the control-table area, granules, number, entry size. -/
def tableLayout : List (Nat × Nat × Nat × Nat) :=
  [(0, 1, 0, 64), (4, 48, 1, 64), (64, 64, 2, 64), (128, 4, 3, 16), (132, 8, 4, 128), (144, 4, 5, 64), (192, 256, 6, 64),
    (512, 1024, 7, 16), (1536, 2048, 8, 128)]

/-! ## Commands of a slot -/

/-- The row of a command kind (Table 11-3). -/
def commandRow (kind : Byte) (w : SlotWrite) : Instr :=
  match kind.toNat with
  | 1 => .start w
  | 2 => .stationAdd w
  | 3 => .stationRemove w
  | 4 => .flush w
  | 5 => .epochClose w
  | 6 => .portAdminDown w
  | 7 => .portAdminRelease w
  | 8 => .portReset w
  | 9 => .meterRefill w
  | 10 => .timeMark w
  | _ => .unknownCommand kind w

/-- The arguments a command takes: the slot's copy with the bytes 0 to 47 of its own write applied (R172). -/
def State.argsWith (s : State) (w : SlotWrite) : List Byte := merge (s.args w.slot) (w.low.take 48)

/-- The slot is not BUSY, so that a command word starts a command (R178). -/
def State.free (s : State) (k : SlotId) : Prop := (s.slot k).status ≠ .busy

/-- A command of slot `w.slot` has ended in its own action: the slot, its argument copy and the stream have changed;
the writes are the command's own crossing, `own` (newest first), and last the result value and status word (R172, R178,
R179, R166). -/
def State.commandEnded (s : State) (kind : Byte) (w : SlotWrite) (st : SlotStatus) (code : ResultCode) (result : Nat)
    (own : List BusWrite) : State :=
  ({ s with
      path := { s.path with args := s.path.args.setD w.slot (s.argsWith w) zeroArgs }
      slots := s.slots.setD w.slot { status := st, kind := kind, tag := w.tag } CommandSlot.powerOn } :
    State).sending
    (s.ownWrite (slotOffset w.slot + 52) (leBytes 4 result ++ statusWordBytes st code w.tag) ::
      (own ++ [s.crossing (slotOffset w.slot) (slotGranule kind w)]))

/-- A command of slot `w.slot` has started and stays BUSY: its status word is the BUSY one (R179). -/
def State.commandBusy (s : State) (kind : Byte) (w : SlotWrite) (own : List BusWrite) : State :=
  ({ s with
      path := { s.path with args := s.path.args.setD w.slot (s.argsWith w) zeroArgs }
      slots := s.slots.setD w.slot { status := .busy, kind := kind, tag := w.tag } CommandSlot.powerOn } :
    State).sending
    (s.ownWrite (slotOffset w.slot + 56) (statusWordBytes .busy .none w.tag) ::
      (own ++ [s.crossing (slotOffset w.slot) (slotGranule kind w)]))

/-! ## Frames -/

/-- The blocks of the state. -/
inductive Block where
  | path
  | tables
  | cells
  | intake
  | lookup
  | admission
  | queues
  | live
  | failover
  | acct
  | notices
  | slots
  | bus
  | freeDraws
  | pending
  deriving DecidableEq, Repr

/-- Every block outside the list is the same in both states. -/
def State.sameOutside (l : List Block) (s t : State) : Prop :=
  (.path ∈ l ∨ t.path = s.path) ∧ (.tables ∈ l ∨ t.tables = s.tables) ∧ (.cells ∈ l ∨ t.cells = s.cells) ∧
    (.intake ∈ l ∨ t.intake = s.intake) ∧ (.lookup ∈ l ∨ t.lookup = s.lookup) ∧
    (.admission ∈ l ∨ t.admission = s.admission) ∧ (.queues ∈ l ∨ t.queues = s.queues) ∧
    (.live ∈ l ∨ t.live = s.live) ∧ (.failover ∈ l ∨ t.failover = s.failover) ∧ (.acct ∈ l ∨ t.acct = s.acct) ∧
    (.notices ∈ l ∨ t.notices = s.notices) ∧ (.slots ∈ l ∨ t.slots = s.slots) ∧ (.bus ∈ l ∨ t.bus = s.bus) ∧
    (.freeDraws ∈ l ∨ t.freeDraws = s.freeDraws) ∧ (.pending ∈ l ∨ t.pending = s.pending)

/-- The stream of `t` is the stream of `s` with further writes behind it: nothing sent is taken back or reordered. -/
def State.streamGrows (s t : State) : Prop := ∃ ws, t.bus.sent = ws ++ s.bus.sent

/-- Port `p` has been taken out of service into `l`, DOWN or ADMIN_DOWN, between `s` and `t`: the state, the timers, the
work list and the flush queue as the state left decides (R118, R124, R128). -/
def State.outOfService (s t : State) (p : Port) (l : Liveness) : Prop :=
  match s.liveness p with
  | .up =>
    t.livePort p =
        { s.livePort p with state := l, stall := none, drain := some (s.expiry (s.portEntry p).drain),
                            changeCount := (t.livePort p).changeCount } ∧
      t.failover.work =
        (if (p, WorkKind.evacuate) ∈ s.failover.work then s.failover.work
          else s.failover.work ++ [(p, .evacuate)]) ∧
      t.lookup = (s.offerFlush (.byPort p) []).1.lookup
  | .trial | .stalled =>
    t.livePort p = { s.livePort p with state := l, trial := none, changeCount := (t.livePort p).changeCount } ∧
      t.failover.work = s.failover.work ∧ t.lookup = (s.offerFlush (.byPort p) []).1.lookup
  | was =>
    t.livePort p =
        (if was = l then { s.livePort p with changeCount := (t.livePort p).changeCount }
          else { s.livePort p with state := l, trial := none, changeCount := (t.livePort p).changeCount }) ∧
      t.failover.work = s.failover.work ∧ t.lookup = s.lookup

/-- The GROUP_STATE notices of the groups in the list whose state differs between `s` and `t` (R132, Table 11-1). -/
def State.groupAsks (s t : State) (l : List GroupId) : List NoticeAsk :=
  (l.filter fun g => decide (t.groupState g ≠ s.groupState g)).map fun (g : GroupId) =>
    { kind := .groupState, subject := g, first := 2 ^ 8 * (s.groupState g).code + (t.groupState g).code,
      second := 2 ^ 16 * (t.usable g).length + (t.evacuatingMembers g).length }

/-- The groups of the list have been recomputed between `s` and `t`; every other group keeps its state (R132). -/
def State.recomputed (s t : State) (l : List GroupId) : Prop :=
  ∀ g : GroupId, t.groupState g = if g ∈ l then t.computeGroup g else s.groupState g

/-- The notices of a change of liveness state of `p` between `s` and `t`: FLUSH_LOST where a by-port flush is asked for and
the full flush queue refuses it (R51, R53), PORT_STATE (R116), then GROUP_STATE of the groups of `p` (R132). None where
the state stands. The order is that of R124 and log entries 11 and 23. -/
def State.liveAsks (s t : State) (p : Port) (cause : StateCause) : List NoticeAsk :=
  if t.liveness p = s.liveness p then []
  else
    (if (t.liveness p = .down ∨ t.liveness p = .adminDown) ∧
        (s.liveness p = .trial ∨ s.liveness p = .up ∨ s.liveness p = .stalled) ∧
        (s.offerFlush (.byPort p) []).2 = false then
      [{ kind := .flushLost, subject := p, first := 0, second := 0 }] else []) ++
      { kind := .portState, subject := p,
        first := 2 ^ 16 * (s.liveness p).code + 2 ^ 8 * (t.liveness p).code + cause.code,
        second := 2 ^ 16 * t.postedCount p + (t.livePort p).changeCount } ::
      s.groupAsks t (s.groupsOf p)

/-- The groups of `p` are recomputed at a change of its liveness state, and stand where it does not change (R116, R132). -/
def State.groupsFollow (s t : State) (p : Port) : Prop :=
  s.recomputed t (if t.liveness p = s.liveness p then [] else s.groupsOf p)

/-! ## Frames, copies and the hold pool -/

/-- The cells of a frame, in frame order, as the cell link map gives them from its first cell (R9). -/
def State.frameCells (s : State) (first : Nat) : List Nat := linkedCells s.cells.links s.cells.links.length first

/-- The cells that a retirement of a copy of frame `f` frees: the frame's, where the copy is its last (R17). -/
def State.freedBy (s : State) (first : Nat) (f : Frame) : List Nat := if 2 ≤ f.copyCount then [] else s.frameCells first

/-- The frame of the copy of this tag. -/
def State.frameOf (s : State) (tag : Nat) : Option Frame := (s.copy tag).bind fun k => s.frame k.frame

/-- The cells that a retirement of the copy of this tag frees (R17). -/
def State.freedByTag (s : State) (tag : Nat) : List Nat :=
  match s.copy tag, s.frameOf tag with
  | some k, some f => s.freedBy k.frame f
  | _, _ => []

/-- The cells of the frame of this copy, where it is one of tenant `m`. -/
def State.tenantCells (s : State) (m : Tenant) (tag : Nat) : Nat :=
  match s.frameOf tag with
  | some f => if f.tenant = m then f.cellCount else 0
  | none => 0

/-- The cells that a retirement of the copy of this tag takes off tenant `m`'s held cell count (R17). -/
def State.lastCells (s : State) (m : Tenant) (tag : Nat) : Nat :=
  match s.frameOf tag with
  | some f => if 2 ≤ f.copyCount then 0 else s.tenantCells m tag
  | none => 0

/-- The state once cells have joined the tail of the free list in their order, the new free count has been reported and a
refill run has followed (R8, R17); the state as it is where no cell is freed. -/
def State.settled (s : State) (cells : List Nat) : State :=
  if cells = [] then s
  else ({ s with cells := { s.cells with freeList := Runs.pushAll s.cells.freeList cells } } : State).report.refill

/-- The free list, the issued lists and the shed level of `t` are those of `base`. -/
def State.suppliesOf (t base : State) : Prop :=
  t.cells.freeList = base.cells.freeList ∧ t.cells.ports = base.cells.ports ∧ t.admission.shed = base.admission.shed

/-- The writes of the link words of a frame of these cells, the newest first (R9): each carries the next cell's number, the
last FFFFh. -/
def State.linkWrites (s : State) (cells : List Nat) : List BusWrite :=
  ((cells.zip (cells.drop 1 ++ [0xFFFF])).map fun x => s.ownWrite (Config.linkArea + 2 * x.1) (leBytes 2 x.2)).reverse

/-- The link words of these cells stand in memory (R9). -/
def State.linkWordsStand (t : State) (cells : List Nat) : Prop :=
  cells.Nodup → (∀ c ∈ cells, c < 65536) →
    ∀ x ∈ cells.zip (cells.drop 1 ++ [0xFFFF]),
      t.readBytes (Config.linkArea + 2 * x.1) 2 = (leBytes 2 x.2).map some

/-- A frame under formation `f`, brought by descriptor `d` in slot `n` of the ingress ring of `p`, has passed validation,
the segment check and every frame-level check (R25 to R28, R75, R76, R83, R85, R86); no frame has its first cell. Its colour
is that of the refilled meter (R74, R75). -/
def State.admits (s : State) (p : Port) (n : RingSlot) (g : Lanes) (d : Descriptor) (f : Forming) : Prop :=
  s.takes p n g = true ∧ Descriptor.read (merge (s.intakePort p).staging g) = d ∧ d.cellCount ≤ s.issuedCount p ∧
    d.sizeValid = true ∧ d.fcsBad = false ∧ d.truncated = false ∧ s.segmentOf p d ≠ 0 ∧
    (s.segmentEntry (s.segmentOf p d)).enabled = true ∧
    f = { s.form p d (s.claimed p d.cellCount) with
          colour :=
            if frameCost d.length ≤
                (refilledMeter (s.tenantEntry (s.segmentTenant (s.segmentOf p d)))
                  (s.meter (s.segmentTenant (s.segmentOf p d))) s.now).tokens then .committed
            else .excess } ∧
    ¬(f.colour = .excess ∧ 2 ≤ (s.tenantEntry f.tenant).excessMode) ∧
    shedRefuses s.admission.shed f.colour f.cls = false ∧
    s.heldCells f.tenant + d.cellCount ≤ (s.tenantEntry f.tenant).quota ∧ s.frame f.first = none

/-- The end of the taking of frame `f`, whose first write was `own`: the cells and the shed level are those of `base`, and
its link words stand in memory ahead of what `base` has gathered (R9, R33, R166). -/
def State.closes (s t base : State) (f : Forming) (own : BusWrite) : Prop :=
  t.suppliesOf base ∧
    (s.quiet → s.delivers t base (s.linkWrites f.cells ++ [own]) [] ∧ t.linkWordsStand f.cells)

/-- Frame `f`, learned from in state `s0`, has been entered with this many copies and this target-port set: its record, its
cells in the cell link map, the tokens of a COMMITTED frame debited, the cells counted held, and what is counted as in
`counted` (R9, R10, R14, R77, R84, R93); other frames and tenants stand, the station table is the one learning left, and
the taking ends with the notices `asks` and one refill run (R33). -/
def State.entered (s s0 t : State) (f : Forming) (copies : Nat) (ports : List Port) (asks : List NoticeAsk)
    (own : BusWrite) (counted : State) : Prop :=
  t.frame f.first =
      some { tenant := f.tenant, length := f.length, cellCount := f.cellCount, colour := f.colour,
             flowHash := f.flowHash, copyCount := copies, ports := ports } ∧
    (f.cells.Nodup → ∀ x ∈ f.cells.zip ((f.cells.drop 1).map some ++ [none]), t.cells.links.find x.1 = some x.2) ∧
    t.meter f.tenant =
      { tokens := (refilledMeter (s.tenantEntry f.tenant) (s.meter f.tenant) s.now).tokens -
          if f.colour = .committed then frameCost f.length else 0
        last := s.now } ∧
    t.heldCells f.tenant = s.heldCells f.tenant + f.cellCount ∧ t.acct = counted.acct ∧
    (∀ j, j ≠ f.first → t.frame j = s.frame j) ∧
    (∀ m : Tenant, m ≠ f.tenant → t.meter m = s.meter m ∧ t.heldCells m = s.heldCells m) ∧ t.lookup = s0.lookup ∧
    s.closes t ((s0.claim f.port f.cellCount).noticed asks).refill f own

/-- The claimed cells of a descriptor have come to no frame between `s` and `t`: no frame and no copy record, and, the first
of them being no frame's first cell, the cells not in the link map, the free list, the issued lists and the shed level those
of `base`, and sent the action's writes `own`, then what `base` has gathered (R8, R9, R166). -/
def State.returned (s t base : State) (cells : List Nat) (own : List BusWrite) : Prop :=
  t.cells.frames = s.cells.frames ∧ t.cells.copies = s.cells.copies ∧ t.cells.freeCopies = s.cells.freeCopies ∧
    ((∀ c, cells.head? = some c → s.frame c = none) →
      (∀ c, t.cells.links.find c = if c ∈ cells then none else s.cells.links.find c) ∧ t.suppliesOf base ∧
        (s.quiet → s.delivers t base own []))

/-- Frame `f`, learned from in state `s0`, has passed the frame-level checks and has come to no copy: no frame, no copy
record taken, the meter refilled and nothing debited or held, its cells freed in frame order at the close (R8, R33, R74),
and what is counted as in `counted`. -/
def State.noFrame (s s0 t : State) (f : Forming) (asks : List NoticeAsk) (own : BusWrite) (counted : State) : Prop :=
  s.returned t (((s0.claim f.port f.cellCount).noticed asks).settled f.cells) f.cells
      (s.linkWrites f.cells ++ [own]) ∧
    t.meter f.tenant = refilledMeter (s.tenantEntry f.tenant) (s.meter f.tenant) s.now ∧
    (∀ m : Tenant, m ≠ f.tenant → t.meter m = s.meter m) ∧ t.admission.held = s.admission.held ∧
    t.acct = counted.acct ∧ t.lookup = s0.lookup ∧
    s.closes t (((s0.claim f.port f.cellCount).noticed asks).settled f.cells) f own ∧
    s.sameOutside [.cells, .intake, .lookup, .admission, .acct, .notices, .bus] t

/-- A new copy of `f` fits into its class queue on `q`: a COMMITTED one by the minimum and the dynamic threshold, an EXCESS
one by the EXCESS threshold (R88, R89, R90). -/
def State.fits (s : State) (f : Forming) (q : Port) : Bool :=
  decide
    (s.cellDepth q f.cls + f.cellCount ≤
      match f.colour with
      | .committed => max (s.profileOf q f.cls).minimum (threshold (s.profileOf q f.cls).alpha s.freeCount)
      | .excess => excessThreshold (s.profileOf q f.cls).alpha s.freeCount)

/-- The mark of an EXCESS frame of a tenant in MARK_EXCESS (R91, R92). -/
def State.markedExcess (s : State) (f : Forming) : Bool :=
  decide (f.colour = .excess ∧ (s.tenantEntry f.tenant).excessMode = 1)

/-- The record of a new copy of `f` that joins its class queue on `q` (R13, R91). -/
def State.queuedCopy (s : State) (f : Forming) (q : Port) (via : Option GroupId) : Copy :=
  { state := .queued, frame := f.first, port := some q, cls := f.cls, via := via,
    mark := decide ((s.profileOf q f.cls).markThreshold < s.cellDepth q f.cls + f.cellCount) || s.markedExcess f,
    enqueued := s.now }

/-- The record of a new copy of `f` HELD under group `g` (R13, R67, R92). -/
def State.heldCopy (s : State) (f : Forming) (g : GroupId) : Copy :=
  { state := .held, frame := f.first, port := none, cls := f.cls, via := some g, mark := s.markedExcess f,
    enqueued := s.now }

/-- Why port `q`, the target of a frame or the member chosen for it, receives no copy, as what is then counted: nothing at
the frame's ingress port without the hairpin flag (R68, R69), QUEUE_FULL (R66, R89, R90), NO_COPY (R14). -/
def State.portRefusal (s s0 : State) (f : Forming) (q : Port) : Option State :=
  if q = f.port ∧ (s.portEntry q).hairpin = false then some s0
  else if s.fits f q then (if Runs.toList s.cells.freeCopies = [] then some (s0.countDrop .noCopy f.tenant) else none)
  else some (s0.countDrop .queueFull f.tenant)

/-- Why a frame with a single target comes to no copy (R67, R68, R69): as `portRefusal`; NO_PATH for a group without a
choice; HOLD_FULL and NO_COPY for one that is EVACUATING. -/
def State.targetRefusal (s s0 : State) (f : Forming) : Target → Option State
  | .port q => s.portRefusal s0 f q
  | .group g =>
    if s.groupState g = .evacuating then
      if 4096 ≤ s.holdCount then some (s0.countDrop .holdFull f.tenant)
      else if Runs.toList s.cells.freeCopies = [] then some (s0.countDrop .noCopy f.tenant)
      else none
    else
      match s.memberChoice g f.flowHash with
      | none => some (s0.countDrop .noPath f.tenant)
      | some q => s.portRefusal s0 f q
  | .list _ => none

/-- What an entry met in a walk over a list comes to: a candidate port, with the group that chose it; a group that is
EVACUATING; or, four lists deep, a sublist that is skipped (R63 to R65). -/
inductive ListStep where
  | port (q : Port) (via : Option GroupId)
  | held (g : GroupId)
  | deep (inList : ListId) (place : Nat) (sub : ListId)
  deriving DecidableEq, Repr

/-- The entries of list `l` in order, a sublist entry replaced by `sub` of its place (R62, R65). -/
def State.entrySteps (s : State) (f : Forming) (sub : ListId → Nat → ListId → List ListStep) (l : ListId) :
    List ListStep :=
  (((s.repList l).items.take (s.repList l).count).zipIdx).flatMap fun x =>
    match x.1.kind.toNat with
    | 1 => ((portOf x.1.number).map fun q => ListStep.port q none).toList
    | 2 =>
      match groupOf x.1.number with
      | none => []
      | some g =>
        if s.groupState g = .evacuating then [.held g]
        else ((s.memberChoice g f.flowHash).map fun q => ListStep.port q (some g)).toList
    | 3 => ((listOf x.1.number).map fun m => sub l x.2 m).getD []
    | _ => []

/-- The steps of a walk over list `l` and the lists below it, at most so many lists down (R62, R63). -/
def State.listSteps (s : State) (f : Forming) : Nat → ListId → List ListStep
  | 0, l => s.entrySteps f (fun inList i m => [.deep inList i m]) l
  | d + 1, l => s.entrySteps f (fun _ _ m => s.listSteps f d m) l

/-- Two steps that a walk serves but once: the same port, the same group (R64, R65). -/
def ListStep.same : ListStep → ListStep → Bool
  | .port q _, .port r _ => decide (q = r)
  | .held g, .held h => decide (g = h)
  | _, _ => false

/-- The steps without what an earlier one has served. -/
def firstOfEach (l : List ListStep) : List ListStep :=
  l.foldl (fun acc x => if acc.any x.same then acc else acc ++ [x]) []

/-- What a walk over list `l` serves, in its order: each candidate once, the ingress port only with its hairpin flag set, no
port that is not UP, each EVACUATING group once (R64, R65). -/
def State.servedBy (s : State) (f : Forming) (l : ListId) : List ListStep :=
  firstOfEach
    ((s.listSteps f 4 l).filter fun x =>
      match x with
      | .port q _ => (decide (q ≠ f.port) || (s.portEntry f.port).hairpin) && decide (s.liveness q = .up)
      | .held _ => true
      | .deep _ _ _ => false)

/-- The REPLICATION_DEPTH notice of a walk over list `l`: of the first sublist skipped alone (R63, Table 11-1). -/
def State.depthAsks (s : State) (f : Forming) (l : ListId) : List NoticeAsk :=
  ((s.listSteps f 4 l).filterMap fun x =>
    match x with
    | .deep inList i m =>
      some { kind := .replicationDepth, subject := f.segment, first := 2 ^ 16 * inList + i, second := m }
    | _ => none).take 1

/-- What becomes of each step a walk serves, in its order, with so many copy records to be had and so much room in the hold
pool: a copy, or the cause it is dropped under (R14, R66, R67). -/
def State.verdicts (s : State) (f : Forming) : Nat → Nat → List ListStep → List (ListStep × Option DropCause)
  | _, _, [] => []
  | copies, room, .port q via :: rest =>
    if s.fits f q = false then (.port q via, some .queueFull) :: s.verdicts f copies room rest
    else if copies = 0 then (.port q via, some .noCopy) :: s.verdicts f copies room rest
    else (.port q via, none) :: s.verdicts f (copies - 1) room rest
  | copies, room, .held g :: rest =>
    if room = 0 then (.held g, some .holdFull) :: s.verdicts f copies room rest
    else if copies = 0 then (.held g, some .noCopy) :: s.verdicts f copies room rest
    else (.held g, none) :: s.verdicts f (copies - 1) (room - 1) rest
  | copies, room, .deep _ _ _ :: rest => s.verdicts f copies room rest

/-- The verdicts of a walk over list `l`: a frame has at most 48 copies and the pool holds at most 4,096 (R14, R142). -/
def State.listVerdicts (s : State) (f : Forming) (l : ListId) : List (ListStep × Option DropCause) :=
  s.verdicts f (min 48 (Runs.size s.cells.freeCopies)) (4096 - s.holdCount) (s.servedBy f l)

/-- The drops among the verdicts are counted against one tenant. -/
def State.countVerdicts (s : State) (m : Tenant) (l : List (ListStep × Option DropCause)) : State :=
  (l.filterMap (·.2)).foldl (fun a c => a.countDrop c m) s

/-- The phase `j` places on from the phase pointer of `p`: behind the wrap it is read from a pending schedule, adopted there
(R98, R102). -/
def State.phaseAhead (s : State) (p : Port) (j : Nat) : Phase :=
  if (s.egressPort p).phase + j < 64 then (s.egressPort p).schedule.getD ((s.egressPort p).phase + j) .skip
  else
    (if (s.egressPort p).pendingSched then s.scheduleProfile (s.portEntry p).schedProfile
      else (s.egressPort p).schedule).getD ((s.egressPort p).phase + j - 64) .skip

/-- The egress state of `p` with its phase pointer `n` places on, at most once past phase 63 (R98, R102). -/
def State.advanced (s : State) (p : Port) (n : Nat) : EgressPort :=
  if (s.egressPort p).phase + n < 64 then { s.egressPort p with phase := (s.egressPort p).phase + n }
  else
    { s.egressPort p with
      phase := (s.egressPort p).phase + n - 64
      schedule :=
        if (s.egressPort p).pendingSched then s.scheduleProfile (s.portEntry p).schedProfile
        else (s.egressPort p).schedule
      pendingSched := false }

/-- The classes that the next `n` phases from the phase pointer of `p` name (R102). -/
def State.classesAhead (s : State) (p : Port) (n : Nat) : List Cls :=
  (List.range n).filterMap fun j => (s.phaseAhead p j).cls?

/-- The stale copies at the head of a class queue: what an attempt that examines the class discards (R102, R103). -/
def State.staleHeads (s : State) (p : Port) (c : Cls) : List Nat := (s.queue p c).takeWhile (s.isStale p c)

/-- The class queue behind them; its head is the candidate that is posted. -/
def State.freshQueue (s : State) (p : Port) (c : Cls) : List Nat := (s.queue p c).dropWhile (s.isStale p c)

/-- What an attempt that examines these classes, each first at its place in the list, discards, in its order. -/
def State.discards (s : State) (p : Port) (order : List Cls) : List (Cls × Nat) :=
  order.flatMap fun c => (s.staleHeads p c).map fun j => (c, j)

/-- Each of these copies is on `p` and has its frame, no two have one frame, and no cell is in two of the frames. -/
def State.discardable (s : State) (p : Port) (tags : List Nat) : Prop :=
  (∀ j ∈ tags, ∃ k, s.copy j = some k ∧ k.port = some p ∧ (s.frame k.frame).isSome = true) ∧
    tags.Pairwise (fun i j => (s.copy i).map (fun k => k.frame) ≠ (s.copy j).map (fun k => k.frame)) ∧
    (tags.flatMap s.freedByTag).Nodup

/-- These copies have been discarded between `s` and `t` (R16, R17, R103): each record joins the tail of the free copy list,
each frame loses the copy and its port, or goes with its last copy, and each is counted under STALE against its frame's
tenant. The freed cells are returned as in `base`. -/
def State.discarded (s t base : State) (tags : List Nat) : Prop :=
  (∀ j ∈ tags, t.copy j = none ∧ ∀ k, s.copy j = some k → ∀ f, s.frame k.frame = some f →
      t.frame k.frame =
        if 2 ≤ f.copyCount then
          some { f with copyCount := f.copyCount - 1, ports := f.ports.filter fun q => some q ≠ k.port }
        else none) ∧
    (∀ j, (∀ i ∈ tags, (s.copy i).map (fun k => k.frame) ≠ some j) → t.frame j = s.frame j) ∧
    (∀ c, t.cells.links.find c = if c ∈ tags.flatMap s.freedByTag then none else s.cells.links.find c) ∧
    (∀ m : Tenant, t.heldCells m = s.heldCells m - (tags.map (s.lastCells m)).sum) ∧
    t.admission.meters = s.admission.meters ∧
    Runs.toList t.cells.freeCopies = Runs.toList s.cells.freeCopies ++ tags ∧
    t.acct =
      (tags.foldl (fun a j =>
        match s.frameOf j with
        | some f => a.countDrop .stale f.tenant
        | none => a) s).acct ∧
    t.suppliesOf base

/-- The egress state of `p` behind a scan of 64 phases that has posted nothing and examined these classes (R98, R102). The
pointer is where the scan began; but where the discards have emptied the queues, a schedule still pending is adopted there
and the pointer stands as far on from phase 0 as phases were left (log entry 14). -/
def State.scannedThrough (s : State) (p : Port) (order : List Cls) : EgressPort :=
  if (s.egressPort p).pendingSched = true ∧ ∀ c : Cls, s.queue p c ≠ [] → c ∈ order then
    match (List.range 64).find? fun i =>
        decide ((s.egressPort p).phase + i < 64 ∧
          ∀ c : Cls, s.queue p c ≠ [] → c ∈ 0 :: s.classesAhead p (i + 1)) with
    | some i =>
      { s.egressPort p with
        schedule := s.scheduleProfile (s.portEntry p).schedProfile, pendingSched := false, phase := (64 - i) % 64 }
    | none => s.advanced p 64
  else s.advanced p 64

/-- Copy `tag`, of frame `f`, has been retired between `s` and `t`, and the count is as `counted` leaves it (R16). With the
frame's last copy the frame goes: its cells leave the link map and its tenant's held cell count falls (R17). What becomes of
the cells is said where this is used. -/
def State.lostCopy (s t : State) (tag : Nat) (k : Copy) (f : Frame) (counted : State) : Prop :=
  t.copy tag = none ∧
    t.frame k.frame =
      (if 2 ≤ f.copyCount then
        some { f with copyCount := f.copyCount - 1, ports := f.ports.filter fun q => some q ≠ k.port }
      else none) ∧
    (∀ c, t.cells.links.find c = if c ∈ s.freedBy k.frame f then none else s.cells.links.find c) ∧
    (∀ m : Tenant, t.heldCells m = s.heldCells m - if m = f.tenant ∧ f.copyCount < 2 then f.cellCount else 0) ∧
    Runs.toList t.cells.freeCopies = Runs.toList s.cells.freeCopies ++ [tag] ∧ t.acct = counted.acct

/-- A completion of `p` with a matching tag, brought by the write `g`, has freed the cells `freed` and has been reported to
the liveness monitor between `s` and `t` (R17, R110, R120, R123): the stall timer of a port that is UP restarts, or stops at
a posted count of 0; a port that is STALLED goes to TRIAL with its notices and recomputes (R116, R132); any other port
stands. -/
def State.completed (s t : State) (p : Port) (n : RingSlot) (g : Lanes) (freed : List Nat) : Prop :=
  t.livePort p =
      (match s.liveness p with
        | .up =>
          { s.livePort p with
            stall :=
              if ((s.egressPort p).slots.erase n).length = 0 then none
              else some (s.expiry (s.portEntry p).stall) }
        | .stalled => { s.livePort p with state := .trial, trial := some (s.expiry (s.portEntry p).trial) }
        | _ => s.livePort p) ∧
    (∀ q : Port, q ≠ p → t.livePort q = s.livePort q) ∧ s.groupsFollow t p ∧
    t.failover = { s.failover with groupStates := t.failover.groupStates, hold := t.failover.hold } ∧
    t.suppliesOf (s.settled freed) ∧ t.admission.meters = s.admission.meters ∧
    s.delivers t ((s.settled freed).noticed (s.liveAsks t p .completion)) [s.crossing (egressOffset p n) g] [] ∧
    s.sameOutside [.cells, .admission, .queues, .live, .failover, .acct, .notices, .bus] t

/-! ## Walks and resets -/

/-- The row that takes the next step of a walk of this kind (R136, R140). -/
def walkRow : WorkKind → Instr
  | .evacuate => .evacuationWalkStep
  | .drain => .drainWalkStep

/-- What a walk of `p` does with a copy it visits (R136, R137, R140): a direct copy is left in place by an evacuation and
retired under PORT_DOWN by a drain; a via-group copy is re-chosen, and retired under NO_PATH, left in place on `p` itself,
retired under MERGED on a port of its frame's set, or moved. -/
def State.treats (s : State) (kind : WorkKind) (p : Port) (k : Copy) (f : Frame) : Visit :=
  match k.via with
  | none => (match kind with | .evacuate => .stays | .drain => .retires .portDown)
  | some g =>
    match s.memberChoice g f.flowHash with
    | none => .retires .noPath
    | some q => if q = p then .stays else if q ∈ f.ports then .retires .merged else .moves q

/-- What a walk of `p` does with the copy of this tag; a tag without a record is passed over. -/
def State.treatsTag (s : State) (kind : WorkKind) (p : Port) (tag : Nat) : Visit :=
  match s.copy tag with
  | none => .stays
  | some k =>
    match s.frame k.frame with
    | none => .stays
    | some f => s.treats kind p k f

/-- The retirement of the copy of this tag is counted (R16). -/
def State.countTag (s a : State) (cause : RetireCause) (tag : Nat) : State :=
  match s.copy tag with
  | none => a
  | some k =>
    match s.frame k.frame with
    | none => a
    | some f => a.countRetired cause f k

/-- The egress state of a port whose queues a departure has emptied, or not: emptied, it adopts a pending schedule, with its
phase pointer at 0 (R98). -/
def State.adoptedIf (s : State) (p : Port) (emptied : Prop) [Decidable emptied] : EgressPort :=
  if (s.egressPort p).pendingSched = true ∧ emptied then
    { s.egressPort p with schedule := s.scheduleProfile (s.portEntry p).schedProfile, pendingSched := false, phase := 0 }
  else s.egressPort p

/-- What PORT_RESET makes of a posted copy (R109, R111, R143, R144). -/
inductive ResetFate where
  | returns
  | held (g : GroupId)
  | joins (q : Port)
  | retired (cause : RetireCause)
  deriving DecidableEq, Repr

/-- What PORT_RESET of `p` makes of a copy `k` of frame `f` posted there; `room` says that the hold pool has room for it. A
direct copy returns, or on a drained port is retired; a via-group copy is a late abort, judged by the work list and walk,
and chosen for by the members, as they stand before the reset takes the port down (R109, R143, R144). -/
def State.resetFate (s : State) (p : Port) (room : Bool) (k : Copy) (f : Frame) : ResetFate :=
  match k.via with
  | none => if s.isDrained p then .retired .portDown else .returns
  | some g =>
    if s.failover.work ≠ [] ∨ s.failover.walk.isSome = true then (if room then .held g else .retired .holdFull)
    else
      match s.memberChoice g f.flowHash with
      | none => .retired .noPath
      | some q => if q ∈ f.ports.filter (· ≠ p) then .retired .merged else .joins q

/-- The same for the posted copy of this tag; `via` are the tags of the posted via-group copies, oldest post first, and as
many of them find room as the pool has left (R142, R144). -/
def State.resetFateOf (s : State) (p : Port) (via : List Nat) (tag : Nat) : Option ResetFate :=
  (s.copy tag).bind fun k =>
    (s.frame k.frame).map fun f => s.resetFate p (decide (tag ∈ via.take (4096 - s.holdCount))) k f

/-- The cells that PORT_RESET frees with this posted copy. -/
def State.resetFreed (s : State) (p : Port) (via : List Nat) (tag : Nat) : List Nat :=
  match s.resetFateOf p via tag with
  | some (.retired _) => s.freedByTag tag
  | _ => []

/-- What PORT_RESET counts for this posted copy. -/
def State.resetCount (s : State) (p : Port) (via : List Nat) (a : State) (tag : Nat) : State :=
  match s.resetFateOf p via tag with
  | some (.retired cause) => s.countTag a cause tag
  | _ => a

/-! ## The hold pool -/

/-- The tags of the hold pool in the order of a release: groups in ascending number, each oldest first (R142, R145). -/
def State.heldTags (s : State) : List Nat := allGroups.flatMap s.heldCopies

/-- The held copies of the frame with this first cell, in the order of a release. -/
def State.heldOf (s : State) (first : Nat) : List Nat :=
  s.heldTags.filter fun j => decide ((s.copy j).map (fun k => k.frame) = some first)

/-- The hold pool holds no tag twice; the record of each is HELD under its group, without a port (R142), and names a frame
with no fewer copies than it has in the pool (R10); no cell is in two of these frames (R1). -/
def State.holdSound (s : State) : Prop :=
  s.heldTags.Nodup ∧
    (∀ g : GroupId, ∀ tag ∈ s.heldCopies g, ∃ k, s.copy tag = some k ∧ k.state = .held ∧ k.port = none ∧ k.via = some g ∧
      ∃ f, s.frame k.frame = some f ∧ (s.heldOf k.frame).length ≤ f.copyCount) ∧
    ((s.heldTags.filterMap fun j => (s.copy j).map (fun k => k.frame)).eraseDups.flatMap s.frameCells).Nodup

/-- The port that member choice in `t` gives the held copy of this tag (R131, R145). -/
def State.heldChoice (s t : State) (tag : Nat) : Option Port :=
  match s.copy tag, s.frameOf tag with
  | some k, some f => k.via.bind fun g => t.memberChoice g f.flowHash
  | _, _ => none

/-- What a release makes of the held copy of this tag, the choice being that of `t` (R145): retired under NO_PATH without a
choice; under MERGED where the chosen port is in its frame's set, or was put there by an earlier copy of the release; or
moved to the chosen port. -/
def State.releaseFate (s t : State) (tag : Nat) : Visit :=
  match s.copy tag, s.frameOf tag with
  | some k, some f =>
    match s.heldChoice t tag with
    | none => .retires .noPath
    | some q =>
      if q ∈ f.ports ∨ q ∈ ((s.heldOf k.frame).takeWhile (· ≠ tag)).filterMap (s.heldChoice t) then .retires .merged
      else .moves q
  | _, _ => .stays

/-- The port whose class queue the held copy of this tag joins at a release, if it joins one. -/
def State.releasePort (s t : State) (tag : Nat) : Option Port :=
  match s.releaseFate t tag with
  | .moves q => some q
  | _ => none

/-- The copies of the frame with this first cell that a release retires. -/
def State.releaseLost (s t : State) (first : Nat) : List Nat :=
  (s.heldOf first).filter fun j => (s.releasePort t j).isNone

/-- The copy of this tag is its frame's last in the pool, and the release retires every copy the frame has. -/
def State.releaseEnds (s t : State) (tag : Nat) : Bool :=
  match s.copy tag, s.frameOf tag with
  | some k, some f =>
    decide ((s.heldOf k.frame).getLast? = some tag ∧ f.copyCount ≤ (s.releaseLost t k.frame).length)
  | _, _ => false

/-- The cells that a release frees, in its order (R17). -/
def State.releaseFreed (s t : State) : List Nat :=
  s.heldTags.flatMap fun j =>
    if s.releaseEnds t j then
      match s.copy j with
      | some k => s.frameCells k.frame
      | none => []
    else []

/-- What a release counts for the copy of this tag (R16). -/
def State.releaseCount (s t a : State) (tag : Nat) : State :=
  match s.releaseFate t tag with
  | .retires cause => s.countTag a cause tag
  | _ => a

/-- The calm point lies between `s` and `t` (R145): every group is recomputed and the hold pool is empty. Of a sound pool
each copy either joins the tail of its class queue on the member chosen, in the order of the release, its fields kept, and
the port joins its frame's set; or is retired and counted, its record at the tail of the free copy list, its frame gone with
the last copy and its cells out of the link map (R16, R17). -/
def State.released (s t : State) : Prop :=
  (∀ g : GroupId, t.heldCopies g = [] ∧ t.groupState g = t.computeGroup g) ∧
    (s.holdSound →
      (∀ (q : Port) (c : Cls), t.queue q c =
        s.queue q c ++ s.heldTags.filter fun j =>
          decide (s.releasePort t j = some q ∧ (s.copy j).map (fun k => k.cls) = some c)) ∧
        (∀ j, t.copy j =
          if j ∈ s.heldTags then
            (s.releasePort t j).bind fun q => (s.copy j).map fun k => { k with state := .queued, port := some q }
          else s.copy j) ∧
        (∀ first, t.frame first =
          (s.frame first).bind fun f =>
            if s.heldOf first = [] then some f
            else if f.copyCount ≤ (s.releaseLost t first).length then none
            else
              some { f with
                     copyCount := f.copyCount - (s.releaseLost t first).length
                     ports := ((s.heldOf first).filterMap (s.releasePort t)).foldl (fun l q => addPort q l) f.ports }) ∧
        (∀ c, t.cells.links.find c = if c ∈ s.releaseFreed t then none else s.cells.links.find c) ∧
        (∀ m : Tenant, t.heldCells m =
          s.heldCells m - (s.heldTags.map fun j => if s.releaseEnds t j then s.tenantCells m j else 0).sum) ∧
        t.admission.meters = s.admission.meters ∧
        Runs.toList t.cells.freeCopies =
          Runs.toList s.cells.freeCopies ++ s.heldTags.filter (fun j => (s.releasePort t j).isNone) ∧
        t.acct = (s.heldTags.foldl (s.releaseCount t) s).acct)

/-- The writes and notices of an action that ends in a release, between `s` and `t`: the notices `asks` of what comes
before, then the cells freed by the release returned, with one report and one refill run (R4, R17, R145, R166). -/
def State.releaseSends (s t : State) (asks : List NoticeAsk) : Prop :=
  ∃ freed, t.suppliesOf ((s.noticed asks).settled freed) ∧ s.delivers t ((s.noticed asks).settled freed) [] [] ∧
    (s.holdSound → freed = s.releaseFreed t)

/-! ## Invariants -/

/-- The notices between the consumer copy and the producer fit the ring (R175, R176). -/
def State.ringRoom (s : State) : Prop := (s.notices.producer - s.notices.consumer).toNat ≤ Config.noticeRoom

/-- The dividers of the unit marks are in their ranges (R113). -/
def State.clockOk (s : State) : Prop := s.live.div100us < 100 ∧ s.live.div10ms < 10000

/-- The positions that walk round the rings and the schedule are in their ranges, and a staging copy has 64 bytes (R4,
R20, R97, R99). -/
def State.positionsOk (s : State) : Prop :=
  ∀ p : Port,
    (s.intakePort p).slot < 256 ∧ (s.intakePort p).staging.length = 64 ∧ (s.cellPort p).pos < 512 ∧
      (s.egressPort p).nextWrite < 256 ∧ (s.egressPort p).phase < 64

/-- The installed entries are such as validation lets through, with its masks and clamps (R171, Table 10-2, R96). -/
def State.installedOk (s : State) : Prop :=
  (s.tables.globalEntry.rotation < 32 ∧ s.tables.globalEntry.tightFloor < 2 ^ 16 ∧
      s.tables.globalEntry.criticalFloor < 2 ^ 16 ∧ s.tables.globalEntry.hysteresis < 2 ^ 16 ∧
      s.tables.globalEntry.agingPeriod < 2 ^ 16 ∧ s.classOfPriority 7 = 0) ∧
    (∀ p : Port,
      1 ≤ (s.portEntry p).window ∧ (s.portEntry p).window ≤ 64 ∧ 8 ≤ (s.portEntry p).issueTarget ∧
        (s.portEntry p).issueTarget ≤ 511 ∧ (s.portEntry p).queueProfile < 4 ∧ (s.portEntry p).schedProfile < 4 ∧
        (∀ f ∈ [(s.portEntry p).trial, (s.portEntry p).stall, (s.portEntry p).drain], f.count < 256 ∧ f.unit < 4) ∧
        (s.portEntry p).defaultSegment < 4096) ∧
    (∀ g : GroupId,
      1 ≤ (s.groupEntry g).count ∧ (s.groupEntry g).count ≤ 8 ∧ (s.groupEntry g).ports.Nodup ∧
        (s.groupEntry g).ports.length = (s.groupEntry g).count) ∧
    (∀ i < 16,
      (s.tables.queueProfiles.getD i QueueProfile.powerOn).minimum < 2 ^ 16 ∧
        (s.tables.queueProfiles.getD i QueueProfile.powerOn).markThreshold < 2 ^ 16 ∧
        (s.tables.queueProfiles.getD i QueueProfile.powerOn).alpha < 8 ∧
        (s.tables.queueProfiles.getD i QueueProfile.powerOn).ageLimit < 2 ^ 24) ∧
    (∀ k < 4, (s.scheduleProfile k).length = 64 ∧ (s.tariffSet k).length = 8 ∧ ∀ x ∈ s.tariffSet k, x < 2 ^ 16) ∧
    (∀ n : Tenant,
      (s.tenantEntry n).rate < 2 ^ 20 ∧ (s.tenantEntry n).depth < 2 ^ 27 ∧ (s.tenantEntry n).quota < 2 ^ 17 ∧
        (s.tenantEntry n).stationLimit ≤ 16384 ∧ (s.tenantEntry n).excessMode < 4 ∧ (s.tenantEntry n).tariffSet < 4) ∧
    ∀ l : ListId, (s.repList l).count ≤ 16 ∧ ∀ e ∈ (s.repList l).items.take (s.repList l).count, e.bad = false

/-- Each tenant's tokens lie within its installed depth (R73). -/
def State.tokensOk (s : State) : Prop := ∀ n : Tenant, (s.meter n).tokens ≤ (s.tenantEntry n).depth

/-- The flush queue holds at most 8 requests, no two of them equal, and the work list no pair twice (R51, R133). -/
def State.listsOk (s : State) : Prop :=
  s.lookup.flushQueue.length ≤ Config.flushRoom ∧ (s.lookup.flushQueue.map (·.req)).Nodup ∧ s.failover.work.Nodup

/-- The hold pool holds at most 4,096 copies (R142); its table is in rising order. -/
def State.holdOk (s : State) : Prop := Table.sorted s.failover.hold = true ∧ s.holdCount ≤ Config.holdRoom

/-- A tenant record's counters stand at or below their largest values (R148, R150, R156). -/
def TenantRecord.inWidth (r : TenantRecord) : Prop :=
  r.admittedCommitted ≤ max32 ∧ r.admittedExcess ≤ max32 ∧ r.deliveredFrames ≤ max32 ∧ r.deliveredBytes ≤ max48 ∧
    r.charge ≤ max48 ∧ r.markedDelivered ≤ max32 ∧ (∀ i, r.drops.getD i 0 ≤ max32) ∧ r.merged ≤ max32 ∧
    r.learnRefusals ≤ max32

/-- Every record of both banks is within its widths. -/
def State.countersOk (s : State) : Prop := ∀ (b : Fin 2) (n : Nat), (s.tenantRecord b n).inWidth

/-- The learned count of each tenant is the number of its LEARNED entries (R38); no way is listed twice. -/
def State.learnedLaw (s : State) : Prop :=
  Table.sorted s.lookup.stations = true ∧
    ∀ n : Tenant,
      s.learned n = (s.lookup.stations.filter fun x => !x.2.isStatic && decide (x.2.tenant = n)).length

/-- The cells that frames hold. -/
def State.cellsHeld (s : State) : List Nat := s.cells.frames.flatMap fun e => s.frameCells e.1

/-- The cells of the issued lists of all ports. -/
def State.cellsIssued (s : State) : List Nat := allPorts.flatMap fun p => Runs.toList (s.cellPort p).issued

/-- The cell law (R1): each of the 65,536 cells is free, issued or held, in exactly one place. Each frame holds as many
cells as its record says, the last of them with the end mark, and the cell link map lists the held cells and no other
(R9, R10). In PASSIVE no cell is issued and no frame stands (R168). -/
def State.cellLaw (s : State) : Prop :=
  (Runs.toList s.cells.freeList ++ (s.cellsIssued ++ s.cellsHeld)).Perm (List.range 65536) ∧
    (∀ e ∈ s.cells.frames,
      1 ≤ e.2.cellCount ∧ (s.frameCells e.1).length = e.2.cellCount ∧
        (s.frameCells e.1).getLast?.bind s.cells.links.find = some none) ∧
    (∀ c, (s.cells.links.find c).isSome = true ↔ c ∈ s.cellsHeld) ∧
    Table.sorted s.cells.frames = true ∧ Table.sorted s.cells.links = true ∧
    (s.path.mode = .passive → s.cells.frames = [] ∧ s.cellsIssued = [])

/-- The tags in the class queues, in the slots of the egress rings and in the hold pool. -/
def State.placedTags (s : State) : List Nat :=
  (allPorts.flatMap fun p => allClasses.flatMap (s.queue p)) ++
    ((allPorts.flatMap fun p => (s.egressPort p).slots.map fun x => x.2.tag) ++ s.heldTags)

/-- The copy law (R12, R94, R99, R142): each of the 131,072 copy records is FREE, on the free copy list, or QUEUED in one
class queue, POSTED in one slot or HELD under one group, as its record says. In PASSIVE every record is FREE. -/
def State.copyLaw (s : State) : Prop :=
  (Runs.toList s.cells.freeCopies ++ s.cells.copies.map (·.1)).Perm (List.range 131072) ∧
    s.placedTags.Perm (s.cells.copies.map (·.1)) ∧
    (∀ (p : Port) (c : Cls), ∀ tag ∈ s.queue p c,
      ∃ k, s.copy tag = some k ∧ k.state = .queued ∧ k.port = some p ∧ k.cls = c) ∧
    (∀ p : Port, ∀ x ∈ (s.egressPort p).slots, ∃ k, s.copy x.2.tag = some k ∧ k.state = .posted ∧ k.port = some p) ∧
    (∀ g : GroupId, ∀ tag ∈ s.heldCopies g,
      ∃ k, s.copy tag = some k ∧ k.state = .held ∧ k.port = none ∧ k.via = some g) ∧
    Table.sorted s.cells.copies = true ∧ (∀ p : Port, Table.sorted (s.egressPort p).slots = true) ∧
    (s.path.mode = .passive → s.cells.copies = [])

/-- The copy records that name the frame with this first cell. -/
def State.copiesOf (s : State) (first : Nat) : List Copy :=
  (s.cells.copies.filter fun e => decide (e.2.frame = first)).map (·.2)

/-- The target-port law (R10, R11, R14): every copy names a frame that stands; a frame's copy count is the number of its
copy records, 1 to 48, and its target-port set, in ascending order, holds the port of each of its QUEUED and POSTED copies
and no port twice. -/
def State.portLaw (s : State) : Prop :=
  Table.sorted s.cells.frames = true ∧ (∀ e ∈ s.cells.copies, (s.frame e.2.frame).isSome = true) ∧
    ∀ e ∈ s.cells.frames,
      e.2.copyCount = (s.copiesOf e.1).length ∧ 1 ≤ e.2.copyCount ∧ e.2.copyCount ≤ 48 ∧
        e.2.ports.Pairwise (· < ·) ∧ e.2.ports.Perm ((s.copiesOf e.1).filterMap (·.port))

/-- The numbers listed in every sparse table of the state rise strictly (the model's own form, log entry 25). -/
def State.canonical (s : State) : Prop :=
  (Table.sorted s.tables.ports = true ∧ Table.sorted s.tables.groups = true ∧
      Table.sorted s.tables.queueProfiles = true ∧ Table.sorted s.tables.schedules = true ∧
      Table.sorted s.tables.tariffs = true ∧ Table.sorted s.tables.tenants = true ∧
      Table.sorted s.tables.segments = true ∧ Table.sorted s.tables.lists = true) ∧
    (Table.sorted s.path.args = true ∧ (∀ v, s.path.staging = some v → Table.sorted v.bytes = true)) ∧
    (Table.sorted s.cells.ports = true ∧ Table.sorted s.cells.frames = true ∧ Table.sorted s.cells.copies = true ∧
      Table.sorted s.cells.links = true ∧ Table.sorted s.intake = true) ∧
    (Table.sorted s.lookup.stations = true ∧ Table.sorted s.lookup.learned = true ∧
      Table.sorted s.admission.meters = true ∧ Table.sorted s.admission.held = true) ∧
    (Table.sorted s.queues.queues = true ∧ Table.sorted s.queues.ports = true ∧
      (∀ p : Port, Table.sorted (s.egressPort p).slots = true) ∧ Table.sorted s.live.ports = true) ∧
    (Table.sorted s.failover.groupStates = true ∧ Table.sorted s.failover.hold = true ∧
      Table.sorted s.failover.drained = true) ∧
    Table.sorted s.acct.records = true ∧ (∀ e ∈ s.acct.records, Table.sorted e.2.drops = true) ∧
    Table.sorted s.slots = true

end Sys2Proof.Machine
end

