-- ==== Sys2Proof/WellFormed.lean ====
section
/-! DEFINITION. Which commands are well formed: the operand of a row is the write, or the event, that the row's rule
describes. The checks look at the command alone, never at the state. -/
namespace Sys2Proof

/-- A granule of the channel: 64 byte lanes (Table 0-2). -/
def granuleOk (g : Lanes) : Bool := decide (g.length = 64)

/-- The lanes of bytes 0 to 59 of a command write (R172). -/
def SlotWrite.ok (w : SlotWrite) : Bool := decide (w.low.length = 60)

/-- The kind is one of Table 11-3. -/
def knownKind (kind : Byte) : Bool := decide (1 ≤ kind.toNat ∧ kind.toNat ≤ 10)

/-- The granule lies in the control-table area and no entry's share of it is a commit (R169). -/
def stagingOk (i : Nat) (g : Lanes) : Bool :=
  granuleOk g && (Machine.areaAt (64 * i)).isSome && (Machine.entryWrites i g).all fun e => !e.commits

/-- Some entry's share of the write is a commit (R169, R170). -/
def commitOk (i : Nat) (g : Lanes) : Bool := granuleOk g && (Machine.entryWrites i g).any Machine.EntryWrite.commits

/-- The operands of a command are those its row's rule describes. -/
def Instr.wellFormed (i : Instr) : Bool :=
  match i with
  | .powerOnReset _ => true
  | .ingressSlotWrite _ _ g => granuleOk g
  | .takingOfDescriptor _ _ g => granuleOk g && Machine.readyMarker g
  | .postAttempt _ => true
  | .completion _ _ g => granuleOk g && Machine.allStrobes g 56 8
  | .statusWord _ g => granuleOk g && Machine.allStrobes g 60 4
  | .trialExpiry _ => true
  | .stallExpiry _ => true
  | .drainExpiry _ => true
  | .agingPeriodExpiry => true
  | .agingSweepStep => true
  | .flushWalkStep => true
  | .walkStart => true
  | .evacuationWalkStep => true
  | .drainWalkStep => true
  | .exportWalkStep => true
  | .tableStagingWrite n g => stagingOk n g
  | .tableCommit n g => commitOk n g
  | .commandArgumentWrite _ g => granuleOk g && !Machine.allStrobes g 60 4
  | .consumerWord g => granuleOk g && Machine.allStrobes g 0 4
  | .unknownCommand kind w => w.ok && !knownKind kind
  | .start w => w.ok
  | .stationAdd w => w.ok
  | .stationRemove w => w.ok
  | .flush w => w.ok
  | .epochClose w => w.ok
  | .portAdminDown w => w.ok
  | .portAdminRelease w => w.ok
  | .portReset w => w.ok
  | .meterRefill w => w.ok
  | .timeMark w => w.ok
  | .windowWriteNoEffect addr g => granuleOk g && decide (addr % 64 = 0)
  | .timebaseAdvance => true

/-- The granule a command carries across the part, if the command is a write from the interconnect face. -/
def Instr.granule? (i : Instr) : Option Lanes :=
  match i with
  | .powerOnReset _ => none
  | .ingressSlotWrite _ _ g => some g
  | .takingOfDescriptor _ _ g => some g
  | .postAttempt _ => none
  | .completion _ _ g => some g
  | .statusWord _ g => some g
  | .trialExpiry _ => none
  | .stallExpiry _ => none
  | .drainExpiry _ => none
  | .agingPeriodExpiry => none
  | .agingSweepStep => none
  | .flushWalkStep => none
  | .walkStart => none
  | .evacuationWalkStep => none
  | .drainWalkStep => none
  | .exportWalkStep => none
  | .tableStagingWrite _ g => some g
  | .tableCommit _ g => some g
  | .commandArgumentWrite _ g => some g
  | .consumerWord g => some g
  | .unknownCommand kind w => some (Machine.slotGranule kind w)
  | .start w => some (Machine.slotGranule 1 w)
  | .stationAdd w => some (Machine.slotGranule 2 w)
  | .stationRemove w => some (Machine.slotGranule 3 w)
  | .flush w => some (Machine.slotGranule 4 w)
  | .epochClose w => some (Machine.slotGranule 5 w)
  | .portAdminDown w => some (Machine.slotGranule 6 w)
  | .portAdminRelease w => some (Machine.slotGranule 7 w)
  | .portReset w => some (Machine.slotGranule 8 w)
  | .meterRefill w => some (Machine.slotGranule 9 w)
  | .timeMark w => some (Machine.slotGranule 10 w)
  | .windowWriteNoEffect _ g => some g
  | .timebaseAdvance => none

end Sys2Proof
end

