-- ==== Sys2Proof/Certificates/Slice0/Obligations.lean ====
section
/-! DEFINITION. The statements for the provers: whole-machine rules, invariants that every step keeps, what each command
does and what it leaves alone, and the rules of the part's decisions. -/

open Sys2Proof Sys2Proof.Machine

/-! ## The whole machine -/

/-- The step executes the command at the front of the queue with the rest waiting; on an empty queue the part idles (the
model's choice, log entry 5). -/
def Obligations.StepRunsFrontCommand : Prop :=
  (∀ (c : Instr) (rest : List Instr) (s : State),
      step { s with pending := c :: rest } = exec c { s with pending := rest }) ∧
    ∀ s : State, s.pending = [] → step s = .next s

/-- Every command answers a next state in every state, leaves the queue of waiting commands alone, and only adds to the
stream toward memory: nothing sent is taken back or reordered (R166, the model's memory of log entry 7). -/
def Obligations.EveryCommandAnswersAndKeepsStream : Prop :=
  ∀ (c : Instr) (s : State), ∃ t, exec c s = .next t ∧ t.pending = s.pending ∧ s.streamGrows t

/-- No command and no install returns the part to PASSIVE: only power-on reset does (a clause of R167). The window base is
the strap value sampled at power-on reset and changes at no other command (a clause of R163). -/
def Obligations.ModeAndWindowBaseOnlyByPowerOn : Prop :=
  ∀ (c : Instr) (s t : State), exec c s = .next t →
    (s.path.mode = .active → t.path.mode = .passive → ∃ straps, c = .powerOnReset straps) ∧
      t.path.winbase = (match c with | .powerOnReset straps => straps | _ => s.path.winbase)

/-- What only a few commands change, power-on reset apart. Only the passing of a microsecond changes the timebase and the
dividers of the unit marks (R113). Only a write of the control tables changes an installed copy or the staging copy: not
START, not PORT_RESET, no event (R169, R170, R174). Only a consumer word changes the consumer copy (R175, R176). A write of
any address (WINDOW_WRITE_NO_EFFECT, log entry 6) is left out of the last two, since it acts as the write it is. -/
def Obligations.ClockTablesAndConsumerHaveTheirWriters : Prop :=
  ∀ (c : Instr) (s t : State), exec c s = .next t → (∀ straps, c ≠ .powerOnReset straps) →
    (c ≠ .timebaseAdvance →
      t.live.timebase = s.live.timebase ∧ t.live.div100us = s.live.div100us ∧ t.live.div10ms = s.live.div10ms) ∧
      ((∀ i g, c ≠ .tableStagingWrite i g) → (∀ i g, c ≠ .tableCommit i g) → (∀ a g, c ≠ .windowWriteNoEffect a g) →
        t.tables = s.tables ∧ t.path.staging = s.path.staging) ∧
      ((∀ g, c ≠ .consumerWord g) → (∀ a g, c ≠ .windowWriteNoEffect a g) →
        t.notices.consumer = s.notices.consumer)

/-! ## Invariants -/

/-- The machine after power-on meets every invariant below. -/
def Obligations.ResetMeetsInvariants : Prop :=
  State.reset.quiet ∧ State.reset.ringRoom ∧ State.reset.clockOk ∧ State.reset.positionsOk ∧ State.reset.installedOk ∧
    State.reset.tokensOk ∧ State.reset.listsOk ∧ State.reset.holdOk ∧ State.reset.countersOk ∧ State.reset.canonical ∧
    State.reset.cellLaw ∧ State.reset.copyLaw ∧ State.reset.portLaw ∧ State.reset.learnedLaw

/-- Every step keeps the notice ring's room: the notices between the consumer copy and the producer are at most 1,024,
whatever is written to the consumer word (R175, R176). It keeps the dividers of the unit marks in their ranges (R113), the
ring positions, the schedule's phase pointer and the staging copies in theirs (R4, R20, R97, R99), and it leaves no write
of an action unsent (R166). -/
def Obligations.RingRoomClockAndPositionsKept : Prop :=
  ∀ s t : State, step s = .next t →
    (s.ringRoom → t.ringRoom) ∧ (s.clockOk → t.clockOk) ∧ (s.positionsOk → t.positionsOk) ∧ (s.quiet → t.quiet)

/-- Every step keeps the installed entries such as validation lets through, each field within its mask or clamp: the global
entry with code 7 in class 0, port windows, issue targets, profile numbers and timers, groups, queue profiles, schedules,
tariffs, tenants and lists (Table 10-2, R60, R96, R130). It keeps each tenant's tokens between 0 and the tenant's installed
depth (R73, R78). -/
def Obligations.InstalledEntriesAndTokensKept : Prop :=
  ∀ s t : State, step s = .next t → (s.installedOk → t.installedOk) ∧ (s.tokensOk → t.tokensOk)

/-- Every step keeps the flush queue at 8 requests or fewer, no two equal, the work list free of repeats, and the hold pool
at 4,096 copies or fewer (R51, R133, R142). Where the cell law stands, it keeps the copy law and the target-port law: each
copy record is free, or stands in the one queue, slot or hold list that its record names (R12), and each frame's copy count
and target-port set are those of its copies, no two of them on one port (R10, R11). -/
def Obligations.QueuesAndHoldPoolBoundedKept : Prop :=
  ∀ s t : State, step s = .next t →
    (s.listsOk → t.listsOk) ∧ (s.holdOk → t.holdOk) ∧
      (s.cellLaw → s.copyLaw → s.portLaw → t.copyLaw ∧ t.portLaw)

/-- Every step keeps every counter of both banks at or below its largest value (R150, R156), and each tenant's learned count
at the number of its LEARNED entries (R38). -/
def Obligations.CountersWithinWidthKept : Prop :=
  ∀ s t : State, step s = .next t → (s.countersOk → t.countersOk) ∧ (s.learnedLaw → t.learnedLaw)

/-- Every step keeps the numbers of every sparse table of the state strictly rising: the installed tables, the slots of each
egress ring, the staged bytes and the drops of each record among them. That form is the model's own (log entry 25). -/
def Obligations.CanonicalFormKept : Prop := ∀ s t : State, step s = .next t → s.canonical → t.canonical

/-! ## Power-on, the clock, writes that reach memory alone -/

/-- POWER_ON_RESET (R174): the installed copies hold the contents of Table 10-6, the staging copy is empty and the argument
copies are zero; memory is not written; the window base is the sampled strap value, the part is PASSIVE, and every block
holds its power-on contents. Neither START nor PORT_RESET changes an installed copy. That the waiting commands stand is the
model's (log entry 19) and is not said here. -/
def Obligations.PowerOnContents : Prop :=
  (∀ (straps : BitVec 4) (s : State), s.quiet → ∃ t, exec (.powerOnReset straps) s = .next t ∧
    t.path.winbase = straps ∧ t.path.mode = .passive ∧ t.path.staging = none ∧
    (∀ k, t.args k = List.replicate 48 0) ∧ (∀ a, t.memByte a = s.memByte a) ∧
    t.cells = State.reset.cells ∧ t.intake = State.reset.intake ∧ t.lookup = State.reset.lookup ∧
    t.admission = State.reset.admission ∧ t.live = State.reset.live ∧ t.failover = State.reset.failover ∧
    t.acct = State.reset.acct ∧ t.notices = State.reset.notices ∧ (∀ k, (t.slot k).status = .idle) ∧
    t.queues.queues = [] ∧
    (∀ p, (t.egressPort p).slots = [] ∧ (t.egressPort p).nextWrite = 0 ∧ (t.egressPort p).lap = true ∧
      (t.egressPort p).phase = 0 ∧ (t.egressPort p).schedule = List.replicate 64 .skip ∧
      (t.egressPort p).pendingSched = false) ∧
    t.tables.globalEntry.rotation = 0 ∧ t.tables.globalEntry.tightFloor = 8192 ∧
    t.tables.globalEntry.criticalFloor = 2048 ∧ t.tables.globalEntry.hysteresis = 1024 ∧
    t.tables.globalEntry.agingPeriod = 30000 ∧
    (∀ code : Fin 8, t.classOfPriority code = if code = 7 then 0 else 1) ∧
    (∀ p : Port, t.portEntry p =
      { window := 16, issueTarget := 128, queueProfile := 0, schedProfile := 0, trial := ⟨10, 1⟩, stall := ⟨10, 1⟩,
        drain := ⟨10, 1⟩, learnGroup := none, hairpin := false, defaultSegment := 1 }) ∧
    (∀ g : GroupId, (t.groupEntry g).mode = .ordered ∧ (t.groupEntry g).count = 1 ∧
      (t.groupEntry g).ports.map Fin.val = [40 + g.val % 8]) ∧
    (∀ i < 16, t.tables.queueProfiles.getD i QueueProfile.powerOn =
      { minimum := 16, markThreshold := 4096, alpha := 4, ageLimit := 0 }) ∧
    (∀ (p : Port) (c : Cls), t.profileOf p c = { minimum := 16, markThreshold := 4096, alpha := 4, ageLimit := 0 }) ∧
    (∀ k, t.scheduleProfile k = List.replicate 64 .skip) ∧ (∀ k, t.tariffSet k = List.replicate 8 256) ∧
    (∀ n : Tenant, t.tenantEntry n =
      { rate := 0, depth := 0, quota := 0, stationLimit := 0, excessMode := 0, tariffSet := 0 } ∧
      t.meter n = { tokens := 0, last := 0 }) ∧
    (∀ g, t.segmentEntry g =
      { enabled := false, learning := false, tenant := 0, flood := none, multicast := none }) ∧
    ∀ l : ListId, (t.repList l).count = 0) ∧
    (∀ (w : SlotWrite) (s t : State), exec (.start w) s = .next t → t.tables = s.tables) ∧
    ∀ (w : SlotWrite) (s t : State), exec (.portReset w) s = .next t → t.tables = s.tables

/-- TIMEBASE_ADVANCE (R113): the timebase advances by one and returns to 0 after 4,294,967,295; the dividers give the
100 µs and 10 ms marks exactly every 100 and every 10,000 µs. Nothing else changes, and no expiry is taken by it (log
entry 8). -/
def Obligations.TimebaseAdvances : Prop :=
  ∀ s : State, s.clockOk →
    exec .timebaseAdvance s =
      .next { s with
              live := { s.live with
                timebase := s.live.timebase + 1
                div100us := (s.live.div100us + 1) % 100
                div10ms := (s.live.div10ms + 1) % 10000 } }

/-- WINDOW_WRITE_NO_EFFECT (R164, R165): a write outside the window, at an offset of no area, in a gap of the control tables
or without a strobe there, or in PASSIVE in any area but the control tables and the command slots, is forwarded and changes
no state of the part. That the row acts as the write it is, is log entry 6. -/
def Obligations.UninterpretedWriteReachesMemoryAlone : Prop :=
  ∀ (addr : Nat) (g : Lanes) (s : State), s.quiet →
    (match s.offsetOf addr with
      | none => True
      | some off =>
        match areaOf off with
        | .other => True
        | .tables i => entryWrites i g = []
        | .commandSlot _ => False
        | _ => s.path.mode = .passive) →
    exec (.windowWriteNoEffect addr g) s = .next (s.sending [{ addr := addr, lanes := g, own := false }])

/-- Writes that reach memory and are not taken: in PASSIVE, writes of an ingress ring, an egress ring, a status record and
the consumer word (R21, R106, R117, R164, R176); a completion word that misses a condition of R106; a status word that is
not whole or whose port is ADMIN_DOWN (R117). -/
def Obligations.WritesNotTakenReachMemoryAlone : Prop :=
  ∀ s : State, s.quiet →
    (s.path.mode = .passive →
      (∀ (p : Port) (n : RingSlot) (g : Lanes),
        exec (.ingressSlotWrite p n g) s = .next (s.sending [s.crossing (ingressOffset p n) g]) ∧
          exec (.takingOfDescriptor p n g) s = .next (s.sending [s.crossing (ingressOffset p n) g])) ∧
        (∀ (p : Port) (g : Lanes), exec (.statusWord p g) s = .next (s.sending [s.crossing (statusOffset p) g])) ∧
        ∀ g : Lanes, exec (.consumerWord g) s = .next (s.sending [s.crossing Config.consumerWord g])) ∧
      (∀ (p : Port) (n : RingSlot) (g : Lanes),
        (s.path.mode = .passive ∨ allStrobes g 56 8 = false ∨ (s.egressPort p).slots.find n = none ∨
          ∃ rec, (s.egressPort p).slots.find n = some rec ∧ rec.lap ≠ (CompletionWord.read g).lap) →
        exec (.completion p n g) s = .next (s.sending [s.crossing (egressOffset p n) g])) ∧
      ∀ (p : Port) (g : Lanes), (allStrobes g 60 4 = false ∨ s.liveness p = .adminDown) →
        exec (.statusWord p g) s = .next (s.sending [s.crossing (statusOffset p) g])

/-- CONSUMER_WORD (R176): a whole consumer word in ACTIVE makes the consumer copy the value written, or the producer
where the value is ahead of it or more than a ring behind; nothing else changes; a write that covers fewer bytes, or one
in PASSIVE, is not taken. NOTICE_N is asserted while the producer differs from the consumer copy; a notice lost to a full
ring does not change it, and the first notice written after room has been made carries the gap flag. -/
def Obligations.ConsumerWordTaken : Prop :=
  (∀ (g : Lanes) (s : State), s.quiet →
    exec (.consumerWord g) s =
      .next
        ((if s.path.mode = .active ∧ allStrobes g 0 4 = true then
            { s with
              notices := { s.notices with
                consumer :=
                  if (s.notices.producer - consumerValue g).toNat ≤ 1024 then consumerValue g
                  else s.notices.producer } }
          else s).sending [s.crossing Config.consumerWord g])) ∧
    (∀ s : State, s.noticeAsserted = true ↔ s.notices.producer ≠ s.notices.consumer) ∧
    ∀ (s : State) (k : NoticeKind) (a b c : Nat),
      ((s.notices.producer - s.notices.consumer).toNat < 1024 →
        (s.ask k a b c).notices = { s.notices with producer := s.notices.producer + 1, gap := false } ∧
          (s.ask k a b c).bus.notices = s.noticeWrite k a b c :: s.bus.notices) ∧
      (1024 ≤ (s.notices.producer - s.notices.consumer).toNat →
        (s.ask k a b c).notices = { s.notices with gap := true } ∧ (s.ask k a b c).bus = s.bus)

/-! ## Intake -/

/-- INGRESS_SLOT_WRITE in ACTIVE (R21, R23). A write of the expected slot that is not a ready write merges its strobed
bytes into the port's staging copy; one of another slot changes only memory. A ready write of another slot, or of the
expected slot with the wrong lap, is an order fault: it takes nothing and asks for INTAKE_FAULT(ORDER), which a full ring
loses with the gap flag set (R175); its bytes are staged at the expected slot. -/
def Obligations.IngressWriteStagesOrFaults : Prop :=
  ∀ (p : Port) (n : RingSlot) (g : Lanes) (s : State), s.quiet → s.path.mode = .active →
    (readyMarker g = false →
      exec (.ingressSlotWrite p n g) s =
        .next
          ((if n.val = (s.intakePort p).slot then
              { s with
                intake := s.intake.setD p
                  { s.intakePort p with staging := merge (s.intakePort p).staging g } IntakePort.powerOn }
            else s).sending [s.crossing (ingressOffset p n) g])) ∧
      (readyMarker g = true → ¬(n.val = (s.intakePort p).slot ∧ readyLap g = (s.intakePort p).lap) →
        exec (.ingressSlotWrite p n g) s =
          .next
            (({ s with
                intake :=
                  if n.val = (s.intakePort p).slot then
                    s.intake.setD p
                      { s.intakePort p with staging := merge (s.intakePort p).staging g } IntakePort.powerOn
                  else s.intake } : State).telling [s.crossing (ingressOffset p n) g]
              [{ kind := .intakeFault, subject := p, first := 2 ^ 24 * 1 + n, second := (readyLap g).toNat }]))

/-- TAKING_OF_DESCRIPTOR, every one (R20, R22): whatever becomes of the frame, the expected slot advances with its lap, the
staging copy is cleared, and no other port's intake state changes. The station table afterwards is as source learning
leaves it where the descriptor passes validation and the segment check, and as it was otherwise (R25 to R28, R32, R42).
Source learning of a frame, by Table 3-3 (R42 to R46), with its notices and the learn refusal; and the resolution of a
destination (R40, R41). -/
def Obligations.TakingAdvancesExpectedSlot : Prop :=
  (∀ (p : Port) (n : RingSlot) (g : Lanes) (s : State) (d : Descriptor), s.takes p n g = true →
    Descriptor.read (merge (s.intakePort p).staging g) = d →
    ∃ t, exec (.takingOfDescriptor p n g) s = .next t ∧
      t.intakePort p =
        { slot := if (s.intakePort p).slot ≥ 255 then 0 else (s.intakePort p).slot + 1
          lap := if (s.intakePort p).slot ≥ 255 then !(s.intakePort p).lap else (s.intakePort p).lap
          staging := List.replicate 64 0 } ∧
      (∀ q : Port, q ≠ p → t.intakePort q = s.intakePort q) ∧ t.failover.work = s.failover.work ∧ t.live = s.live ∧
      t.slots = s.slots ∧
      t.lookup =
        (if d.cellCount ≤ s.issuedCount p ∧ d.sizeValid = true ∧ d.fcsBad = false ∧ d.truncated = false ∧
            s.segmentOf p d ≠ 0 ∧ (s.segmentEntry (s.segmentOf p d)).enabled = true then
          (s.learn (s.form p d (s.claimed p d.cellCount))).lookup
        else s.lookup)) ∧
    (∀ (s : State) (f : Forming) (tgt : Target),
      tgt = (match (s.portEntry f.port).learnGroup with | some grp => .group grp | none => .port f.port) →
      s.learn f =
        if (s.segmentEntry f.segment).learning = true ∧ isGroupAddress f.src = false then
          match s.lookup? f.segment f.src with
          | some (way, e) =>
            if e.isStatic = true then
              if e.target = tgt ∨ e.conflict = true then s
              else
                ({ s with
                    lookup := { s.lookup with stations := s.lookup.stations.put way { e with conflict := true } } } :
                  State).ask .staticConflict e.segment (e.addr.toNat % 2 ^ 32)
                  (e.addr.toNat / 2 ^ 32 + 2 ^ 16 * tgt.number + 2 ^ 30 * tgt.kindCode)
            else if e.locked = true then s
            else if e.target = tgt then
              { s with lookup := { s.lookup with stations := s.lookup.stations.put way { e with hit := true } } }
            else if e.moves < 3 then
              { s with
                lookup := { s.lookup with
                  stations := s.lookup.stations.put way { e with target := tgt, hit := true, moves := e.moves + 1 } } }
            else
              ({ s with
                  lookup := { s.lookup with
                    stations := s.lookup.stations.put way { e with target := tgt, hit := true, locked := true } } } :
                State).ask .stationLocked e.segment (e.addr.toNat % 2 ^ 32)
                (e.addr.toNat / 2 ^ 32 + 2 ^ 16 * tgt.number + 2 ^ 30 * tgt.kindCode)
          | none =>
            match s.freeWay? f.segment f.src, decide (s.learned f.tenant < (s.tenantEntry f.tenant).stationLimit) with
            | some way, true =>
              { s with
                lookup := { s.lookup with
                  stations := s.lookup.stations.put way
                    { segment := f.segment, addr := f.src, target := tgt, isStatic := false, hit := true, moves := 0,
                      locked := false, conflict := false, tenant := f.tenant }
                  learned := s.lookup.learned.setD f.tenant (s.learned f.tenant + 1) 0 } }
            | _, _ => s.updateLive f.tenant fun r => { r with learnRefusals := min (2 ^ 32 - 1) (r.learnRefusals + 1) }
        else s) ∧
    ∀ (s : State) (f : Forming),
      (∀ way e, s.lookup? f.segment f.dst = some (way, e) → s.resolve f = some e.target) ∧
        (s.lookup? f.segment f.dst = none →
          s.resolve f =
            (if isGroupAddress f.dst = true ∧ (s.segmentEntry f.segment).multicast.isSome = true then
              (s.segmentEntry f.segment).multicast
            else (s.segmentEntry f.segment).flood).map Target.list)

/-- Descriptors that end without a frame. One that announces more cells than the port's issued count claims nothing and
moves no counter; its slot is consumed and INTAKE_FAULT(CELLS) is asked for, which a full ring loses (R25, R175). Of
every other one the claimed cells return to the tail of the free list in frame order, with one report of the free count
and one refill run (R8, R33); the link words are written from the segment check on (R9). One that fails the second or
third step counts one INGRESS_ERROR against the tenant of the port's default segment (R26, R27); one of segment 0 or of
a disabled segment one SEGMENT_OFF (R28); nothing is learned. One whose destination resolves to nothing counts one
NO_PATH (R41), and one that a frame-level check refuses, its meter refilled and its colour found, one METER, SHED or
TENANT_QUOTA, the first that applies (R74 to R76, R83, R85, R86); these have been learned from. No frame and no copy is
made, and nothing is debited or held. That each link word and each free-cell entry is a write of its own, where R9 and
R4 let several travel in one, is the model's choice (log entry 7). -/
def Obligations.FailedValidationOutcomes : Prop :=
  ∀ (p : Port) (n : RingSlot) (g : Lanes) (s : State) (d : Descriptor) (cells : List Nat) (own : BusWrite), s.quiet →
    s.takes p n g = true → Descriptor.read (merge (s.intakePort p).staging g) = d → cells = s.claimed p d.cellCount →
    own = s.crossing (ingressOffset p n) g →
    (s.issuedCount p < d.cellCount →
      exec (.takingOfDescriptor p n g) s =
        .next
          (({ s with
              intake := (s.intake.setD p
                  { s.intakePort p with staging := merge (s.intakePort p).staging g } IntakePort.powerOn).setD p
                (s.intakePort p).advance IntakePort.powerOn } : State).telling [own]
            [{ kind := .intakeFault, subject := p, first := 2 ^ 24 * 2 + (s.intakePort p).slot,
               second := 2 ^ 16 * d.cellCount + s.issuedCount p }])) ∧
      (d.cellCount ≤ s.issuedCount p → (d.sizeValid = false ∨ d.fcsBad = true ∨ d.truncated = true) →
        ∃ t, exec (.takingOfDescriptor p n g) s = .next t ∧
          t.acct = (s.countDrop .ingressError (s.segmentTenant (s.portEntry p).defaultSegment)).acct ∧
          s.returned t ((s.claim p d.cellCount).settled cells) cells [own] ∧
          t.admission.meters = s.admission.meters ∧ t.admission.held = s.admission.held ∧
          s.sameOutside [.cells, .intake, .admission, .acct, .notices, .bus] t) ∧
      (d.cellCount ≤ s.issuedCount p → d.sizeValid = true → d.fcsBad = false → d.truncated = false →
        (s.segmentOf p d = 0 ∨ (s.segmentEntry (s.segmentOf p d)).enabled = false →
          ∃ t, exec (.takingOfDescriptor p n g) s = .next t ∧
            t.acct = (s.countDrop .segmentOff (s.segmentTenant (s.segmentOf p d))).acct ∧
            s.returned t ((s.claim p d.cellCount).settled cells) cells [own] ∧
            t.admission.meters = s.admission.meters ∧ t.admission.held = s.admission.held ∧
            s.sameOutside [.cells, .intake, .admission, .acct, .notices, .bus] t) ∧
          ∀ (f : Forming) (s0 base : State), s.segmentOf p d ≠ 0 →
            (s.segmentEntry (s.segmentOf p d)).enabled = true → f = s.form p d cells → s0 = s.learn f →
            base = (s0.claim p d.cellCount).settled cells →
            (s0.lookup? f.segment f.dst = none → (s.segmentEntry f.segment).flood = none →
              (isGroupAddress f.dst = true → (s.segmentEntry f.segment).multicast = none) →
              ∃ t, exec (.takingOfDescriptor p n g) s = .next t ∧ t.acct = (s0.countDrop .noPath f.tenant).acct ∧
                t.lookup = s0.lookup ∧ s.returned t base cells (s.linkWrites cells ++ [own]) ∧
                t.linkWordsStand cells ∧
                t.admission.meters = s.admission.meters ∧ t.admission.held = s.admission.held ∧
                s.sameOutside [.cells, .intake, .lookup, .admission, .acct, .notices, .bus] t) ∧
              ∀ (m : Meter) (col : Colour) (cause : DropCause), (s0.resolve f).isSome = true →
                m = refilledMeter (s.tenantEntry f.tenant) (s.meter f.tenant) s.now →
                col = (if frameCost d.length ≤ m.tokens then .committed else .excess) →
                (if col = .excess ∧ 2 ≤ (s.tenantEntry f.tenant).excessMode then some .meter
                  else if shedRefuses s.admission.shed col f.cls = true then some .shed
                  else if (s.tenantEntry f.tenant).quota < s.heldCells f.tenant + d.cellCount then some .tenantQuota
                  else none) = some cause →
                ∃ t, exec (.takingOfDescriptor p n g) s = .next t ∧ t.acct = (s0.countDrop cause f.tenant).acct ∧
                  t.lookup = s0.lookup ∧ s.returned t base cells (s.linkWrites cells ++ [own]) ∧
                  t.linkWordsStand cells ∧
                  t.meter f.tenant = m ∧ (∀ j : Tenant, j ≠ f.tenant → t.meter j = s.meter j) ∧
                  t.admission.held = s.admission.held ∧
                  s.sameOutside [.cells, .intake, .lookup, .admission, .acct, .notices, .bus] t)

/-- A frame that passes every frame-level check, COMMITTED or EXCESS (R7, R14, R30, R32, R33, R75 to R77, R84, R93),
after learning, by its target. The link words of its cells are in memory, each with the next cell's number, the last
with FFFFh (R9). A single target, a port or a group, that makes no copy: nothing counted at the ingress port without the
hairpin flag, NO_PATH for a group without a choice, HOLD_FULL, QUEUE_FULL by the threshold of the frame's colour, or
NO_COPY; no frame is made and the cells return (R8, R14, R66 to R69, R88 to R90). A port, given by the entry or chosen
in a group that is not EVACUATING: one copy is QUEUED at the tail of its class queue, marked by the queue's depth or, an
EXCESS frame, under MARK_EXCESS (R91). An EVACUATING group: one copy is HELD under it (R67, R92, R142). A list: over the
entries of the list and of the lists below it to four deep, one copy for each port served and for each EVACUATING group,
in the order met, with tags from the head of the free copy list; a port without room is counted under QUEUE_FULL, a
group without room in the pool under HOLD_FULL, a copy without a record under NO_COPY; REPLICATION_DEPTH is posted once
for sublists too deep (R62 to R67). The post attempts counted are the model's (log entry 9). That each link word and
each free-cell entry is a write of its own, where R9 and R4 let several travel in one, is the model's choice (log entry
7). -/
def Obligations.UnicastFrameIsQueued : Prop :=
  ∀ (p : Port) (n : RingSlot) (g : Lanes) (s s0 : State) (d : Descriptor) (f : Forming) (tgt : Target)
    (own : BusWrite) (counted : State),
    s.admits p n g d f → s0 = s.learn f → s0.resolve f = some tgt → own = s.crossing (ingressOffset p n) g →
    (s.targetRefusal s0 f tgt = some counted →
      ∃ t, exec (.takingOfDescriptor p n g) s = .next t ∧ s.noFrame s0 t f [] own counted) ∧
      (∀ (q : Port) (via : Option GroupId) (tag : Nat) (tail : List Nat),
        (match tgt with
          | .port r => r = q ∧ via = none
          | .group grp =>
            via = some grp ∧ s.groupState grp ≠ .evacuating ∧ s.memberChoice grp f.flowHash = some q
          | .list _ => False) →
        (q = p → (s.portEntry p).hairpin = true) → s.fits f q = true → Runs.toList s.cells.freeCopies = tag :: tail →
        ∃ t, exec (.takingOfDescriptor p n g) s = .next t ∧
          s.entered s0 t f 1 [q] [] own (s0.countAdmitted f.colour f.tenant) ∧
          t.copy tag = some (s.queuedCopy f q via) ∧ (∀ j, j ≠ tag → t.copy j = s.copy j) ∧
          Runs.toList t.cells.freeCopies = tail ∧ t.queue q f.cls = s.queue q f.cls ++ [tag] ∧
          (∀ (r : Port) (c : Cls), (r, c) ≠ (q, f.cls) → t.queue r c = s.queue r c) ∧
          t.egressPort q = { s.egressPort q with owed := (s.egressPort q).owed + 1 } ∧
          (∀ r : Port, r ≠ q → t.egressPort r = s.egressPort r) ∧
          s.sameOutside [.cells, .intake, .lookup, .admission, .queues, .acct, .notices, .bus] t) ∧
      (∀ (grp : GroupId) (tag : Nat) (tail : List Nat), tgt = .group grp → s.groupState grp = .evacuating →
        s.holdCount < 4096 → Runs.toList s.cells.freeCopies = tag :: tail →
        ∃ t, exec (.takingOfDescriptor p n g) s = .next t ∧
          s.entered s0 t f 1 [] [] own (s0.countAdmitted f.colour f.tenant) ∧
          t.copy tag = some (s.heldCopy f grp) ∧ (∀ j, j ≠ tag → t.copy j = s.copy j) ∧
          Runs.toList t.cells.freeCopies = tail ∧ t.heldCopies grp = s.heldCopies grp ++ [tag] ∧
          (∀ h : GroupId, h ≠ grp → t.heldCopies h = s.heldCopies h) ∧
          t.failover = { s.failover with hold := t.failover.hold } ∧
          s.sameOutside [.cells, .intake, .lookup, .admission, .failover, .acct, .notices, .bus] t) ∧
      ∀ (l : ListId) (verdicts : List (ListStep × Option DropCause)) (made : List ListStep) (tags tail : List Nat),
        tgt = .list l → s.canonical → (∀ m : ListId, (s.repList m).count ≤ 16) → verdicts = s.listVerdicts f l →
        made = (verdicts.filter fun x => x.2.isNone).map (·.1) →
        Runs.toList s.cells.freeCopies = tags ++ tail → tags.length = made.length → tags.Nodup →
        (∀ x ∈ verdicts, ∀ q via, x.1 = .port q via →
          ∀ j ∈ s.queue q f.cls, j ∉ tags ∧ ∀ k, s.copy j = some k → k.frame ≠ f.first) →
        (made = [] →
          ∃ t, exec (.takingOfDescriptor p n g) s = .next t ∧
            s.noFrame s0 t f (s.depthAsks f l) own (s0.countVerdicts f.tenant verdicts)) ∧
          (made ≠ [] →
            ∃ t, exec (.takingOfDescriptor p n g) s = .next t ∧
              s.entered s0 t f made.length (allPorts.filter fun q => made.any fun x => x.same (.port q none))
                (s.depthAsks f l) own ((s0.countAdmitted f.colour f.tenant).countVerdicts f.tenant verdicts) ∧
              (∀ x ∈ tags.zip made,
                match x.2 with
                | .port q via =>
                  t.copy x.1 = some (s.queuedCopy f q via) ∧ t.queue q f.cls = s.queue q f.cls ++ [x.1]
                | .held grp =>
                  t.copy x.1 = some (s.heldCopy f grp) ∧ t.heldCopies grp = s.heldCopies grp ++ [x.1]
                | .deep _ _ _ => False) ∧
              (∀ j, j ∉ tags → t.copy j = s.copy j) ∧ Runs.toList t.cells.freeCopies = tail ∧
              (∀ (r : Port) (c : Cls), ¬(made.any (fun x => x.same (.port r none)) = true ∧ c = f.cls) →
                t.queue r c = s.queue r c) ∧
              (∀ h : GroupId, made.any (fun x => x.same (.held h)) = false → t.heldCopies h = s.heldCopies h) ∧
              (∀ r : Port, t.egressPort r =
                if made.any (fun x => x.same (.port r none)) then
                  { s.egressPort r with owed := (s.egressPort r).owed + 1 }
                else s.egressPort r) ∧
              t.failover = { s.failover with hold := t.failover.hold } ∧
              s.sameOutside [.cells, .intake, .lookup, .admission, .queues, .failover, .acct, .notices, .bus] t)

/-! ## Egress -/

/-- Post attempts that post nothing (R100 to R103; the count of attempts called for is the model's, log entry 9). One
for a port that is not eligible does nothing. One that finds no fresh copy, class 0 and every class the 64 phases name
empty or stale throughout, discards those stale copies, class 0 first, then as the phases name their classes: each is
retired under STALE with the effects of R16 and R17, the new free count reported once behind them, one refill run
following. The phase pointer stands where the scan began, a pending schedule adopted at the wrap or, the queues emptied,
there and then (R98; how the scan then goes on is log entry 14). What a running walk keeps of its place as the copies
leave is log entry 13. That each free-cell entry is a write of its own, where R4 lets several of one run travel in one,
is the model's choice (log entry 7). -/
def Obligations.AttemptsThatPostNothing : Prop :=
  ∀ (p : Port) (s : State), s.quiet → 0 < (s.egressPort p).owed →
    (s.eligible p = false →
      exec (.postAttempt p) s =
        .next { s with
                queues := { s.queues with
                  ports := s.queues.ports.setD p { s.egressPort p with owed := (s.egressPort p).owed - 1 }
                    EgressPort.powerOn } }) ∧
      ∀ (order : List Cls) (d : List (Cls × Nat)) (tags : List Nat) (base : State), s.eligible p = true →
        (s.egressPort p).phase < 64 → order = 0 :: (s.classesAhead p 64).eraseDups →
        (∀ c ∈ order, s.freshQueue p c = []) → d = s.discards p order → tags = d.map (·.2) → s.discardable p tags →
        base = s.settled (tags.flatMap s.freedByTag) →
        ∃ t, exec (.postAttempt p) s = .next t ∧
          t.egressPort p = { s.scannedThrough p order with owed := (s.egressPort p).owed - 1 } ∧
          (∀ c : Cls, t.queue p c = if c ∈ order then [] else s.queue p c) ∧
          (∀ q : Port, q ≠ p → t.egressPort q = s.egressPort q ∧ ∀ c : Cls, t.queue q c = s.queue q c) ∧
          s.discarded t base tags ∧ (∀ j, j ∉ tags → t.copy j = s.copy j) ∧
          t.failover =
            { s.failover with walk := s.failover.walk.map fun v => d.foldl (fun v x => v.forget p x.1 x.2) v } ∧
          s.delivers t base [] [] ∧
          (tags = [] → t.queues.queues = s.queues.queues ∧ s.sameOutside [.queues] t) ∧
          s.sameOutside [.cells, .admission, .queues, .failover, .acct, .notices, .bus] t

/-- POST_ATTEMPT that posts (R102 to R105): the first copy of class 0 that is not stale, ahead of every phase, the phase
pointer standing; or, class 0 empty or stale throughout, the first fresh copy of the class named by the first phase from
the pointer on whose class has one, the pointer advancing to the place behind that phase. An advance from phase 63
returns to phase 0 and adopts a pending schedule, from which the phases behind the wrap are read (R98). The stale copies
met at the heads are retired under STALE with the effects of R16 and R17, one report of the free count and one refill
run. The copy is posted into the next write slot: its egress descriptor is written, the slot record takes its tag and
lap, the next write slot advances, a posted count that rises from 0 starts the stall timer, and a further attempt is
called for. Where the post empties the port's four queues, a schedule still pending is adopted and the pointer is at 0
(R98). The attempt counted (log entry 9), the report and refill run between the discards and the post (log entry 10) and
what a walk keeps of its place (log entry 13) are the model's. That each free-cell entry is a write of its own, where R4
lets several of one run travel in one, is the model's choice (log entry 7). -/
def Obligations.StrictClassIsPosted : Prop :=
  ∀ (p : Port) (s : State) (c : Cls) (ahead i tag : Nat) (rest : List Nat) (k : Copy) (f : Frame) (e : EgressPort)
    (order : List Cls) (d : List (Cls × Nat)) (tags : List Nat) (base : State),
    s.quiet → 0 < (s.egressPort p).owed → s.eligible p = true → s.freshQueue p c = tag :: rest →
    s.copy tag = some k → k.cls = c → s.frame k.frame = some f → (s.egressPort p).phase < 64 →
    (if c = 0 then ahead = 0 ∧ order = [0]
      else
        ahead = i + 1 ∧ i < 64 ∧ order = 0 :: (s.classesAhead p (i + 1)).eraseDups ∧ s.freshQueue p 0 = [] ∧
          (s.phaseAhead p i).cls? = some c ∧ ∀ j < i, ∀ b, (s.phaseAhead p j).cls? = some b → s.freshQueue p b = []) →
    d = s.discards p order → tags = d.map (·.2) → s.discardable p tags →
    (∀ j ∈ tags, (s.copy j).map (fun m => m.frame) ≠ some k.frame) →
    base =
      (s.settled (tags.flatMap s.freedByTag)).emit (egressOffset p (s.egressPort p).nextWrite)
        (descriptorBytes tag k f (s.egressPort p).lap) →
    e =
      { s.advanced p ahead with
        slots := (s.egressPort p).slots.put (s.egressPort p).nextWrite ⟨tag, (s.egressPort p).lap⟩
        nextWrite := if (s.egressPort p).nextWrite ≥ 255 then 0 else (s.egressPort p).nextWrite + 1
        lap := if (s.egressPort p).nextWrite ≥ 255 then !(s.egressPort p).lap else (s.egressPort p).lap } →
    ∃ t, exec (.postAttempt p) s = .next t ∧
      t.copy tag = some { k with state := .posted } ∧ (∀ j, j ≠ tag → j ∉ tags → t.copy j = s.copy j) ∧
      (∀ b : Cls, t.queue p b = if b = c then rest else if b ∈ order then [] else s.queue p b) ∧
      t.egressPort p =
        (if e.pendingSched = true ∧ ∀ b : Cls, t.queue p b = [] then
          { e with schedule := s.scheduleProfile (s.portEntry p).schedProfile, pendingSched := false, phase := 0 }
        else e) ∧
      t.livePort p =
        (if s.postedCount p = 0 then
          { s.livePort p with stall := some (s.expiry (s.portEntry p).stall) } else s.livePort p) ∧
      (∀ q : Port, q ≠ p → t.egressPort q = s.egressPort q ∧ t.livePort q = s.livePort q ∧
        ∀ b : Cls, t.queue q b = s.queue q b) ∧
      s.discarded t base tags ∧ s.delivers t base [] [] ∧
      t.failover =
        { s.failover with
          walk := s.failover.walk.map fun v => (d.foldl (fun v x => v.forget p x.1 x.2) v).forget p c tag } ∧
      (tags = [] →
        t.cells = { s.cells with copies := t.cells.copies } ∧
          s.sameOutside [.cells, .queues, .live, .failover, .bus] t) ∧
      s.sameOutside [.cells, .admission, .queues, .live, .failover, .acct, .notices, .bus] t

/-- What an attempt asks of a port and of a candidate. A port is eligible exactly when it is UP, its posted count is below
its window, the next write slot's record is empty, and some class queue is not (R100). A candidate is stale exactly when the
age limit of its class in the port's queue profile is not 0 and its age, now less its enqueue time modulo 2^32, exceeds that
limit (R103). The strict choice (R102 step 1): of a class 0 queue without repeats, the stale copies at its head are
discarded and the first copy that is not stale is chosen. The phase scan (R102 step 2): of queues without repeats, it goes
through the classes that the 64 phases name, in their order, discards all of one that holds no fresh copy, and in the first
that holds one chooses its first copy that is not stale, the stale ones ahead of it discarded. -/
def Obligations.StrictChoiceIsFirstFresh : Prop :=
  (∀ (p : Port) (s : State),
      s.eligible p = true ↔
        s.liveness p = .up ∧ s.postedCount p < (s.portEntry p).window ∧
          (s.egressPort p).slots.find (s.egressPort p).nextWrite = none ∧ ∃ c : Cls, s.queue p c ≠ []) ∧
    (∀ (p : Port) (c : Cls) (tag : Nat) (k : Copy) (e : QueueProfile) (s : State), s.copy tag = some k →
      e = s.tables.queueProfiles.getD (4 * (s.portEntry p).queueProfile + c) QueueProfile.powerOn →
      (s.isStale p c tag = true ↔ e.ageLimit ≠ 0 ∧ e.ageLimit < (s.live.timebase - k.enqueued).toNat)) ∧
    (∀ (p : Port) (s : State), (s.queue p 0).Nodup →
      (s.strictPick p (s.waiting p + 1)).1 = (s.queue p 0).find? (fun tag => !s.isStale p 0 tag) ∧
        (s.strictPick p (s.waiting p + 1)).2.queue p 0 = (s.queue p 0).dropWhile (fun tag => s.isStale p 0 tag)) ∧
    ∀ (p : Port) (s : State) (r : Option Nat × State) (empty left : List Cls), (allClasses.flatMap (s.queue p)).Nodup →
      (s.egressPort p).phase < 64 → r = s.scanPick p (64 + s.waiting p + 1) 64 →
      empty = (s.classesAhead p 64).takeWhile (fun c => decide (s.freshQueue p c = [])) →
      s.classesAhead p 64 = empty ++ left →
      r.1 = left.head?.bind (fun c => (s.freshQueue p c).head?) ∧
        ∀ c : Cls, r.2.queue p c = if c ∈ empty ∨ left.head? = some c then s.freshQueue p c else s.queue p c

/-- A stray completion (R107): the tag echoed differs, so the copy stays POSTED and STRAY_COMPLETION is asked for, which a
full ring loses with the gap flag set (R175); nothing else changes. -/
def Obligations.StrayCompletionKeepsCopy : Prop :=
  ∀ (p : Port) (n : RingSlot) (g : Lanes) (s : State) (rec : SlotRecord), s.quiet → s.completes p n g = some rec →
    (CompletionWord.read g).echo ≠ rec.tag →
    exec (.completion p n g) s =
      .next
        (s.telling [s.crossing (egressOffset p n) g]
          [{ kind := .strayCompletion, subject := p, first := 2 ^ 24 * n + rec.tag,
             second := 2 ^ 24 * (CompletionWord.read g).status + (CompletionWord.read g).echo }])

/-- COMPLETION with a matching tag and a status other than ABORTED, on a port in any liveness state (R108, R16, R17,
R110, R154, R120, R123): the slot is emptied and the copy retired, SENT with the delivery counted and charged in the
live bank, ERROR or an unknown status under EGRESS_ERROR with no charge; its record joins the tail of the free copy
list, and the frame loses the copy and the port. With the frame's last copy the frame goes, its cells are freed in frame
order, the new free count is reported and a refill run follows. The stall timer of a port that is UP restarts or stops;
a STALLED port goes to TRIAL, with PORT_STATE of cause COMPLETION; any other port stands. A post attempt is called for.
The model's are the attempt counted (log entry 9), the report and refill run ahead of the liveness monitor's notices
(log entry 10), and the order of those notices: PORT_STATE, then GROUP_STATE in ascending group number (log entries 11
and 23). That each free-cell entry is a write of its own, where R4 lets several of one run travel in one, is the model's
choice (log entry 7). -/
def Obligations.SentCopyIsRetired : Prop :=
  ∀ (p : Port) (n : RingSlot) (g : Lanes) (s : State) (rec : SlotRecord) (k : Copy) (f : Frame), s.quiet →
    s.completes p n g = some rec → (CompletionWord.read g).echo = rec.tag → (CompletionWord.read g).status ≠ 3 →
    s.copy rec.tag = some k → k.port = some p → s.frame k.frame = some f →
    ∃ t, exec (.completion p n g) s = .next t ∧
      t.egressPort p =
        { s.egressPort p with slots := (s.egressPort p).slots.erase n, owed := (s.egressPort p).owed + 1 } ∧
      (∀ q : Port, q ≠ p → t.egressPort q = s.egressPort q) ∧
      s.lostCopy t rec.tag k f
        (if (CompletionWord.read g).status = 1 then s.countDelivered f.tenant f.length f.colour k.cls k.mark
          else s.countDrop .egressError f.tenant) ∧
      (∀ j, j ≠ rec.tag → t.copy j = s.copy j) ∧ (∀ j, j ≠ k.frame → t.frame j = s.frame j) ∧
      t.queues.queues = s.queues.queues ∧ t.failover.hold = s.failover.hold ∧
      s.completed t p n g (s.freedBy k.frame f)

/-- The retirement of a frame's last copy (R16, R17): the frame record goes, its cells join the tail of the free list in
frame order and leave the link map, and the tenant's held cell count falls by the frame's cell count. -/
def Obligations.LastRetirementFreesFrame : Prop :=
  ∀ (s : State) (tag : Nat) (cause : RetireCause) (k : Copy) (f : Frame), s.copy tag = some k →
    s.frame k.frame = some f → f.copyCount ≤ 1 →
    (s.retire tag cause).frame k.frame = none ∧ (s.retire tag cause).copy tag = none ∧
      Runs.toList (s.retire tag cause).cells.freeCopies = Runs.toList s.cells.freeCopies ++ [tag] ∧
      Runs.toList (s.retire tag cause).cells.freeList =
        Runs.toList s.cells.freeList ++ linkedCells s.cells.links s.cells.links.length k.frame ∧
      (∀ c ∈ linkedCells s.cells.links s.cells.links.length k.frame,
        (s.retire tag cause).cells.links.find c = none) ∧
      (s.retire tag cause).heldCells f.tenant = s.heldCells f.tenant - f.cellCount ∧
      (s.retire tag cause).acct = (s.countRetired cause f k).acct ∧
      (∀ j, j ≠ tag → (s.retire tag cause).copy j = s.copy j) ∧
      (∀ j, j ≠ k.frame → (s.retire tag cause).frame j = s.frame j) ∧
      (∀ n : Tenant, n ≠ f.tenant → (s.retire tag cause).heldCells n = s.heldCells n) ∧
      (s.retire tag cause).admission.meters = s.admission.meters ∧
      s.sameOutside [.cells, .admission, .acct] (s.retire tag cause)

/-- COMPLETION with status ABORTED, on a port in any liveness state. Of a direct copy (R109): the port's drained mark
clear, the copy returns to the head of its own queue and becomes QUEUED, the frame unchanged; the mark set, it is
retired under PORT_DOWN. Of a via-group copy: a late abort (R143). While the work list holds an entry or a walk runs,
the copy becomes HELD at the end of its group's list, or, the hold pool full, is retired under HOLD_FULL. Otherwise it
is re-chosen: retired under NO_PATH or MERGED, or QUEUED at the tail of its class queue on the port chosen, which may be
the port itself. A retirement of a frame's last copy frees its cells (R17). The stall timer and the liveness state
follow as after any completion (R110, R120, R123). The model's are the post attempts counted, one for each port
concerned (log entry 9), the report and refill run ahead of the liveness monitor's notices (log entry 10), and the order
of those notices: PORT_STATE, then GROUP_STATE in ascending group number (log entries 11 and 23). That each free-cell
entry is a write of its own, where R4 lets several of one run travel in one, is the model's choice (log entry 7). -/
def Obligations.AbortedDirectCopyReturnsToHead : Prop :=
  ∀ (p : Port) (n : RingSlot) (g : Lanes) (s : State) (rec : SlotRecord) (k : Copy), s.quiet →
    s.completes p n g = some rec → (CompletionWord.read g).echo = rec.tag → (CompletionWord.read g).status = 3 →
    s.copy rec.tag = some k →
    (k.via = none → s.isDrained p = false →
      ∃ t, exec (.completion p n g) s = .next t ∧
        t.copy rec.tag = some { k with state := .queued } ∧ (∀ j, j ≠ rec.tag → t.copy j = s.copy j) ∧
        t.queue p k.cls = rec.tag :: s.queue p k.cls ∧
        (∀ (q : Port) (c : Cls), (q, c) ≠ (p, k.cls) → t.queue q c = s.queue q c) ∧
        t.egressPort p =
          { s.egressPort p with slots := (s.egressPort p).slots.erase n, owed := (s.egressPort p).owed + 1 } ∧
        (∀ q : Port, q ≠ p → t.egressPort q = s.egressPort q) ∧
        t.cells = { s.cells with copies := t.cells.copies } ∧ t.failover.hold = s.failover.hold ∧
        s.completed t p n g [] ∧ s.sameOutside [.cells, .queues, .live, .failover, .notices, .bus] t) ∧
      (∀ f : Frame, k.via = none → s.isDrained p = true → k.port = some p → s.frame k.frame = some f →
        ∃ t, exec (.completion p n g) s = .next t ∧
          s.lostCopy t rec.tag k f (s.countDrop .portDown f.tenant) ∧
          (∀ j, j ≠ rec.tag → t.copy j = s.copy j) ∧ (∀ j, j ≠ k.frame → t.frame j = s.frame j) ∧
          t.egressPort p =
            { s.egressPort p with slots := (s.egressPort p).slots.erase n, owed := (s.egressPort p).owed + 1 } ∧
          (∀ q : Port, q ≠ p → t.egressPort q = s.egressPort q) ∧ t.queues.queues = s.queues.queues ∧
          t.failover.hold = s.failover.hold ∧ s.completed t p n g (s.freedBy k.frame f)) ∧
      ∀ (grp : GroupId) (f : Frame) (ports : List Port), k.via = some grp → k.port = some p →
        s.frame k.frame = some f → ports = f.ports.filter (· ≠ p) →
        ∃ t, exec (.completion p n g) s = .next t ∧
          (∀ j, j ≠ rec.tag → t.copy j = s.copy j) ∧ (∀ j, j ≠ k.frame → t.frame j = s.frame j) ∧
          (∀ q : Port, t.egressPort q =
            { s.egressPort q with
              slots := if q = p then (s.egressPort p).slots.erase n else (s.egressPort q).slots
              owed := (s.egressPort q).owed +
                if q = p ∨ (∃ c, rec.tag ∈ t.queue q c ∧ t.queue q c ≠ s.queue q c) then 1 else 0 }) ∧
          (if s.failover.work ≠ [] ∨ s.failover.walk.isSome = true then
            if s.holdCount < 4096 then
              t.copy rec.tag = some { k with state := .held, port := none } ∧
                t.frame k.frame = some { f with ports := ports } ∧
                t.heldCopies grp = s.heldCopies grp ++ [rec.tag] ∧
                (∀ h : GroupId, h ≠ grp → t.heldCopies h = s.heldCopies h) ∧
                t.queues.queues = s.queues.queues ∧ t.acct = s.acct ∧ t.admission = s.admission ∧
                t.cells = { s.cells with frames := t.cells.frames, copies := t.cells.copies } ∧
                s.completed t p n g []
            else
              s.lostCopy t rec.tag k f (s.countDrop .holdFull f.tenant) ∧ t.queues.queues = s.queues.queues ∧
                t.failover.hold = s.failover.hold ∧ s.completed t p n g (s.freedBy k.frame f)
          else
            t.failover.hold = s.failover.hold ∧
              match s.memberChoice grp f.flowHash with
              | none =>
                s.lostCopy t rec.tag k f (s.countDrop .noPath f.tenant) ∧ t.queues.queues = s.queues.queues ∧
                  s.completed t p n g (s.freedBy k.frame f)
              | some q =>
                if q ∈ ports then
                  s.lostCopy t rec.tag k f (s.countMerged f.tenant) ∧ t.queues.queues = s.queues.queues ∧
                    s.completed t p n g (s.freedBy k.frame f)
                else
                  t.copy rec.tag = some { k with state := .queued, port := some q } ∧
                    t.frame k.frame = some { f with ports := addPort q ports } ∧
                    t.queue q k.cls = s.queue q k.cls ++ [rec.tag] ∧
                    (∀ (r : Port) (c : Cls), (r, c) ≠ (q, k.cls) → t.queue r c = s.queue r c) ∧
                    t.acct = s.acct ∧ t.admission = s.admission ∧
                    t.cells = { s.cells with frames := t.cells.frames, copies := t.cells.copies } ∧
                    s.completed t p n g [])

/-! ## Liveness -/

/-- STATUS_WORD taken (R117, R118, R119, R124): the change count is recorded. Link UP moves a port that is DOWN to TRIAL
and starts its trial timer, and leaves a port in any other state in it. Link DOWN takes the port to DOWN as the state it
leaves decides. A change of state recomputes the port's groups and posts PORT_STATE with its cause, and GROUP_STATE for
each group whose state changes (R116, R132; the order of the notices is log entries 11 and 23). No queue, copy or counter
changes. -/
def Obligations.StatusWordOutcome : Prop :=
  ∀ (p : Port) (g : Lanes) (s : State), s.path.mode = .active → allStrobes g 60 4 = true →
    s.liveness p ≠ .adminDown →
    ∃ t, exec (.statusWord p g) s = .next t ∧ (t.livePort p).changeCount = statusChangeCount g ∧
      (statusLinkUp g = true →
        t.livePort p =
          (if s.liveness p = .down then
            { s.livePort p with state := .trial, changeCount := statusChangeCount g,
                                trial := some (s.expiry (s.portEntry p).trial) }
          else { s.livePort p with changeCount := statusChangeCount g }) ∧
        t.failover.work = s.failover.work ∧ t.lookup = s.lookup) ∧
      (statusLinkUp g = false → s.outOfService t p .down ∧ t.liveness p = .down) ∧
      (∀ q : Port, q ≠ p → t.livePort q = s.livePort q) ∧ t.failover.hold = s.failover.hold ∧
      t.failover.walk = s.failover.walk ∧ t.failover.drained = s.failover.drained ∧ s.groupsFollow t p ∧
      (s.quiet → s.sends t [s.crossing (statusOffset p) g] (s.liveAsks t p .status) []) ∧
      s.sameOutside [.live, .lookup, .failover, .notices, .bus] t

/-- TRIAL_EXPIRY (R119, R125): the port becomes UP; its trial and drain timers stop; its entries leave the work list;
its drained mark clears unless a drain walk of it runs; its stall timer starts if copies are posted on it; PORT_STATE is
posted, its groups are recomputed with GROUP_STATE for each that changes (R116, R132), and a post attempt is called for.
Where its entries were the last of the work list and no walk runs, the calm point is reached and the hold pool is
released (R133, R145): behind the notices so far the freed cells join the free list, the new free count is reported
once, and a refill run follows with its free-cell entries (R4, R17); otherwise nothing else changes. When the expiry is
due is log entry 8, the attempts counted are the model's (log entry 9), the report and refill run behind the notices and
the release are log entry 10, the state of its groups beside a running drain walk of it is log entry 24, and the order
of GROUP_STATE notices is log entries 20 and 23. That each free-cell entry is a write of its own, where R4 lets several
of one run travel in one, is the model's choice (log entry 7). -/
def Obligations.TrialExpiryBringsPortUp : Prop :=
  ∀ (p : Port) (s : State), s.quiet → s.liveness p = .trial → due (s.livePort p).trial s.now = true →
    ∃ t, exec (.trialExpiry p) s = .next t ∧
      t.livePort p =
        { s.livePort p with state := .up, trial := none, drain := none,
                            stall := if 0 < s.postedCount p then some (s.expiry (s.portEntry p).stall)
                              else (s.livePort p).stall } ∧
      (∀ q : Port, q ≠ p → t.livePort q = s.livePort q) ∧
      t.failover.work = s.failover.work.filter (fun e => e.1 ≠ p) ∧
      (t.isDrained p = if s.drainWalkOf p then s.isDrained p else false) ∧
      (∀ q : Port, q ≠ p → t.isDrained q = s.isDrained q) ∧ t.failover.walk = s.failover.walk ∧
      (s.egressPort p).owed < (t.egressPort p).owed ∧
      s.sameOutside [.cells, .admission, .queues, .live, .failover, .acct, .notices, .bus] t ∧
      (if s.failover.walk = none ∧ s.failover.work ≠ [] ∧ ∀ e ∈ s.failover.work, e.1 = p then
        s.released t ∧
          s.releaseSends t
            (s.liveAsks t p .trialExpiry ++ s.groupAsks t (allGroups.filter fun g => decide (g ∉ s.groupsOf p))) ∧
          (s.holdSound → ∀ q : Port, t.egressPort q =
            { s.egressPort q with
              owed := (s.egressPort q).owed +
                if q = p ∨ s.heldTags.any (fun j => decide (s.releasePort t j = some q)) then 1 else 0 })
      else
        s.groupsFollow t p ∧ s.sends t [] (s.liveAsks t p .trialExpiry) [] ∧
          t.failover.hold = s.failover.hold ∧
          s.sameOutside [.queues, .live, .failover, .notices, .bus] t ∧ t.queues.queues = s.queues.queues ∧
          ∀ q : Port, t.egressPort q =
            { s.egressPort q with owed := (s.egressPort q).owed + if q = p then 1 else 0 })

/-- STALL_EXPIRY (R121, R124): the port becomes STALLED, its evacuation entry is appended unless it stands, its drain timer
starts, its stall timer stops; PORT_STATE is posted and its groups are recomputed, with GROUP_STATE for each that changes
(R116, R132); no flush is asked for, and its queued and posted copies stay. When the expiry is due is log entry 8, and the
order of the GROUP_STATE notices log entry 23. -/
def Obligations.StallExpiryStallsPort : Prop :=
  ∀ (p : Port) (s : State), s.quiet → s.liveness p = .up → due (s.livePort p).stall s.now = true →
    ∃ t, exec (.stallExpiry p) s = .next t ∧
      t.livePort p =
        { s.livePort p with state := .stalled, stall := none, drain := some (s.expiry (s.portEntry p).drain) } ∧
      (∀ q : Port, q ≠ p → t.livePort q = s.livePort q) ∧
      t.failover.work =
        (if (p, WorkKind.evacuate) ∈ s.failover.work then s.failover.work
          else s.failover.work ++ [(p, .evacuate)]) ∧
      t.failover.hold = s.failover.hold ∧ t.failover.walk = s.failover.walk ∧
      t.failover.drained = s.failover.drained ∧ s.groupsFollow t p ∧
      s.sends t [] (s.liveAsks t p .stallExpiry) [] ∧ s.sameOutside [.live, .failover, .notices, .bus] t

/-- DRAIN_EXPIRY (R127, R115): the timer stops and (p, DRAIN) is appended to the work list unless it stands there; the
port's state is unchanged and no notice is posted. When the expiry is due is log entry 8. -/
def Obligations.DrainExpiryAppendsWork : Prop :=
  ∀ (p : Port) (s : State), s.quiet → s.liveness p ≠ .up → due (s.livePort p).drain s.now = true →
    exec (.drainExpiry p) s =
      .next { s with
              live := { s.live with ports := s.live.ports.setD p { s.livePort p with drain := none } LivePort.powerOn }
              failover := { s.failover with
                work :=
                  if (p, WorkKind.drain) ∈ s.failover.work then s.failover.work
                  else s.failover.work ++ [(p, .drain)] } }

/-! ## Failover -/

/-- WALK_START (R134, R140, R141): with no walk running, the head entry of the work list becomes the running walk with the
tail of each class queue recorded, at class 0 and the head; a drain walk sets the drained mark; the port's groups are
recomputed, and each whose state changes posts GROUP_STATE (R132; in ascending order, log entry 23). -/
def Obligations.WalkStartTakesHeadEntry : Prop :=
  ∀ (s : State) (p : Port) (k : WorkKind) (rest : List (Port × WorkKind)), s.quiet → s.failover.walk = none →
    s.failover.work = (p, k) :: rest →
    ∃ t, exec .walkStart s = .next t ∧ t.failover.work = rest ∧
      t.failover.walk =
        some { port := p, kind := k, tails := [0, 1, 2, 3].map (fun c => (s.queue p c).getLast?), cls := 0,
               resume := none } ∧
      (∀ q : Port, t.isDrained q = if q = p ∧ k = .drain then true else s.isDrained q) ∧
      t.failover.hold = s.failover.hold ∧ s.recomputed t (s.groupsOf p) ∧
      s.sends t [] (s.groupAsks t (s.groupsOf p)) [] ∧ s.sameOutside [.failover, .notices, .bus] t

/-- Steps of a walk of either kind. The last visit, at class 3, of a copy that is its class's recorded tail, and the end
of the walk behind it (R136 to R140, R147): the copy is left in place, a direct one of an evacuation or a via-group one
chosen for the port itself; or retired, under PORT_DOWN a direct one of a drain, under NO_PATH or MERGED a via-group
one, with its frame's cells freed where it was the last copy (R17); or moved to the tail of its class queue on the port
chosen, its fields kept, and a post attempt called for. Queues that are emptied adopt a pending schedule (R98). The
groups of the walk's port are recomputed, the walk of the next entry of the work list starts, and the groups of its port
are recomputed, with GROUP_STATE for each group that changes (R132, R134, R139). A step that has made 32 visits with
more to visit ends with the resume point at the last visited copy that is still in the queue, or where it stood (R135,
R136): of the 32 each is treated as the rules say, those moved joining their new queues in order. A walk of either kind
that ends with the work list empty, here one with nothing left to visit, brings the calm point: the hold pool is
released, with one report of the free count and one refill run where cells are freed (R4, R17, R139, R145). The model's
are the attempts counted (log entry 9), the report and refill run at the end of the step, behind the GROUP_STATE notices
(log entry 10), and the order of the groups recomputed (log entries 20 and 23). That each free-cell entry is a write of
its own, where R4 lets several of one run travel in one, is the model's choice (log entry 7). -/
def Obligations.WalkStepsTreatLastCopy : Prop :=
  (∀ (s : State) (w : Walk) (p : Port) (tag : Nat) (k : Copy) (f : Frame) (next : Port × WorkKind)
    (rest : List (Port × WorkKind)),
    s.quiet → s.failover.walk = some w → w.port = p → w.cls = 3 → w.resume = none → w.tails.getD 3 none = some tag →
    s.queue p 3 = [tag] → s.copy tag = some k → k.cls = 3 → k.port = some p → s.frame k.frame = some f →
    s.failover.work = next :: rest →
    ∃ t, exec (walkRow w.kind) s = .next t ∧
      (∀ j, j ≠ tag → t.copy j = s.copy j) ∧ (∀ j, j ≠ k.frame → t.frame j = s.frame j) ∧
      (∀ (r : Port) (c : Cls), ¬(c = 3 ∧ (r = p ∨ s.treats w.kind p k f = .moves r)) → t.queue r c = s.queue r c) ∧
      (∀ r : Port, r ≠ p → t.egressPort r =
        { s.egressPort r with
          owed := (s.egressPort r).owed + if s.treats w.kind p k f = .moves r then 1 else 0 }) ∧
      t.egressPort p =
        s.adoptedIf p (s.treats w.kind p k f ≠ .stays ∧ s.queue p 0 = [] ∧ s.queue p 1 = [] ∧ s.queue p 2 = []) ∧
      t.failover.hold = s.failover.hold ∧ t.failover.work = rest ∧
      t.failover.walk.map (fun v => (v.port, v.kind)) = some next ∧
      s.recomputed t (s.groupsOf p ++ s.groupsOf next.1) ∧
      s.sameOutside [.cells, .admission, .queues, .failover, .acct, .notices, .bus] t ∧
      ∀ base : State,
        base = s.noticed
          (s.groupAsks t (s.groupsOf p) ++
            s.groupAsks t ((s.groupsOf next.1).filter fun h => decide (h ∉ s.groupsOf p))) →
        (match s.treats w.kind p k f with
          | .stays =>
            t.queue p 3 = [tag] ∧ t.cells = s.cells ∧ t.acct = s.acct ∧ t.admission = s.admission ∧
              s.delivers t base [] []
          | .retires cause =>
            t.queue p 3 = [] ∧ s.lostCopy t tag k f (s.countRetired cause f k) ∧
              t.suppliesOf (base.settled (s.freedBy k.frame f)) ∧
              s.delivers t (base.settled (s.freedBy k.frame f)) [] []
          | .moves q =>
            t.queue p 3 = [] ∧ t.queue q 3 = s.queue q 3 ++ [tag] ∧
              t.copy tag = some { k with state := .queued, port := some q } ∧
              t.frame k.frame = some { f with ports := addPort q (f.ports.filter (· ≠ p)) } ∧
              t.cells = { s.cells with frames := t.cells.frames, copies := t.cells.copies } ∧ t.acct = s.acct ∧
              t.admission = s.admission ∧ s.delivers t base [] [])) ∧
    (∀ (s : State) (w : Walk) (p : Port) (c : Cls) (before visited rest : List Nat) (tail : Nat),
      s.quiet → s.failover.walk = some w → w.port = p → w.cls = c → w.resume = before.getLast? →
      s.queue p c = before ++ visited ++ rest → (s.queue p c).Nodup → visited.length = 32 →
      w.tails.getD c none = some tail → tail ∈ rest →
      (∀ j ∈ visited, ∃ k, s.copy j = some k ∧ k.cls = c ∧ k.port = some p ∧
        (s.frame k.frame).isSome = true) →
      visited.Pairwise (fun i j => (s.copy i).map (fun k => k.frame) ≠ (s.copy j).map (fun k => k.frame)) →
      ∃ t, exec (walkRow w.kind) s = .next t ∧
        t.failover =
          { s.failover with
            walk := some { w with
              resume := (visited.filter fun j => decide (s.treatsTag w.kind p j = .stays)).getLast?.or w.resume } } ∧
        t.queue p c = before ++ (visited.filter fun j => decide (s.treatsTag w.kind p j = .stays)) ++ rest ∧
        (∀ b : Cls, b ≠ c → t.queue p b = s.queue p b) ∧ t.egressPort p = s.egressPort p ∧
        (∀ q : Port, q ≠ p → ∀ b : Cls, t.queue q b =
          s.queue q b ++
            if b = c then visited.filter (fun j => decide (s.treatsTag w.kind p j = .moves q)) else []) ∧
        (∀ q : Port, q ≠ p → t.egressPort q =
          { s.egressPort q with
            owed := (s.egressPort q).owed +
              if visited.any (fun j => decide (s.treatsTag w.kind p j = .moves q)) then 1 else 0 }) ∧
        (∀ j, j ∉ visited → t.copy j = s.copy j) ∧
        (∀ j ∈ visited, t.copy j =
          match s.treatsTag w.kind p j with
          | .stays => s.copy j
          | .retires _ => none
          | .moves q => (s.copy j).map fun k => { k with state := .queued, port := some q }) ∧
        t.acct =
          (visited.foldl (fun a j =>
            match s.treatsTag w.kind p j with
            | .retires cause => s.countTag a cause j
            | _ => a) s).acct ∧
        s.sameOutside [.cells, .admission, .queues, .failover, .acct, .notices, .bus] t) ∧
    ∀ (s : State) (w : Walk), s.quiet → s.failover.walk = some w → w.cls = 3 → w.tails.getD 3 none = none →
      s.failover.work = [] →
      ∃ t, exec (walkRow w.kind) s = .next t ∧
        t.failover.walk = none ∧ t.failover.work = [] ∧ t.failover.drained = s.failover.drained ∧ s.released t ∧
        s.releaseSends t
          (s.groupAsks t (s.groupsOf w.port) ++
            s.groupAsks t (allGroups.filter fun h => decide (h ∉ s.groupsOf w.port))) ∧
        (s.holdSound → ∀ q : Port, t.egressPort q =
          { s.egressPort q with
            owed := (s.egressPort q).owed +
              if s.heldTags.any (fun j => decide (s.releasePort t j = some q)) then 1 else 0 }) ∧
        s.sameOutside [.cells, .admission, .queues, .failover, .acct, .notices, .bus] t

/-- Member choice (R131): no choice exactly when no member is UP; an ORDERED group gives the first member in list order
that is UP; a SPREAD group gives the usable member of index h16 times their number shifted right by 16 places. What is
chosen is a member that is UP. Group state (R132): what a recompute finds is EVACUATING exactly when some member has an
EVACUATE entry on the work list or is the port of the running evacuation walk, otherwise ACTIVE where some member is UP and
DARK where none is; a recompute makes it the group's state, and a change posts GROUP_STATE. That an evacuation walk alone
counts, and no drain walk, is R132 against R147 (log entry 24). -/
def Obligations.MemberChoiceIsUsable : Prop :=
  (∀ (s : State) (g : GroupId) (h : Nat), h < 2 ^ 16 →
    (s.memberChoice g h = none ↔ ∀ m ∈ (s.groupEntry g).ports, s.liveness m ≠ .up) ∧
      (∀ m, s.memberChoice g h = some m → m ∈ (s.groupEntry g).ports ∧ s.liveness m = .up) ∧
      ((s.groupEntry g).mode = .ordered →
        s.memberChoice g h = (s.groupEntry g).ports.find? fun m => decide (s.liveness m = .up)) ∧
      ((s.groupEntry g).mode = .spread →
        s.memberChoice g h =
          ((s.groupEntry g).ports.filter fun m => decide (s.liveness m = .up))[
            (h * ((s.groupEntry g).ports.filter fun m => decide (s.liveness m = .up)).length) >>> 16]?)) ∧
    (∀ (s : State) (g : GroupId),
      (s.computeGroup g = .evacuating ↔
          ∃ m ∈ (s.groupEntry g).ports,
            (m, WorkKind.evacuate) ∈ s.failover.work ∨
              ∃ w, s.failover.walk = some w ∧ w.port = m ∧ w.kind = .evacuate) ∧
        (s.computeGroup g ≠ .evacuating →
          (s.computeGroup g = .active ↔ ∃ m ∈ (s.groupEntry g).ports, s.liveness m = .up))) ∧
    ∀ (s : State) (g : GroupId), s.quiet →
      s.recomputed (s.recomputeGroup g) [g] ∧
        s.sends (s.recomputeGroup g).finish [] (s.groupAsks (s.recomputeGroup g) [g]) []

/-! ## Lookup -/

/-- AGING_PERIOD_EXPIRY (R47, R48, R49): the period timer restarts with the installed field, 0 read as 1; with no sweep
running one starts at set 0, otherwise the running sweep goes on and SWEEP_OVERRUN is asked for, which a full ring loses
with the gap flag set (R175). When the expiry is due is log entry 8, and from when the timer runs log entry 18. -/
def Obligations.AgingExpiryStartsSweep : Prop :=
  ∀ s : State, s.quiet → s.path.mode = .active → due s.lookup.agingTimer s.now = true →
    (s.lookup.sweep = none →
      exec .agingPeriodExpiry s =
        .next { s with
                lookup := { s.lookup with
                  agingTimer :=
                    some (s.now + BitVec.ofNat 32 (10000 * max 1 s.tables.globalEntry.agingPeriod))
                  sweep := some 0 } }) ∧
      ∀ c, s.lookup.sweep = some c →
        exec .agingPeriodExpiry s =
          .next
            (({ s with
                lookup := { s.lookup with
                  agingTimer :=
                    some (s.now + BitVec.ofNat 32 (10000 * max 1 s.tables.globalEntry.agingPeriod)) } } :
                State).telling []
              [{ kind := .sweepOverrun, subject := 0, first := c, second := s.tables.globalEntry.agingPeriod }])

/-- AGING_SWEEP_STEP (R48): of the 64 sets at the cursor, a LEARNED entry with its hit flag set keeps its place with hit
flag, move count and LOCKED cleared, one with its hit flag clear is removed, a STATIC entry loses only its conflict
reported flag; entries of other sets stand, and the cursor advances or the sweep ends. -/
def Obligations.SweepStepTreatsEntries : Prop :=
  ∀ (s : State) (c : Nat), Table.sorted s.lookup.stations = true → s.lookup.sweep = some c →
    ∃ t, exec .agingSweepStep s = .next t ∧
      (∀ way, t.lookup.stations.find way =
        (match s.lookup.stations.find way with
          | none => none
          | some e =>
            if c ≤ way / 4 ∧ way / 4 < c + 64 then
              if e.isStatic then some { e with conflict := false }
              else if e.hit then some { e with hit := false, moves := 0, locked := false } else none
            else some e)) ∧
      (∀ n : Tenant, t.learned n =
        s.learned n - (s.lookup.stations.filter fun x =>
          decide (c ≤ x.1 / 4 ∧ x.1 / 4 < c + 64) && !x.2.isStatic && !x.2.hit &&
            decide (x.2.tenant = n)).length) ∧
      t.lookup.sweep = (if c + 64 < 4096 then some (c + 64) else none) ∧
      t.lookup.flushQueue = s.lookup.flushQueue ∧ t.lookup.flushWalk = s.lookup.flushWalk ∧
      t.lookup.agingTimer = s.lookup.agingTimer ∧ (s.quiet → t.bus = s.bus) ∧ s.sameOutside [.lookup, .bus] t

/-- FLUSH_WALK_STEP (R52, R181). Before the last step: of the 64 sets at the cursor each LEARNED entry that matches the
request is removed and counted, every other entry stands, the cursor advances and nothing is written. The last step:
each FLUSH command of the request ends DONE, in ascending slot number, its result value the removal count with the
entries of the last 64 sets in it, written with the status word (R179); no other slot changes, and the next queued walk
starts at set 0. That a result value and its status word are one write is the model's choice (log entry 7). -/
def Obligations.FlushStepOutcome : Prop :=
  ∀ (s : State) (w : FlushWalk) (removed : Nat), Table.sorted s.lookup.stations = true → s.lookup.flushWalk = some w →
    removed =
      w.removed +
        (s.lookup.stations.filter fun x =>
          decide (w.cursor ≤ x.1 / 4 ∧ x.1 / 4 < w.cursor + 64) && !x.2.isStatic && w.item.req.matches x.2).length →
    ∃ t, exec .flushWalkStep s = .next t ∧
      (∀ way, t.lookup.stations.find way =
        (s.lookup.stations.find way).filter fun e =>
          !(decide (w.cursor ≤ way / 4 ∧ way / 4 < w.cursor + 64) && !e.isStatic && w.item.req.matches e)) ∧
      (∀ n : Tenant, t.learned n =
        s.learned n - (s.lookup.stations.filter fun x =>
          decide (w.cursor ≤ x.1 / 4 ∧ x.1 / 4 < w.cursor + 64) && !x.2.isStatic && w.item.req.matches x.2 &&
            decide (x.2.tenant = n)).length) ∧
      (w.cursor + 64 < 4096 →
        t.lookup.flushWalk =
          some { w with cursor := w.cursor + 64, removed := removed } ∧
        t.lookup.flushQueue = s.lookup.flushQueue ∧ t.slots = s.slots ∧ (s.quiet → t.bus = s.bus)) ∧
      (4096 ≤ w.cursor + 64 →
        (∀ k : SlotId, t.slot k = if k ∈ w.item.slots then { s.slot k with status := .done } else s.slot k) ∧
        t.lookup.flushWalk = s.lookup.flushQueue.head?.map (fun i => { item := i, cursor := 0, removed := 0 }) ∧
        t.lookup.flushQueue = s.lookup.flushQueue.tail ∧
        (s.quiet →
          t.bus =
              (s.sending
                ((allSlots.filter fun k => decide (k ∈ w.item.slots)).map fun k =>
                  s.doneWrite k (s.slot k).tag removed).reverse).bus ∧
            ∀ k ∈ w.item.slots,
              t.readBytes (slotOffset k + 52) 8 =
                (leBytes 4 removed ++ leBytes 2 (s.slot k).tag.toNat ++ [(0 : Byte), 2]).map some)) ∧
      t.lookup.sweep = s.lookup.sweep ∧ t.lookup.agingTimer = s.lookup.agingTimer ∧
      s.sameOutside [.lookup, .slots, .bus] t

/-! ## Accounting -/

/-- EXPORT_WALK_STEP, every one (R158, R159, R161): for each of its 16 tenants the closed record is in memory as the
export record and is cleared, and the fraction of its charge is carried into the live bank unless the charge saturated;
other tenants' records stand. A step that is not the last writes the sixteen records in ascending order and nothing
else, and of the walk only the next tenant and the count of saturated records go on. That each record is a write of its
own, where R158 lets the records of a step travel in one or more, is the model's choice (log entry 7). -/
def Obligations.ExportStepWritesAndCarries : Prop :=
  ∀ (s : State) (w : ExportWalk), s.quiet → s.acct.walk = some w → w.nextTenant + 16 ≤ 256 → w.bank ≠ s.acct.live →
    ∃ t, exec .exportWalkStep s = .next t ∧
      (∀ n, w.nextTenant ≤ n → n < w.nextTenant + 16 →
        t.readBytes (exportBank w.bank + 0x40 + 0x40 * n) 64 =
            (exportRecord (s.tenantRecord w.bank n) n w.epoch).map some ∧
          t.tenantRecord w.bank n = TenantRecord.zero ∧
          t.tenantRecord s.acct.live n =
            (if (s.tenantRecord w.bank n).chargeSat then s.tenantRecord s.acct.live n
              else
                { s.tenantRecord s.acct.live n with
                  charge := min (2 ^ 48 - 1)
                    ((s.tenantRecord s.acct.live n).charge + (s.tenantRecord w.bank n).charge % 256)
                  chargeSat := (s.tenantRecord s.acct.live n).chargeSat ||
                    decide (2 ^ 48 - 1 <
                      (s.tenantRecord s.acct.live n).charge + (s.tenantRecord w.bank n).charge % 256) })) ∧
      (∀ n b, n < 256 → ¬(w.nextTenant ≤ n ∧ n < w.nextTenant + 16) → t.tenantRecord b n = s.tenantRecord b n) ∧
      (w.nextTenant + 16 < 256 →
        t.acct.walk =
            some { w with
                   nextTenant := w.nextTenant + 16
                   saturated := w.saturated +
                     ((List.range' w.nextTenant 16).filter fun n => (s.tenantRecord w.bank n).chargeSat).length } ∧
          t.notices = s.notices ∧ t.slots = s.slots ∧
          t.bus =
            (s.sending
              ((List.range' w.nextTenant 16).map fun n =>
                s.ownWrite (exportBank w.bank + 0x40 + 0x40 * n)
                  (exportRecord (s.tenantRecord w.bank n) n w.epoch)).reverse).bus) ∧
      t.acct.live = s.acct.live ∧ t.acct.epoch = s.acct.epoch ∧ t.acct.openTime = s.acct.openTime ∧
      s.sameOutside [.acct, .notices, .slots, .bus] t

/-- The last EXPORT_WALK_STEP (R158, R160, R161): the walk becomes idle, its slot ends DONE, and the full header stands
in memory: the closed epoch's number, opening and closing time, the tenant count 256, the bank, the count of saturated
records clamped at 255, zeros, and the completion word. EPOCH_EXPORTED follows the sixteen records and the header, and
the slot's status word follows it. The place where the closed epoch's opening time is kept is log entry 15. That each
record is a write of its own, where R158 lets the records of a step travel in one or more, is the model's choice (log
entry 7). That a result value and its status word are one write is the model's choice (log entry 7). -/
def Obligations.LastExportStepEndsWalk : Prop :=
  ∀ (s : State) (w : ExportWalk) (sat : Nat) (header : List Byte), s.quiet → s.acct.walk = some w →
    w.nextTenant = 240 → w.bank ≠ s.acct.live →
    sat = w.saturated + ((List.range' 240 16).filter fun n => (s.tenantRecord w.bank n).chargeSat).length →
    header =
      leBytes 4 w.epoch.toNat ++ leBytes 4 w.openTime.toNat ++ leBytes 4 w.closeTime.toNat ++ leBytes 2 256 ++
        leBytes 1 w.bank ++ leBytes 1 (min sat 255) ++ List.replicate 44 0 ++ leBytes 3 w.epoch.toNat ++
        [(0x3C : Byte)] →
    ∃ t, exec .exportWalkStep s = .next t ∧ t.acct.walk = none ∧
      t.slot w.slot = { s.slot w.slot with status := .done } ∧ (∀ k, k ≠ w.slot → t.slot k = s.slot k) ∧
      header.length = 64 ∧ t.readBytes (exportBank w.bank) 64 = header.map some ∧
      s.sends t
        (s.ownWrite (exportBank w.bank) header ::
          ((List.range' 240 16).map fun n =>
            s.ownWrite (exportBank w.bank + 0x40 + 0x40 * n) (exportRecord (s.tenantRecord w.bank n) n w.epoch)).reverse)
          [{ kind := .epochExported, subject := w.slot, first := w.epoch.toNat, second := 2 ^ 16 * w.bank + sat }]
          [s.endWrite w.slot .done (s.slot w.slot).tag] ∧
      s.sameOutside [.acct, .notices, .slots, .bus] t

/-! ## Control tables -/

/-- TABLE_STAGING_WRITE (R164, R165, R169). The tables stand in the granules of Table 10-4, and the shares of a write are
those of the entries whose bytes it covers. A write of a granule in a gap between tables, or without a strobe, touches
neither the staging copy nor anything else. A granule that covers four entries of 16 bytes acts as four writes one after
another in ascending order, each with the lanes of one entry alone, but that it is forwarded once, ahead of what they bring;
under the row TABLE_COMMIT too. A write of one entry that is not a commit stages its strobed bytes, in PASSIVE or ACTIVE,
and installs nothing. They go over what was staged for the entry, unless bytes are staged for another entry: those are
discarded, and TABLE_ABANDONED of their entry is asked for, which a full ring loses with the gap flag set (R175). -/
def Obligations.TableWriteStages : Prop :=
  (∀ i : Fin 3584,
      (areaAt (64 * i)).map (fun a => (a.number, a.size)) =
        (tableLayout.find? fun x => decide (x.1 ≤ i.val ∧ i.val < x.1 + x.2.1)).map fun x => (x.2.2.1, x.2.2.2)) ∧
    (∀ (i : Fin 3584) (g : Lanes) (e : EntryWrite), e ∈ entryWrites i g →
      ∃ x ∈ tableLayout, x.2.2.1 = e.table ∧ x.2.2.2 = e.size ∧ ∃ off < 64,
        64 * x.1 + e.index * e.size + e.base = 64 * i + off ∧ e.base + 1 ≤ e.size ∧
          e.lanes = if e.size < 64 then (g.drop off).take e.size else g) ∧
    (∀ (i : Fin 3584) (g : Lanes) (s : State), s.quiet → (areaAt (64 * i) = none ∨ anyStrobe g = false) →
      exec (.tableStagingWrite i g) s = .next (s.sending [s.crossing (tableOffset i) g]) ∧
        exec (.tableCommit i g) s = .next (s.sending [s.crossing (tableOffset i) g])) ∧
    (∀ (i : Fin 3584) (g : Lanes) (s : State), s.quiet → (areaAt (64 * i)).map (fun a => a.size) = some 16 →
      g.length = 64 →
      ∃ t0 t1 t2 t3 t,
        exec (.tableStagingWrite i (entryLanes 0 g)) s = .next t0 ∧
        exec (.tableStagingWrite i (entryLanes 1 g)) t0 = .next t1 ∧
        exec (.tableStagingWrite i (entryLanes 2 g)) t1 = .next t2 ∧
        exec (.tableStagingWrite i (entryLanes 3 g)) t2 = .next t3 ∧
        exec (.tableStagingWrite i g) s = .next t ∧ exec (.tableCommit i g) s = .next t ∧
        { t with bus := t3.bus } = t3 ∧
        t.bus =
          (s.sending
            (((t3.bus.sent.take (t3.bus.sent.length - s.bus.sent.length)).filter fun x => x.own) ++
              [s.crossing (tableOffset i) g])).bus) ∧
    (∀ (base j : Nat) (g : Lanes) (m : Table Byte),
      (stageBytes base g m).find j = ((if base ≤ j then g[j - base]? else none).join).or (m.find j)) ∧
    ∀ (i : Fin 3584) (g : Lanes) (s : State) (e : EntryWrite), s.quiet → entryWrites i g = [e] → e.commits = false →
      exec (.tableStagingWrite i g) s =
        .next
          (({ s with
              path := { s.path with
                staging := some { table := e.table, index := e.index,
                                  bytes := stageBytes e.base e.lanes (s.stagedBytes e.table e.index) } } } :
            State).telling [s.crossing (tableOffset i) g] (s.abandonAsks e))

/-- TABLE_COMMIT of an entry that validation accepts (R169, R170, R171, Table 10-3): the installed copy overlaid with
the staged bytes and the write's becomes the installed copy with its masks and clamps, the staging copy holds no entry,
and every other entry of every table stands. Bytes staged for another entry are discarded first, with TABLE_ABANDONED. A
queue profile, tariff set, segment or list entry changes nothing else. A global entry re-evaluates the shed level in
ACTIVE (R82). A port entry with another schedule profile number sets the port's pending flag, or is adopted at once on
empty queues, and in ACTIVE brings a refill run and a post attempt (R6, R98, R101). A group entry brings a recompute
(R130, R132). A schedule profile becomes pending on, or is adopted by, each port that names it (R98). A tenant entry
clamps the tenant's tokens to its depth (R78). The attempt counted is the model's (log entry 9). That each free-cell
entry is a write of its own, where R4 lets several of one run travel in one, is the model's choice (log entry 7). -/
def Obligations.TenantCommitInstalls : Prop :=
  ∀ (i : Fin 3584) (g : Lanes) (s s1 : State) (e : EntryWrite) (offered : List Byte) (own : BusWrite)
    (asks : List NoticeAsk), s.quiet → entryWrites i g = [e] → e.commits = true → asks = s.abandonAsks e →
    offered =
      overlay (s.installedBytes e.table e.index) (stageBytes e.base e.lanes (s.stagedBytes e.table e.index)) →
    entryReasons e.table offered = [] → own = s.crossing (tableOffset i) g →
    s1 = { s with path := { s.path with staging := none } } →
    (e.table = 3 →
      exec (.tableCommit i g) s =
        .next
          (({ s1 with
              tables := { s.tables with
                queueProfiles := s.tables.queueProfiles.setD e.index (readProfile offered) QueueProfile.powerOn } } :
            State).telling [own] asks)) ∧
      (e.table = 5 →
        exec (.tableCommit i g) s =
          .next
            (({ s1 with
                tables := { s.tables with
                  tariffs := s.tables.tariffs.setD e.index (readTariffs offered) tariffsPowerOn } } :
              State).telling [own] asks)) ∧
      (e.table = 7 →
        exec (.tableCommit i g) s =
          .next
            (({ s1 with
                tables := { s.tables with
                  segments := s.tables.segments.setD e.index (readSegment offered) SegmentEntry.powerOn } } :
              State).telling [own] asks)) ∧
      (e.table = 8 →
        exec (.tableCommit i g) s =
          .next
            (({ s1 with
                tables := { s.tables with
                  lists := s.tables.lists.setD e.index (readList offered) RepList.powerOn } } : State).telling
              [own] asks)) ∧
      (∀ s2 : State, e.table = 0 →
        s2 = { s.noticed asks with
               path := s1.path, tables := { s.tables with globalEntry := readGlobal offered } } →
        ∃ t, exec (.tableCommit i g) s = .next t ∧
          t.path = s2.path ∧ t.tables = s2.tables ∧
          (s.path.mode = .passive → s2.sameOutside [.bus] t ∧ s.delivers t s2 [own] []) ∧
          (s.path.mode = .active →
            t.admission = s2.report.admission ∧ t.cells = s2.report.cells ∧ s.delivers t s2.report [own] []) ∧
          s2.sameOutside [.cells, .admission, .notices, .bus] t) ∧
      (∀ (p : Port) (s2 : State) (q : EgressPort), e.table = 1 → e.index = p.val →
        s2 = { s.noticed asks with
               path := s1.path
               tables := { s.tables with
                 ports := s.tables.ports.setD p (readPort offered) PortEntry.powerOn } } →
        q =
          (if (readPort offered).schedProfile = (s.portEntry p).schedProfile then s.egressPort p
            else if s.queuesEmpty p = true then
              { s.egressPort p with
                schedule := s.scheduleProfile (readPort offered).schedProfile, pendingSched := false, phase := 0 }
            else { s.egressPort p with pendingSched := true }) →
        ∃ t, exec (.tableCommit i g) s = .next t ∧ t.portEntry p = readPort offered ∧
          (∀ r : Port, r ≠ p → t.portEntry r = s.portEntry r ∧ t.egressPort r = s.egressPort r) ∧
          t.path = s2.path ∧ t.tables = s2.tables ∧ t.queues.queues = s.queues.queues ∧
          (s.path.mode = .passive → t.egressPort p = q ∧ s2.sameOutside [.queues, .bus] t ∧ s.delivers t s2 [own] []) ∧
          (s.path.mode = .active →
            t.egressPort p = { q with owed := q.owed + 1 } ∧ t.cells = s2.refill.cells ∧
              t.admission = s2.refill.admission ∧ s.delivers t s2.refill [own] [] ∧
              s2.sameOutside [.cells, .admission, .queues, .notices, .bus] t)) ∧
      (∀ (grp : GroupId) (s2 : State), e.table = 2 → e.index = grp.val →
        s2 = { s1 with tables := { s.tables with
                 groups := s.tables.groups.setD grp (readGroup offered) (GroupEntry.powerOn grp) } } →
        ∃ t, exec (.tableCommit i g) s = .next t ∧ t.groupEntry grp = readGroup offered ∧
          (∀ h : GroupId, h ≠ grp → t.groupEntry h = s.groupEntry h) ∧ t.path = s2.path ∧ t.tables = s2.tables ∧
          s.recomputed t [grp] ∧ s.sends t [own] (asks ++ s.groupAsks t [grp]) [] ∧
          t.failover = { s.failover with groupStates := t.failover.groupStates } ∧
          s2.sameOutside [.failover, .notices, .bus] t) ∧
      (∀ s2 : State, e.table = 4 →
        s2 = { s1 with tables := { s.tables with
                 schedules := s.tables.schedules.setD e.index (readSchedule offered) allSkip } } →
        ∃ t, exec (.tableCommit i g) s = .next t ∧ t.scheduleProfile e.index = readSchedule offered ∧
          (∀ k, k ≠ e.index → t.scheduleProfile k = s.scheduleProfile k) ∧ t.path = s2.path ∧
          t.tables = s2.tables ∧ t.queues.queues = s.queues.queues ∧ s.sends t [own] asks [] ∧
          (∀ p : Port, t.egressPort p =
            if (s.portEntry p).schedProfile = e.index then
              if s.queuesEmpty p = true then
                { s.egressPort p with schedule := readSchedule offered, pendingSched := false, phase := 0 }
              else { s.egressPort p with pendingSched := true }
            else s.egressPort p) ∧
          s2.sameOutside [.queues, .notices, .bus] t) ∧
      ∀ n : Tenant, e.table = 6 → e.index = n.val →
        ∃ t, exec (.tableCommit i g) s = .next t ∧ t.tenantEntry n = readTenant offered ∧
          (∀ m : Tenant, m ≠ n → t.tenantEntry m = s.tenantEntry m ∧ t.meter m = s.meter m) ∧
          t.meter n = { s.meter n with tokens := min (s.meter n).tokens (readTenant offered).depth } ∧
          t.path = s1.path ∧ t.tables = { s.tables with tenants := t.tables.tenants } ∧
          t.admission = { s.admission with meters := t.admission.meters } ∧ s.sends t [own] asks [] ∧
          s.sameOutside [.path, .tables, .admission, .notices, .bus] t

/-- TABLE_COMMIT of an entry that validation refuses (R170, R171): the installed copies are unchanged, the staging copy
holds no entry, and TABLE_REJECTED is asked for with a reason that applies, behind TABLE_ABANDONED where bytes of another
entry were staged (R169); a full ring loses them with the gap flag set (R175). Which reason, where several apply, is free
(log entry 1). -/
def Obligations.RefusedCommitKeepsInstalledCopy : Prop :=
  ∀ (i : Fin 3584) (g : Lanes) (s : State) (e : EntryWrite) (reasons : List Reason), s.quiet → entryWrites i g = [e] →
    e.commits = true →
    reasons =
      entryReasons e.table
        (overlay (s.installedBytes e.table e.index)
          (stageBytes e.base e.lanes (s.stagedBytes e.table e.index))) →
    reasons ≠ [] →
    ∃ r ∈ reasons,
      exec (.tableCommit i g) s =
        .next
          (({ s with freeDraws := s.freeDraws + 1, path := { s.path with staging := none } } : State).telling
            [s.crossing (tableOffset i) g]
            (s.abandonAsks e ++
              [{ kind := .tableRejected, subject := e.index, first := 2 ^ 8 * e.table + r.code, second := 0 }]))

/-! ## Command slots -/

/-- COMMAND_ARGUMENT_WRITE (R172): a write of a slot that does not cover its whole command word updates the bytes 0 to 47
of the slot's argument copy whose strobes are set, in either mode, and starts nothing. -/
def Obligations.ArgumentWriteUpdatesCopy : Prop :=
  ∀ (k : SlotId) (g : Lanes) (s : State), s.quiet → allStrobes g 60 4 = false →
    exec (.commandArgumentWrite k g) s =
      .next
        (({ s with
            path := { s.path with args := s.path.args.setD k (merge (s.args k) (g.take 48)) zeroArgs } } :
          State).sending [s.crossing (slotOffset k) g])

/-- A write of a whole command word, handed on with the slot's argument copy (R172), is the command of the word's kind
(Table 11-3). -/
def Obligations.CommandWordIsItsRow : Prop :=
  ∀ (kind : Byte) (w : SlotWrite) (s : State), w.ok = true →
    exec (.commandArgumentWrite w.slot (slotGranule kind w)) s = exec (commandRow kind w) s

/-- A command word written to a BUSY slot, of any kind (R178): the command does not start; CMD_IGNORED is asked for
with the ignored word and the running command, and a full ring loses it with the gap flag set (R175); the slot keeps its
kind, tag and state. Its argument bytes change the copy (R172). -/
def Obligations.BusySlotIgnoresCommands : Prop :=
  ∀ (kind : Byte) (w : SlotWrite) (s : State), s.quiet → (s.slot w.slot).status = .busy →
    exec (commandRow kind w) s =
      .next
        (({ s with path := { s.path with args := s.path.args.setD w.slot (s.argsWith w) zeroArgs } } : State).telling
          [s.crossing (slotOffset w.slot) (slotGranule kind w)]
          [{ kind := .cmdIgnored, subject := w.slot, first := 2 ^ 24 * kind.toNat + w.tag.toNat,
             second := 2 ^ 24 * (s.slot w.slot).kind.toNat + (s.slot w.slot).tag.toNat }])

/-- The first two cases of R179, in a slot that is not BUSY: a kind outside Table 11-3 ends FAILED with ARGUMENT in
either mode; in PASSIVE every kind of the table except START, and in ACTIVE START, ends FAILED with STATE. That a result
value and its status word are one write is the model's choice (log entry 7). -/
def Obligations.KindAndModeFailures : Prop :=
  ∀ (kind : Byte) (w : SlotWrite) (s : State), s.quiet → s.free w.slot →
    (knownKind kind = false →
      exec (.unknownCommand kind w) s = .next (s.commandEnded kind w .failed .argument 0 [])) ∧
      (knownKind kind = true → kind.toNat ≠ 1 → s.path.mode = .passive →
        exec (commandRow kind w) s = .next (s.commandEnded kind w .failed .state 0 [])) ∧
      (s.path.mode = .active → exec (.start w) s = .next (s.commandEnded 1 w .failed .state 0 []))

/-- START in PASSIVE (R168): the part becomes ACTIVE; every intake and egress ring restarts, every port is DOWN with its
timers stopped and its change count kept, the epoch opens now, the aging period starts, and the slot ends DONE, its
status word the last write; the free copy list is in ascending order (R18); the shed level is NORMAL evaluated at the
free count that the refill run leaves (R82); installed copies, staging copy, argument copies of other slots, queues and
banks are unchanged. That a result value and its status word are one write is the model's choice (log entry 7). -/
def Obligations.StartMakesPartActive : Prop :=
  ∀ (w : SlotWrite) (s : State), s.free w.slot → s.path.mode = .passive →
    ∃ t, exec (.start w) s = .next t ∧ t.path.mode = .active ∧ t.path.staging = s.path.staging ∧
      (∀ k, k ≠ w.slot → t.args k = s.args k) ∧ t.tables = s.tables ∧
      (∀ p, t.intakePort p = { slot := 0, lap := false, staging := List.replicate 64 0 }) ∧
      (∀ p, t.egressPort p = { s.egressPort p with slots := [], nextWrite := 0, lap := true, phase := 0 }) ∧
      (∀ p, t.livePort p = { s.livePort p with state := .down, trial := none, stall := none, drain := none }) ∧
      t.acct = { s.acct with openTime := s.now } ∧
      t.lookup =
        { s.lookup with
          agingTimer := some (s.now + BitVec.ofNat 32 (10000 * max 1 s.tables.globalEntry.agingPeriod)) } ∧
      t.slot w.slot = { status := .done, kind := 1, tag := w.tag } ∧ (∀ k, k ≠ w.slot → t.slot k = s.slot k) ∧
      t.queues.queues = s.queues.queues ∧ t.admission.meters = s.admission.meters ∧
      t.admission.held = s.admission.held ∧ t.cells.frames = s.cells.frames ∧ t.cells.copies = s.cells.copies ∧
      t.cells.links = s.cells.links ∧ Runs.toList t.cells.freeCopies = List.range 131072 ∧
      t.admission.shed =
        (if t.freeCount < s.tables.globalEntry.criticalFloor then .critical
          else if t.freeCount < s.tables.globalEntry.tightFloor then .tight
          else .normal) ∧
      (s.quiet → t.bus.sent.head? = some (s.endWrite w.slot .done w.tag)) ∧
      s.sameOutside [.path, .cells, .intake, .lookup, .admission, .queues, .live, .acct, .notices, .slots, .bus] t

/-- START's first refill run (R18, R6, R4): with no cell issued before it, each port receives its issue target of cells
in one ascending pass over the ports, at ring positions from 0 with lap 1, and the rest stay free in ascending order.
The free-cell entry of each stands in memory at its position: the cell's number, and the lap in bit 7 of the last byte.
The shed level, NORMAL without a notice before the run, is then evaluated at the free count, and a change is posted
(R81, R82). The writes of the action are its crossing, the free-cell entries in order, that notice, and last the status
word DONE (R166). That each free-cell entry is a write of its own, where R4 lets several of one run travel in one, is
the model's choice (log entry 7). That a result value and its status word are one write is the model's choice (log entry
7). -/
def Obligations.StartIssuesCellsInPortOrder : Prop :=
  ∀ (w : SlotWrite) (s : State) (first : Port → Nat) (left : Nat) (level : ShedLevel), s.free w.slot →
    s.path.mode = .passive → s.installedOk → (∀ p : Port, (s.cellPort p).issued = []) →
    (∀ p : Port, first p = ((allPorts.take p.val).map fun q => (s.portEntry q).issueTarget).sum) →
    left = 65536 - (allPorts.map fun q => (s.portEntry q).issueTarget).sum →
    level =
      (if left < s.tables.globalEntry.criticalFloor then .critical
        else if left < s.tables.globalEntry.tightFloor then .tight
        else .normal) →
    ∃ t, exec (.start w) s = .next t ∧
      (∀ p : Port, Runs.toList (t.cellPort p).issued = List.range' (first p) (s.portEntry p).issueTarget ∧
        (t.cellPort p).pos = (s.portEntry p).issueTarget ∧ (t.cellPort p).lap = true) ∧
      Runs.toList t.cells.freeList =
        List.range' ((allPorts.map fun q => (s.portEntry q).issueTarget).sum) left ∧
      Runs.toList t.cells.freeCopies = List.range 131072 ∧ t.admission.shed = level ∧
      (s.quiet →
        s.sends t
          ((allPorts.flatMap fun p => (List.range (s.portEntry p).issueTarget).map fun i =>
              s.ownWrite (Config.freeCellRings + 0x800 * p + 4 * i) (leBytes 2 (first p + i) ++ [0, 0x80])).reverse ++
            [s.crossing (slotOffset w.slot) (slotGranule 1 w)])
          (if level = .normal then []
            else [{ kind := .shedLevel, subject := 0, first := level.code, second := left }])
          [s.endWrite w.slot .done w.tag]) ∧
      (s.quiet → ∀ p : Port, ∀ i < (s.portEntry p).issueTarget,
        t.readBytes (Config.freeCellRings + 0x800 * p + 4 * i) 4 =
          (leBytes 2 (first p + i) ++ [(0 : Byte), 0x80]).map some)

/-- STATION_ADD in ACTIVE (R55, R179): an argument out of range ends FAILED with ARGUMENT; a STATIC entry of the key
ends it FAILED with DUPLICATE; a LEARNED one is converted in its way, its tenant's learned count falling, with REPLACED;
without an entry a STATIC one goes into the lowest-numbered invalid way, or a full set ends it FAILED with SET_FULL.
That a result value and its status word are one write is the model's choice (log entry 7). -/
def Obligations.StationAddOutcome : Prop :=
  ∀ (w : SlotWrite) (s : State), s.quiet → s.free w.slot → s.path.mode = .active →
    exec (.stationAdd w) s =
      .next
        (match segmentArg? (s.argsWith w), targetArg? (s.argsWith w) with
          | some seg, some tgt =>
            let entry : Station :=
              { segment := seg, addr := argStation (s.argsWith w), target := tgt, isStatic := true, hit := false,
                moves := 0, locked := false, conflict := false, tenant := (s.segmentEntry seg).tenant }
            match s.lookup? seg (argStation (s.argsWith w)) with
            | some (way, e) =>
              if e.isStatic then s.commandEnded 2 w .failed .duplicate 0 []
              else
                ({ s with
                    lookup := { s.lookup with
                      stations := s.lookup.stations.put way entry
                      learned := s.lookup.learned.setD e.tenant (s.learned e.tenant - 1) 0 } } :
                  State).commandEnded 2 w .done .replaced 0 []
            | none =>
              match s.freeWay? seg (argStation (s.argsWith w)) with
              | some way =>
                ({ s with lookup := { s.lookup with stations := s.lookup.stations.put way entry } } :
                  State).commandEnded 2 w .done .none 0 []
              | none => s.commandEnded 2 w .failed .setFull 0 []
          | _, _ => s.commandEnded 2 w .failed .argument 0 [])

/-- STATION_REMOVE in ACTIVE (R57, R179): the entry of the key is removed and the command ends DONE with the kind of
entry removed, a LEARNED one lowering its tenant's learned count; no entry ends it FAILED with NOT_FOUND, a segment out
of range with ARGUMENT. That a result value and its status word are one write is the model's choice (log entry 7). -/
def Obligations.StationRemoveOutcome : Prop :=
  ∀ (w : SlotWrite) (s : State), s.quiet → s.free w.slot → s.path.mode = .active →
    exec (.stationRemove w) s =
      .next
        (match segmentArg? (s.argsWith w) with
          | none => s.commandEnded 3 w .failed .argument 0 []
          | some seg =>
            match s.lookup? seg (argStation (s.argsWith w)) with
            | none => s.commandEnded 3 w .failed .notFound 0 []
            | some (way, e) =>
              if e.isStatic then
                ({ s with lookup := { s.lookup with stations := s.lookup.stations.erase way } } :
                  State).commandEnded 3 w .done .staticRemoved 0 []
              else
                ({ s with
                    lookup := { s.lookup with
                      stations := s.lookup.stations.erase way
                      learned := s.lookup.learned.setD e.tenant (s.learned e.tenant - 1) 0 } } :
                  State).commandEnded 3 w .done .learnedRemoved 0 [])

/-- FLUSH in ACTIVE (R58, R51, R52): a bad kind or number ends it FAILED with ARGUMENT; an equal queued request takes it
in; otherwise it is queued while the queue holds fewer than 8, its walk starting at once where none runs and the queue
was empty; a full queue ends it FAILED with FULL. Queued or merged, the slot stays BUSY. That a result value and its
status word are one write is the model's choice (log entry 7). -/
def Obligations.FlushOutcome : Prop :=
  ∀ (w : SlotWrite) (s : State), s.quiet → s.free w.slot → s.path.mode = .active →
    (s.lookup.flushWalk = none → s.lookup.flushQueue = []) →
    exec (.flush w) s =
      .next
        (match flushArg? (s.argsWith w) with
          | none => s.commandEnded 4 w .failed .argument 0 []
          | some r =>
            if s.lookup.flushQueue.any (fun i => decide (i.req = r)) then
              ({ s with
                  lookup := { s.lookup with
                    flushQueue := s.lookup.flushQueue.map fun i =>
                      if i.req = r then { i with slots := i.slots ++ [w.slot] } else i } } :
                State).commandBusy 4 w []
            else if s.lookup.flushQueue.length < 8 then
              (match s.lookup.flushWalk with
                | none =>
                  ({ s with
                      lookup := { s.lookup with
                        flushWalk := some { item := { req := r, slots := [w.slot] }, cursor := 0, removed := 0 } } } :
                    State)
                | some _ =>
                  ({ s with
                      lookup := { s.lookup with
                        flushQueue := s.lookup.flushQueue ++ [{ req := r, slots := [w.slot] }] } } :
                    State) : State).commandBusy 4 w []
            else s.commandEnded 4 w .failed .full 0 [])

/-- EPOCH_CLOSE in ACTIVE (R157): with the walk running it ends FAILED with BUSY; with the walk idle the banks flip, the
walk runs over the closed bank, the epoch number and opening time advance, the header's completion word is written as 0,
and the slot stays BUSY. Where the closed epoch's opening time is kept is log entry 15. That a result value and its
status word are one write is the model's choice (log entry 7). -/
def Obligations.EpochCloseOutcome : Prop :=
  ∀ (w : SlotWrite) (s : State), s.quiet → s.free w.slot → s.path.mode = .active →
    exec (.epochClose w) s =
      .next
        (if s.acct.walk.isSome then s.commandEnded 5 w .failed .busy 0 []
          else
            ({ s with
                acct := { s.acct with
                  live := if s.acct.live = 0 then 1 else 0
                  epoch := s.acct.epoch + 1
                  openTime := s.now
                  walk := some
                    { bank := s.acct.live, epoch := s.acct.epoch, openTime := s.acct.openTime, closeTime := s.now,
                      slot := w.slot, nextTenant := 0, saturated := 0 } } } :
              State).commandBusy 5 w [s.ownWrite (exportBank s.acct.live + 60) [0, 0, 0, 0]])

/-- PORT_ADMIN_DOWN in ACTIVE (R128, R124): the port becomes ADMIN_DOWN, as the state it leaves decides, and the slot
ends DONE; a change recomputes the port's groups and posts PORT_STATE, and GROUP_STATE for each group that changes
(R116, R132; the order of the notices is log entries 11 and 23); a port number above 47 ends the command FAILED with
ARGUMENT. That a result value and its status word are one write is the model's choice (log entry 7). -/
def Obligations.PortAdminDownOutcome : Prop :=
  ∀ (w : SlotWrite) (s : State), s.quiet → s.free w.slot → s.path.mode = .active →
    (47 < argPort (s.argsWith w) →
      exec (.portAdminDown w) s = .next (s.commandEnded 6 w .failed .argument 0 [])) ∧
      ∀ p : Port, argPort (s.argsWith w) = p →
        ∃ t, exec (.portAdminDown w) s = .next t ∧ s.outOfService t p .adminDown ∧ t.liveness p = .adminDown ∧
          (t.livePort p).changeCount = (s.livePort p).changeCount ∧
          (∀ q : Port, q ≠ p → t.livePort q = s.livePort q) ∧
          t.slot w.slot = { status := .done, kind := 6, tag := w.tag } ∧
          (∀ k, k ≠ w.slot → t.slot k = s.slot k) ∧ t.failover.hold = s.failover.hold ∧ s.groupsFollow t p ∧
          s.sends t [s.crossing (slotOffset w.slot) (slotGranule 6 w)] (s.liveAsks t p .adminDown)
            [s.endWrite w.slot .done w.tag] ∧
          s.sameOutside [.path, .live, .lookup, .failover, .notices, .slots, .bus] t

/-- PORT_ADMIN_RELEASE in ACTIVE (R128): an ADMIN_DOWN port becomes DOWN with no flush and the drain timer as it runs,
and the slot ends DONE; the port's groups are recomputed and PORT_STATE is posted (R116, R132); in any other state the
command ends FAILED with STATE and changes nothing; a port number above 47 ends it FAILED with ARGUMENT. The order of
the notices is log entries 11 and 23. That a result value and its status word are one write is the model's choice (log
entry 7). -/
def Obligations.PortAdminReleaseOutcome : Prop :=
  ∀ (w : SlotWrite) (s : State), s.quiet → s.free w.slot → s.path.mode = .active →
    (47 < argPort (s.argsWith w) →
      exec (.portAdminRelease w) s = .next (s.commandEnded 7 w .failed .argument 0 [])) ∧
      ∀ p : Port, argPort (s.argsWith w) = p →
        (s.liveness p ≠ .adminDown →
          exec (.portAdminRelease w) s = .next (s.commandEnded 7 w .failed .state 0 [])) ∧
        (s.liveness p = .adminDown →
          ∃ t, exec (.portAdminRelease w) s = .next t ∧
            t.livePort p = { s.livePort p with state := .down, trial := none } ∧
            (∀ q : Port, q ≠ p → t.livePort q = s.livePort q) ∧
            t.slot w.slot = { status := .done, kind := 7, tag := w.tag } ∧ (∀ k, k ≠ w.slot → t.slot k = s.slot k) ∧
            t.failover = { s.failover with groupStates := t.failover.groupStates } ∧ s.groupsFollow t p ∧
            s.sends t [s.crossing (slotOffset w.slot) (slotGranule 7 w)] (s.liveAsks t p .adminRelease)
              [s.endWrite w.slot .done w.tag] ∧
            s.sameOutside [.path, .live, .failover, .notices, .slots, .bus] t)

/-- PORT_RESET in ACTIVE (R129, R35, R19, R111, R144, R178): the port's intake and egress rings restart, its stall timer
stops, it becomes DOWN unless it is ADMIN_DOWN, with what leaving its state brings and its groups recomputed at a change
(R118, R124, R132), and the slot ends DONE; no other slot and no other port's intake, ring or liveness changes, nor an
installed copy. A port above 47 ends it FAILED with ARGUMENT. Of the posted copies the via-group ones are handled first,
oldest post first, each a late abort (R143): while the work list holds an entry or a walk runs they are HELD under their
groups in that order as far as the pool has room and retired under HOLD_FULL beyond it; otherwise each is re-chosen at
once, among the members as they stand before the port goes down: retired under NO_PATH or MERGED, or QUEUED at the tail
of its class queue on the port chosen. The direct ones then return to the heads of their queues in the order they were
posted, or, the drained mark set, are retired under PORT_DOWN. The issued cells join the tail of the free list, oldest
first, then those of each frame that lost its last copy, in frame order; the new free count is reported once, a refill
run follows, and the free-cell ring holds the cells issued by it from position 0 under lap 1 (R4, R17, R19; the place of
the report is log entry 10). The notices of the change follow, FLUSH_LOST, PORT_STATE, then GROUP_STATE in ascending
group number (their order is log entries 11 and 23). The post attempts counted are the model's (log entry 9). That each
free-cell entry is a write of its own, where R4 lets several of one run travel in one, is the model's choice (log entry
7). That a result value and its status word are one write is the model's choice (log entry 7). -/
def Obligations.PortResetOutcome : Prop :=
  ∀ (w : SlotWrite) (s : State), s.free w.slot → s.path.mode = .active →
    (s.quiet → 47 < argPort (s.argsWith w) →
      exec (.portReset w) s = .next (s.commandEnded 8 w .failed .argument 0 [])) ∧
      ∀ (p : Port) (tags via direct : List Nat), argPort (s.argsWith w) = p →
        tags = (s.egressPort p).postedInOrder → via = tags.filter s.isVia → direct = tags.filter (fun j => !s.isVia j) →
        ∃ t, exec (.portReset w) s = .next t ∧
          t.intakePort p = { slot := 0, lap := false, staging := List.replicate 64 0 } ∧
          (∀ q : Port, q ≠ p → t.intakePort q = s.intakePort q ∧ t.livePort q = s.livePort q ∧
            (t.egressPort q).slots = (s.egressPort q).slots) ∧
          (t.egressPort p).slots = [] ∧ (t.egressPort p).nextWrite = 0 ∧ (t.egressPort p).lap = true ∧
          (t.egressPort p).phase = (s.egressPort p).phase ∧ (t.egressPort p).schedule = (s.egressPort p).schedule ∧
          (t.livePort p).stall = none ∧ (t.livePort p).changeCount = (s.livePort p).changeCount ∧
          t.liveness p = (if s.liveness p = .adminDown then .adminDown else .down) ∧ s.groupsFollow t p ∧
          t.slot w.slot = { status := .done, kind := 8, tag := w.tag } ∧ (∀ k, k ≠ w.slot → t.slot k = s.slot k) ∧
          t.tables = s.tables ∧ t.path.mode = .active ∧ t.path.staging = s.path.staging ∧
          t.lookup.stations = s.lookup.stations ∧ t.admission.meters = s.admission.meters ∧
          t.isDrained p = s.isDrained p ∧
          (s.stopStall p).outOfService t p (if s.liveness p = .adminDown then .adminDown else .down) ∧
          ((s.portEntry p).issueTarget < 512 →
            (t.cellPort p).pos = t.issuedCount p ∧ (t.cellPort p).lap = true ∧
              (s.quiet → s.positionsOk → ∀ i < t.issuedCount p,
                t.readBytes (Config.freeCellRings + 0x800 * p + 4 * i) 4 =
                  (leBytes 2 ((Runs.toList (t.cellPort p).issued).getD i 0) ++ [(0 : Byte), 0x80]).map some)) ∧
          (∀ (order freed : List Nat) (s1 base : State), Table.sorted s.failover.hold = true → tags.Nodup →
            (∀ j ∈ tags, ∃ k, s.copy j = some k ∧ k.port = some p ∧ (s.frame k.frame).isSome = true) →
            tags.Pairwise (fun i j => (s.copy i).map (fun k => k.frame) ≠ (s.copy j).map (fun k => k.frame)) →
            order = via ++ direct.reverse → freed = order.flatMap (s.resetFreed p via) → freed.Nodup →
            s1 = { s with cells := { s.cells with
                     freeList := Runs.pushAll (Runs.append s.cells.freeList (s.cellPort p).issued) freed
                     ports := s.cells.ports.setD p { issued := [], pos := 0, lap := true } CellPort.powerOn } } →
            base = (if s.issuedCount p = 0 ∧ freed = [] then s1.refill else s1.report.refill) →
            Runs.toList s1.cells.freeList =
                Runs.toList s.cells.freeList ++ Runs.toList (s.cellPort p).issued ++ freed ∧
              t.suppliesOf base ∧
              (s.quiet →
                s.delivers t (base.noticed (s.liveAsks t p .portReset))
                  [s.crossing (slotOffset w.slot) (slotGranule 8 w)] [s.endWrite w.slot .done w.tag]) ∧
              t.acct = (order.foldl (s.resetCount p via) s).acct ∧
              (∀ grp : GroupId, t.heldCopies grp =
                s.heldCopies grp ++ via.filter fun j => decide (s.resetFateOf p via j = some (.held grp))) ∧
              (∀ (q : Port) (c : Cls), t.queue q c =
                (if q = p then
                    direct.filter fun j =>
                      decide (s.resetFateOf p via j = some .returns ∧ (s.copy j).map (fun k => k.cls) = some c)
                  else []) ++
                  (s.queue q c ++ via.filter fun j =>
                    decide (s.resetFateOf p via j = some (.joins q) ∧ (s.copy j).map (fun k => k.cls) = some c))) ∧
              (∀ q : Port, (t.egressPort q).owed = (s.egressPort q).owed +
                if tags.any (fun j => decide (s.resetFateOf p via j = some (.joins q) ∨
                  q = p ∧ s.resetFateOf p via j = some .returns)) then 1 else 0) ∧
              (∀ j, j ∉ tags → t.copy j = s.copy j) ∧
              ∀ j ∈ tags, ∀ k, s.copy j = some k → ∀ f, s.frame k.frame = some f →
                match s.resetFateOf p via j with
                | some .returns => t.copy j = some { k with state := .queued } ∧ t.frame k.frame = some f
                | some (.held _) =>
                  t.copy j = some { k with state := .held, port := none } ∧
                    t.frame k.frame = some { f with ports := f.ports.filter (· ≠ p) }
                | some (.joins q) =>
                  t.copy j = some { k with state := .queued, port := some q } ∧
                    t.frame k.frame = some { f with ports := addPort q (f.ports.filter (· ≠ p)) }
                | some (.retired _) =>
                  t.copy j = none ∧
                    t.frame k.frame =
                      if 2 ≤ f.copyCount then
                        some { f with copyCount := f.copyCount - 1, ports := f.ports.filter (· ≠ p) }
                      else none
                | none => False) ∧
          ((via = [] ∨ (s.failover.work ≠ [] ∨ s.failover.walk.isSome = true) ∧
              s.holdCount + via.length ≤ 4096) → tags.Nodup → Table.sorted s.failover.hold = true →
            (∀ grp : GroupId, t.heldCopies grp =
              s.heldCopies grp ++ via.filter fun j =>
                decide ((s.copy j).bind (fun k => k.via) = some grp)) ∧
              (∀ j ∈ via, ∀ k, s.copy j = some k → t.copy j = some { k with state := .held, port := none }) ∧
              (∀ (q : Port) (c : Cls), t.queue q c =
                if q = p ∧ s.isDrained p = false then
                  (direct.filter fun j => decide ((s.copy j).map (fun k => k.cls) = some c)) ++ s.queue p c
                else s.queue q c) ∧
              ∀ j ∈ direct, ∀ k, s.copy j = some k →
                t.copy j = if s.isDrained p then none else some { k with state := .queued })

/-- METER_REFILL (R79): the tenant's tokens become its installed depth and its last-update time the present timebase,
and the slot ends DONE; a tenant above 255 ends it FAILED with ARGUMENT, and in PASSIVE it ends FAILED with STATE. That
a result value and its status word are one write is the model's choice (log entry 7). -/
def Obligations.MeterRefillFillsBucket : Prop :=
  ∀ (w : SlotWrite) (s : State), s.quiet → s.free w.slot →
    (s.path.mode = .passive → exec (.meterRefill w) s = .next (s.commandEnded 9 w .failed .state 0 [])) ∧
    (s.path.mode = .active → 255 < argTenant (s.argsWith w) →
      exec (.meterRefill w) s = .next (s.commandEnded 9 w .failed .argument 0 [])) ∧
      ∀ n : Tenant, s.path.mode = .active → argTenant (s.argsWith w) = n →
        exec (.meterRefill w) s =
          .next
            (({ s with
                admission := { s.admission with
                  meters := s.admission.meters.setD n { tokens := (s.tenantEntry n).depth, last := s.live.timebase }
                    ⟨0, 0⟩ } } : State).commandEnded 9 w .done .none 0 [])

/-- TIME_MARK in ACTIVE (R180): the slot ends DONE with the present timebase as result value, which stands in memory
with the status word; nothing but the slot, its argument copy and the stream changes. That a result value and its status
word are one write is the model's choice (log entry 7). -/
def Obligations.TimeMarkReturnsTimebase : Prop :=
  ∀ (w : SlotWrite) (s : State), s.quiet → s.free w.slot → s.path.mode = .active →
    exec (.timeMark w) s = .next (s.commandEnded 10 w .done .none s.live.timebase.toNat []) ∧
      (s.commandEnded 10 w .done .none s.live.timebase.toNat []).readBytes (slotOffset w.slot + 52) 8 =
        (leBytes 4 s.live.timebase.toNat ++ leBytes 2 w.tag.toNat ++ [(0 : Byte), 2]).map some

/-! ## Decisions -/

/-- The shed level (R80): its table, row by row in its order, with the sums formed without limit; and a report of the free
count evaluates it on the installed global entry: no change, a fall, or a rise after which a refill run that issued cells
reports again (R6). -/
def Obligations.ShedLevelTable : Prop :=
  (∀ (e : GlobalEntry) (f : Nat),
    (f < e.criticalFloor → evaluateShed e .normal f = .critical ∧ evaluateShed e .tight f = .critical) ∧
      (e.criticalFloor ≤ f → f < e.tightFloor → evaluateShed e .normal f = .tight) ∧
      (e.criticalFloor ≤ f → e.tightFloor ≤ f → evaluateShed e .normal f = .normal) ∧
      (e.criticalFloor ≤ f → e.tightFloor + e.hysteresis ≤ f → evaluateShed e .tight f = .normal) ∧
      (e.criticalFloor ≤ f → f < e.tightFloor + e.hysteresis → evaluateShed e .tight f = .tight) ∧
      (e.criticalFloor + e.hysteresis ≤ f → evaluateShed e .critical f = .tight) ∧
      (f < e.criticalFloor + e.hysteresis → evaluateShed e .critical f = .critical)) ∧
    ∀ (s : State) (l : ShedLevel), evaluateShed s.tables.globalEntry s.admission.shed s.freeCount = l →
      (l = s.admission.shed → s.report = s) ∧
        (l ≠ s.admission.shed → s.admission.shed.rises l = false → s.report = s.setShed l) ∧
        (s.admission.shed.rises l = true →
          s.report =
            if (s.setShed l).refillRun.freeCount = s.freeCount then s.setShed l
            else (s.setShed l).refillRun.report)

/-- The dynamic threshold and the EXCESS threshold (R88). -/
def Obligations.ThresholdFormula : Prop :=
  ∀ a free : Nat, a ≤ 7 → free ≤ 65536 →
    threshold a free = min 65536 (if 4 ≤ a then free <<< (a - 4) else free >>> (4 - a)) ∧
      excessThreshold a free = threshold a free >>> 1 ∧ (a ≤ 4 → threshold a free ≤ free) ∧
      threshold a 0 = 0 ∧ excessThreshold a 0 = 0

/-- The cell law (R1): every step keeps each of the 65,536 cells in exactly one place, free, issued or held by a frame, with
the cell link map and the frame records in step (R9, R10); so the free count, the issued counts and the cell counts of the
frames add up to 65,536. A refill run by itself conserves cells (R6): the free cells and the issued cells of all ports
together are as many after it as before, no port is filled above its refill target, and no issued list shrinks; and the
free-cell entry of each cell it issues stands in memory at the next ring position under that position's lap (R4). -/
def Obligations.RefillRunConservesCells : Prop :=
  (∀ s t : State, step s = .next t → s.cellLaw → t.cellLaw) ∧
    (∀ s : State, s.cellLaw →
      s.freeCount + (allPorts.map s.issuedCount).sum + (s.cells.frames.map fun e => e.2.cellCount).sum = 65536) ∧
    ∀ s : State,
      s.refillRun.freeCount + (allPorts.map s.refillRun.issuedCount).sum =
          s.freeCount + (allPorts.map s.issuedCount).sum ∧
        ∀ p : Port,
          s.issuedCount p ≤ s.refillRun.issuedCount p ∧
            s.refillRun.issuedCount p ≤
              max (s.issuedCount p) (refillTarget s.admission.shed (s.portEntry p).issueTarget) ∧
            (s.positionsOk → s.quiet → s.refillRun.issuedCount p - s.issuedCount p ≤ 512 →
              ∀ i < s.refillRun.issuedCount p - s.issuedCount p,
                s.refillRun.finish.readBytes
                    (Config.freeCellRings + 0x800 * p + 4 * (((s.cellPort p).pos + i) % 512)) 4 =
                  (leBytes 2 ((Runs.toList (s.refillRun.cellPort p).issued).getD (s.issuedCount p + i) 0) ++
                    [(0 : Byte), if (s.cellPort p).lap != decide (512 ≤ (s.cellPort p).pos + i) then 0x80 else 0]).map
                    some)

/-- The bounds that keep the model's loops total cut nothing off: a replication walk over lists of at most 16 entries, the
scan and the strict choice of a post attempt, a walk step, and the chain of free-count reports give the same with any
larger bound (R62, R102, R136, R81). The cells that the link map gives from a frame's first cell, with the bound that the
retirement of a frame uses or any larger one, are the frame's cells in frame order once its link words are written (R9,
R17). The bounds are the model's own. -/
def Obligations.LoopBoundsSuffice : Prop :=
  (∀ (s : State) (f : Forming) (l : ListId) (n : Nat), (∀ m : ListId, (s.repList m).count ≤ 16) →
      repWalk f (Config.walkPasses + n) (s.startRep l, s) = repWalk f Config.walkPasses (s.startRep l, s)) ∧
    (∀ (s : State) (p : Port) (n : Nat),
      s.strictPick p (s.waiting p + 1 + n) = s.strictPick p (s.waiting p + 1) ∧
        s.scanPick p (64 + s.waiting p + 1 + n) 64 = s.scanPick p (64 + s.waiting p + 1) 64) ∧
    (∀ (kind : WorkKind) (p : Port) (tails : List (Option Nat)) (x : StepState) (n : Nat),
      walkVisits kind p tails (Config.walkVisits + 5 + n) Config.walkVisits x =
        walkVisits kind p tails (Config.walkVisits + 5) Config.walkVisits x) ∧
    (∀ (s : State) (n : Nat), s.reportFree (3 + n) = s.reportFree 3) ∧
    ∀ (s t : State) (cells : List Nat) (n : Nat), cells ≠ [] → cells.Nodup → Table.sorted s.cells.links = true →
      t = State.writeLinks cells s →
      linkedCells t.cells.links (t.cells.links.length + n) (cells.headD 0) = cells
end

