-- ==== Sys2Proof/Laws/Tables.lean ====
section
/-! SUPPORT. What the operations of the two containers do: read after write in a sparse table, the rising order kept,
and the numbers and sizes of run-length lists. -/
namespace Sys2Proof

variable {α : Type}

/-! ## Sparse tables -/

@[simp] theorem Table.find_nil (k : Nat) : Table.find ([] : Table α) k = none := rfl

theorem Table.find_cons (j : Nat) (v : α) (m : Table α) (k : Nat) :
    Table.find ((j, v) :: m) k = if j = k then some v else Table.find m k := rfl

@[simp] theorem Table.find_put_self (m : Table α) (k : Nat) (v : α) : (Table.put m k v).find k = some v := by
  induction m with
  | nil => simp [Table.put, Table.find]
  | cons e m ih =>
    obtain ⟨j, w⟩ := e
    simp only [Table.put]
    split
    · simp [Table.find]
    · split
      · simp [Table.find]
      · rw [Table.find_cons, if_neg (fun h => by simp_all), ih]

theorem Table.find_put_ne (m : Table α) {k k' : Nat} (v : α) (h : k' ≠ k) :
    (Table.put m k v).find k' = Table.find m k' := by
  induction m with
  | nil => simp [Table.put, Table.find, h.symm]
  | cons e m ih =>
    obtain ⟨j, w⟩ := e
    simp only [Table.put]
    split
    · simp [Table.find, h.symm]
    · split
      · subst_vars; simp [Table.find, h.symm]
      · rw [Table.find_cons, Table.find_cons, ih]

theorem Table.find_put (m : Table α) (k k' : Nat) (v : α) :
    (Table.put m k v).find k' = if k' = k then some v else Table.find m k' := by
  split
  · subst_vars; simp
  · exact Table.find_put_ne m v ‹_›

theorem Table.find_erase (m : Table α) (k k' : Nat) :
    (Table.erase m k).find k' = if k' = k then none else Table.find m k' := by
  induction m with
  | nil => simp [Table.erase, Table.find]
  | cons e m ih =>
    obtain ⟨j, w⟩ := e
    have ih' : Table.find (List.filter (fun e => e.1 != k) m) k' = if k' = k then none else Table.find m k' := ih
    by_cases hj : j = k
    · subst hj
      simp only [Table.erase, List.filter_cons, bne_self_eq_false, Bool.false_eq_true, if_false, ih', Table.find_cons]
      split
      · rfl
      · rw [if_neg (Ne.symm ‹_›)]
    · simp only [Table.erase, List.filter_cons, bne_iff_ne, ne_eq, hj, not_false_eq_true, if_true, Table.find_cons, ih']
      split
      · subst_vars; simp [hj]
      · rfl

@[simp] theorem Table.find_erase_self (m : Table α) (k : Nat) : (Table.erase m k).find k = none := by
  simp [Table.find_erase]

theorem Table.getD_eq (m : Table α) (k : Nat) (d : α) : Table.getD m k d = (Table.find m k).getD d := rfl

@[simp] theorem Table.getD_nil (k : Nat) (d : α) : Table.getD ([] : Table α) k d = d := rfl

/-- Read after write, at the number written and elsewhere. -/
theorem Table.getD_setD [DecidableEq α] (m : Table α) (k k' : Nat) (v d : α) :
    (Table.setD m k v d).getD k' d = if k' = k then v else Table.getD m k' d := by
  unfold Table.setD Table.getD
  split
  · subst_vars
    rw [Table.find_erase]
    split <;> simp
  · rw [Table.find_put]
    split <;> simp

@[simp] theorem Table.getD_setD_self [DecidableEq α] (m : Table α) (k : Nat) (v d : α) :
    (Table.setD m k v d).getD k d = v := by simp [Table.getD_setD]

/-- Read after write elsewhere, whatever default the reader uses. -/
theorem Table.getD_setD_ne [DecidableEq α] (m : Table α) {k k' : Nat} (v d d' : α) (h : k' ≠ k) :
    (Table.setD m k v d).getD k' d' = Table.getD m k' d' := by
  unfold Table.setD Table.getD
  split <;> simp [Table.find_erase, Table.find_put, h]

/-! ### The rising order -/

/-- The numbers of a table, in its order. -/
def Table.keys (m : Table α) : List Nat := m.map (·.1)

theorem Table.sorted_iff (m : Table α) : m.sorted = true ↔ (Table.keys m).Pairwise (· < ·) := by
  induction m with
  | nil => simp [Table.sorted, Table.keys]
  | cons e m ih =>
    obtain ⟨j, v⟩ := e
    cases m with
    | nil => simp [Table.sorted, Table.keys]
    | cons e' m' =>
      obtain ⟨k, w⟩ := e'
      simp only [Table.sorted, Bool.and_eq_true, decide_eq_true_eq, ih]
      simp only [Table.keys, List.map_cons, List.pairwise_cons, List.mem_cons, forall_eq_or_imp]
      constructor
      · rintro ⟨h, h1, h2⟩
        exact ⟨⟨h, fun a ha => h.trans (h1 a ha)⟩, h1, h2⟩
      · rintro ⟨⟨h, _⟩, h1, h2⟩
        exact ⟨h, h1, h2⟩

theorem Table.mem_keys_put (m : Table α) (k : Nat) (v : α) (x : Nat) (h : x ∈ Table.keys (Table.put m k v)) :
    x = k ∨ x ∈ Table.keys m := by
  induction m with
  | nil => simpa [Table.put, Table.keys] using h
  | cons e m ih =>
    obtain ⟨j, w⟩ := e
    simp only [Table.put] at h
    split at h
    · simpa [Table.keys] using h
    · split at h
      · simp only [Table.keys, List.map_cons, List.mem_cons] at h ⊢
        tauto
      · simp only [Table.keys, List.map_cons, List.mem_cons] at h ⊢ ih
        rcases h with h | h
        · exact .inr (.inl h)
        · exact (ih h).imp id .inr

theorem Table.sorted_put (m : Table α) (k : Nat) (v : α) (h : m.sorted = true) :
    Table.sorted (Table.put m k v) = true := by
  rw [Table.sorted_iff] at h ⊢
  induction m with
  | nil => simp [Table.put, Table.keys]
  | cons e m ih =>
    obtain ⟨j, w⟩ := e
    have hk : Table.keys ((j, w) :: m) = j :: Table.keys m := rfl
    rw [hk, List.pairwise_cons] at h
    simp only [Table.put]
    split
    · have : Table.keys ((k, v) :: (j, w) :: m) = k :: j :: Table.keys m := rfl
      rw [this]
      refine List.pairwise_cons.2 ⟨?_, List.pairwise_cons.2 h⟩
      intro a ha
      rcases List.mem_cons.1 ha with rfl | ha
      · assumption
      · exact lt_trans ‹_› (h.1 a ha)
    · split
      · subst_vars
        exact List.pairwise_cons.2 h
      · refine List.pairwise_cons.2 ⟨?_, ih h.2⟩
        intro a ha
        rcases Table.mem_keys_put m k v a ha with rfl | ha
        · show j < a
          omega
        · exact h.1 a ha

theorem Table.sorted_erase (m : Table α) (k : Nat) (h : m.sorted = true) : Table.sorted (Table.erase m k) = true := by
  rw [Table.sorted_iff] at h ⊢
  exact h.sublist ((List.filter_sublist).map _)

/-- Every write keeps the rising order. -/
theorem Table.sorted_setD [DecidableEq α] (m : Table α) (k : Nat) (v d : α) (h : m.sorted = true) :
    Table.sorted (Table.setD m k v d) = true := by
  unfold Table.setD
  split
  · exact Table.sorted_erase m k h
  · exact Table.sorted_put m k v h

/-- In a table in rising order an entry is listed exactly where it is found. -/
theorem Table.mem_iff_find (m : Table α) (h : m.sorted = true) (k : Nat) (v : α) :
    (k, v) ∈ m ↔ Table.find m k = some v := by
  rw [Table.sorted_iff] at h
  induction m with
  | nil => simp
  | cons e m ih =>
    obtain ⟨j, w⟩ := e
    have hk : Table.keys ((j, w) :: m) = j :: Table.keys m := rfl
    rw [hk, List.pairwise_cons] at h
    rw [Table.find_cons, List.mem_cons, ih h.2]
    constructor
    · rintro (he | hf)
      · cases he; simp
      · rw [if_neg]
        · exact hf
        · rintro rfl
          have : (j, v) ∈ m := (ih h.2).2 hf
          exact lt_irrefl _ (h.1 j (List.mem_map_of_mem (f := Prod.fst) this))
    · split
      · subst_vars
        intro hv
        cases hv
        exact .inl rfl
      · exact .inr

/-! ## Run-length lists -/

@[simp] theorem Runs.size_nil : Runs.size [] = 0 := rfl

@[simp] theorem Runs.size_cons (a n : Nat) (q : Runs) : Runs.size ((a, n) :: q) = n + Runs.size q := rfl

theorem Runs.size_toList (q : Runs) : (Runs.toList q).length = Runs.size q := by
  induction q with
  | nil => rfl
  | cons e q ih =>
    obtain ⟨a, n⟩ := e
    simp [Runs.toList, ih]

@[simp] theorem Runs.toList_pushRun (q : Runs) (a n : Nat) :
    Runs.toList (Runs.pushRun q a n) = Runs.toList q ++ List.range' a n := by
  fun_induction Runs.pushRun q a n <;> simp_all [Runs.toList]

@[simp] theorem Runs.size_pushRun (q : Runs) (a n : Nat) : Runs.size (Runs.pushRun q a n) = Runs.size q + n := by
  simp [← Runs.size_toList]

@[simp] theorem Runs.size_push (q : Runs) (x : Nat) : Runs.size (Runs.push q x) = Runs.size q + 1 := by
  simp [Runs.push]

@[simp] theorem Runs.toList_push (q : Runs) (x : Nat) : Runs.toList (Runs.push q x) = Runs.toList q ++ [x] := by
  simp [Runs.push]

@[simp] theorem Runs.toList_append (q r : Runs) : Runs.toList (Runs.append q r) = Runs.toList q ++ Runs.toList r := by
  unfold Runs.append
  induction r generalizing q with
  | nil => simp [Runs.toList]
  | cons e r ih => simp [ih, Runs.toList]

@[simp] theorem Runs.size_append (q r : Runs) : Runs.size (Runs.append q r) = Runs.size q + Runs.size r := by
  simp only [← Runs.size_toList, Runs.toList_append, List.length_append]

@[simp] theorem Runs.toList_pushAll (q : Runs) (xs : List Nat) : Runs.toList (Runs.pushAll q xs) = Runs.toList q ++ xs := by
  unfold Runs.pushAll
  induction xs generalizing q with
  | nil => simp
  | cons x xs ih => simp [ih]

@[simp] theorem Runs.size_pushAll (q : Runs) (xs : List Nat) : Runs.size (Runs.pushAll q xs) = Runs.size q + xs.length := by
  simp only [← Runs.size_toList, Runs.toList_pushAll, List.length_append]

theorem take_range' (n a k : Nat) (h : n ≤ k) : (List.range' a k).take n = List.range' a n := by
  obtain ⟨m, rfl⟩ := Nat.exists_eq_add_of_le h
  rw [← List.range'_append_1, List.take_left' (by simp)]

theorem drop_range' (n a k : Nat) : (List.range' a k).drop n = List.range' (a + n) (k - n) := by
  rcases Nat.le_total n k with h | h
  · obtain ⟨m, rfl⟩ := Nat.exists_eq_add_of_le h
    rw [← List.range'_append_1, List.drop_left' (by simp)]
    simp
  · rw [List.drop_of_length_le (by simpa using h), Nat.sub_eq_zero_of_le h]
    rfl

/-- Taking is taking from the list of numbers. -/
@[simp] theorem Runs.toList_take (n : Nat) (q : Runs) : Runs.toList (Runs.take n q) = (Runs.toList q).take n := by
  induction q generalizing n with
  | nil => simp [Runs.take, Runs.toList]
  | cons e q ih =>
    obtain ⟨a, k⟩ := e
    simp only [Runs.take]
    split
    · subst_vars; simp [Runs.toList]
    · split
      · simp only [Runs.toList, List.append_nil, List.take_append, List.length_range']
        rw [Nat.sub_eq_zero_of_le (by omega), take_range' _ _ _ (by omega)]
        simp
      · simp only [Runs.toList, ih, List.take_append, List.length_range']
        rw [List.take_of_length_le (l := List.range' a k) (by rw [List.length_range']; omega)]

/-- Dropping is dropping from the list of numbers. -/
@[simp] theorem Runs.toList_drop (n : Nat) (q : Runs) : Runs.toList (Runs.drop n q) = (Runs.toList q).drop n := by
  induction q generalizing n with
  | nil => simp [Runs.drop, Runs.toList]
  | cons e q ih =>
    obtain ⟨a, k⟩ := e
    simp only [Runs.drop]
    split
    · simp only [Runs.toList, List.drop_append, List.length_range']
      rw [Nat.sub_eq_zero_of_le (by omega : n ≤ k), drop_range']
      simp
    · simp only [Runs.toList, ih, List.drop_append, List.length_range']
      rw [List.drop_of_length_le (l := List.range' a k) (by rw [List.length_range']; omega)]
      simp

@[simp] theorem Runs.size_take (n : Nat) (q : Runs) : Runs.size (Runs.take n q) = min n (Runs.size q) := by
  simp [← Runs.size_toList]

@[simp] theorem Runs.size_drop (n : Nat) (q : Runs) : Runs.size (Runs.drop n q) = Runs.size q - n := by
  simp [← Runs.size_toList]

end Sys2Proof
end

