-- ==== Sys2Proof/Laws/State.lean ====
section
/-! SUPPORT. One lemma for each field that an update of the state leaves alone, and what each accessor reads after each
update: later proofs unfold no record update. -/
namespace Sys2Proof.Machine

/-! ## Fields an update leaves alone -/

section setCellPort
variable (s : State) (p : Port) (v : CellPort)

@[simp] theorem State.setCellPort_path : (s.setCellPort p v).path = s.path := rfl
@[simp] theorem State.setCellPort_tables : (s.setCellPort p v).tables = s.tables := rfl
@[simp] theorem State.setCellPort_intake : (s.setCellPort p v).intake = s.intake := rfl
@[simp] theorem State.setCellPort_lookup : (s.setCellPort p v).lookup = s.lookup := rfl
@[simp] theorem State.setCellPort_admission : (s.setCellPort p v).admission = s.admission := rfl
@[simp] theorem State.setCellPort_queues : (s.setCellPort p v).queues = s.queues := rfl
@[simp] theorem State.setCellPort_live : (s.setCellPort p v).live = s.live := rfl
@[simp] theorem State.setCellPort_failover : (s.setCellPort p v).failover = s.failover := rfl
@[simp] theorem State.setCellPort_acct : (s.setCellPort p v).acct = s.acct := rfl
@[simp] theorem State.setCellPort_notices : (s.setCellPort p v).notices = s.notices := rfl
@[simp] theorem State.setCellPort_slots : (s.setCellPort p v).slots = s.slots := rfl
@[simp] theorem State.setCellPort_bus : (s.setCellPort p v).bus = s.bus := rfl
@[simp] theorem State.setCellPort_freeDraws : (s.setCellPort p v).freeDraws = s.freeDraws := rfl
@[simp] theorem State.setCellPort_pending : (s.setCellPort p v).pending = s.pending := rfl
@[simp] theorem State.setCellPort_cells_freeList : (s.setCellPort p v).cells.freeList = s.cells.freeList := rfl
@[simp] theorem State.setCellPort_cells_freeCopies : (s.setCellPort p v).cells.freeCopies = s.cells.freeCopies := rfl
@[simp] theorem State.setCellPort_cells_frames : (s.setCellPort p v).cells.frames = s.cells.frames := rfl
@[simp] theorem State.setCellPort_cells_copies : (s.setCellPort p v).cells.copies = s.cells.copies := rfl
@[simp] theorem State.setCellPort_cells_links : (s.setCellPort p v).cells.links = s.cells.links := rfl
end setCellPort

section setFrame
variable (s : State) (n : Nat) (v : Frame)

@[simp] theorem State.setFrame_path : (s.setFrame n v).path = s.path := rfl
@[simp] theorem State.setFrame_tables : (s.setFrame n v).tables = s.tables := rfl
@[simp] theorem State.setFrame_intake : (s.setFrame n v).intake = s.intake := rfl
@[simp] theorem State.setFrame_lookup : (s.setFrame n v).lookup = s.lookup := rfl
@[simp] theorem State.setFrame_admission : (s.setFrame n v).admission = s.admission := rfl
@[simp] theorem State.setFrame_queues : (s.setFrame n v).queues = s.queues := rfl
@[simp] theorem State.setFrame_live : (s.setFrame n v).live = s.live := rfl
@[simp] theorem State.setFrame_failover : (s.setFrame n v).failover = s.failover := rfl
@[simp] theorem State.setFrame_acct : (s.setFrame n v).acct = s.acct := rfl
@[simp] theorem State.setFrame_notices : (s.setFrame n v).notices = s.notices := rfl
@[simp] theorem State.setFrame_slots : (s.setFrame n v).slots = s.slots := rfl
@[simp] theorem State.setFrame_bus : (s.setFrame n v).bus = s.bus := rfl
@[simp] theorem State.setFrame_freeDraws : (s.setFrame n v).freeDraws = s.freeDraws := rfl
@[simp] theorem State.setFrame_pending : (s.setFrame n v).pending = s.pending := rfl
@[simp] theorem State.setFrame_cells_freeList : (s.setFrame n v).cells.freeList = s.cells.freeList := rfl
@[simp] theorem State.setFrame_cells_freeCopies : (s.setFrame n v).cells.freeCopies = s.cells.freeCopies := rfl
@[simp] theorem State.setFrame_cells_ports : (s.setFrame n v).cells.ports = s.cells.ports := rfl
@[simp] theorem State.setFrame_cells_copies : (s.setFrame n v).cells.copies = s.cells.copies := rfl
@[simp] theorem State.setFrame_cells_links : (s.setFrame n v).cells.links = s.cells.links := rfl
end setFrame

section removeFrame
variable (s : State) (n : Nat)

@[simp] theorem State.removeFrame_path : (s.removeFrame n).path = s.path := rfl
@[simp] theorem State.removeFrame_tables : (s.removeFrame n).tables = s.tables := rfl
@[simp] theorem State.removeFrame_intake : (s.removeFrame n).intake = s.intake := rfl
@[simp] theorem State.removeFrame_lookup : (s.removeFrame n).lookup = s.lookup := rfl
@[simp] theorem State.removeFrame_admission : (s.removeFrame n).admission = s.admission := rfl
@[simp] theorem State.removeFrame_queues : (s.removeFrame n).queues = s.queues := rfl
@[simp] theorem State.removeFrame_live : (s.removeFrame n).live = s.live := rfl
@[simp] theorem State.removeFrame_failover : (s.removeFrame n).failover = s.failover := rfl
@[simp] theorem State.removeFrame_acct : (s.removeFrame n).acct = s.acct := rfl
@[simp] theorem State.removeFrame_notices : (s.removeFrame n).notices = s.notices := rfl
@[simp] theorem State.removeFrame_slots : (s.removeFrame n).slots = s.slots := rfl
@[simp] theorem State.removeFrame_bus : (s.removeFrame n).bus = s.bus := rfl
@[simp] theorem State.removeFrame_freeDraws : (s.removeFrame n).freeDraws = s.freeDraws := rfl
@[simp] theorem State.removeFrame_pending : (s.removeFrame n).pending = s.pending := rfl
@[simp] theorem State.removeFrame_cells_freeList : (s.removeFrame n).cells.freeList = s.cells.freeList := rfl
@[simp] theorem State.removeFrame_cells_freeCopies : (s.removeFrame n).cells.freeCopies = s.cells.freeCopies := rfl
@[simp] theorem State.removeFrame_cells_ports : (s.removeFrame n).cells.ports = s.cells.ports := rfl
@[simp] theorem State.removeFrame_cells_copies : (s.removeFrame n).cells.copies = s.cells.copies := rfl
@[simp] theorem State.removeFrame_cells_links : (s.removeFrame n).cells.links = s.cells.links := rfl
end removeFrame

section setCopy
variable (s : State) (n : Nat) (v : Copy)

@[simp] theorem State.setCopy_path : (s.setCopy n v).path = s.path := rfl
@[simp] theorem State.setCopy_tables : (s.setCopy n v).tables = s.tables := rfl
@[simp] theorem State.setCopy_intake : (s.setCopy n v).intake = s.intake := rfl
@[simp] theorem State.setCopy_lookup : (s.setCopy n v).lookup = s.lookup := rfl
@[simp] theorem State.setCopy_admission : (s.setCopy n v).admission = s.admission := rfl
@[simp] theorem State.setCopy_queues : (s.setCopy n v).queues = s.queues := rfl
@[simp] theorem State.setCopy_live : (s.setCopy n v).live = s.live := rfl
@[simp] theorem State.setCopy_failover : (s.setCopy n v).failover = s.failover := rfl
@[simp] theorem State.setCopy_acct : (s.setCopy n v).acct = s.acct := rfl
@[simp] theorem State.setCopy_notices : (s.setCopy n v).notices = s.notices := rfl
@[simp] theorem State.setCopy_slots : (s.setCopy n v).slots = s.slots := rfl
@[simp] theorem State.setCopy_bus : (s.setCopy n v).bus = s.bus := rfl
@[simp] theorem State.setCopy_freeDraws : (s.setCopy n v).freeDraws = s.freeDraws := rfl
@[simp] theorem State.setCopy_pending : (s.setCopy n v).pending = s.pending := rfl
@[simp] theorem State.setCopy_cells_freeList : (s.setCopy n v).cells.freeList = s.cells.freeList := rfl
@[simp] theorem State.setCopy_cells_freeCopies : (s.setCopy n v).cells.freeCopies = s.cells.freeCopies := rfl
@[simp] theorem State.setCopy_cells_ports : (s.setCopy n v).cells.ports = s.cells.ports := rfl
@[simp] theorem State.setCopy_cells_frames : (s.setCopy n v).cells.frames = s.cells.frames := rfl
@[simp] theorem State.setCopy_cells_links : (s.setCopy n v).cells.links = s.cells.links := rfl
end setCopy

section setIntakePort
variable (s : State) (p : Port) (v : IntakePort)

@[simp] theorem State.setIntakePort_path : (s.setIntakePort p v).path = s.path := rfl
@[simp] theorem State.setIntakePort_tables : (s.setIntakePort p v).tables = s.tables := rfl
@[simp] theorem State.setIntakePort_cells : (s.setIntakePort p v).cells = s.cells := rfl
@[simp] theorem State.setIntakePort_lookup : (s.setIntakePort p v).lookup = s.lookup := rfl
@[simp] theorem State.setIntakePort_admission : (s.setIntakePort p v).admission = s.admission := rfl
@[simp] theorem State.setIntakePort_queues : (s.setIntakePort p v).queues = s.queues := rfl
@[simp] theorem State.setIntakePort_live : (s.setIntakePort p v).live = s.live := rfl
@[simp] theorem State.setIntakePort_failover : (s.setIntakePort p v).failover = s.failover := rfl
@[simp] theorem State.setIntakePort_acct : (s.setIntakePort p v).acct = s.acct := rfl
@[simp] theorem State.setIntakePort_notices : (s.setIntakePort p v).notices = s.notices := rfl
@[simp] theorem State.setIntakePort_slots : (s.setIntakePort p v).slots = s.slots := rfl
@[simp] theorem State.setIntakePort_bus : (s.setIntakePort p v).bus = s.bus := rfl
@[simp] theorem State.setIntakePort_freeDraws : (s.setIntakePort p v).freeDraws = s.freeDraws := rfl
@[simp] theorem State.setIntakePort_pending : (s.setIntakePort p v).pending = s.pending := rfl
end setIntakePort

section setMeter
variable (s : State) (n : Tenant) (v : Meter)

@[simp] theorem State.setMeter_path : (s.setMeter n v).path = s.path := rfl
@[simp] theorem State.setMeter_tables : (s.setMeter n v).tables = s.tables := rfl
@[simp] theorem State.setMeter_cells : (s.setMeter n v).cells = s.cells := rfl
@[simp] theorem State.setMeter_intake : (s.setMeter n v).intake = s.intake := rfl
@[simp] theorem State.setMeter_lookup : (s.setMeter n v).lookup = s.lookup := rfl
@[simp] theorem State.setMeter_queues : (s.setMeter n v).queues = s.queues := rfl
@[simp] theorem State.setMeter_live : (s.setMeter n v).live = s.live := rfl
@[simp] theorem State.setMeter_failover : (s.setMeter n v).failover = s.failover := rfl
@[simp] theorem State.setMeter_acct : (s.setMeter n v).acct = s.acct := rfl
@[simp] theorem State.setMeter_notices : (s.setMeter n v).notices = s.notices := rfl
@[simp] theorem State.setMeter_slots : (s.setMeter n v).slots = s.slots := rfl
@[simp] theorem State.setMeter_bus : (s.setMeter n v).bus = s.bus := rfl
@[simp] theorem State.setMeter_freeDraws : (s.setMeter n v).freeDraws = s.freeDraws := rfl
@[simp] theorem State.setMeter_pending : (s.setMeter n v).pending = s.pending := rfl
@[simp] theorem State.setMeter_admission_held : (s.setMeter n v).admission.held = s.admission.held := rfl
@[simp] theorem State.setMeter_admission_shed : (s.setMeter n v).admission.shed = s.admission.shed := rfl
end setMeter

section setHeldCells
variable (s : State) (n : Tenant) (v : Nat)

@[simp] theorem State.setHeldCells_path : (s.setHeldCells n v).path = s.path := rfl
@[simp] theorem State.setHeldCells_tables : (s.setHeldCells n v).tables = s.tables := rfl
@[simp] theorem State.setHeldCells_cells : (s.setHeldCells n v).cells = s.cells := rfl
@[simp] theorem State.setHeldCells_intake : (s.setHeldCells n v).intake = s.intake := rfl
@[simp] theorem State.setHeldCells_lookup : (s.setHeldCells n v).lookup = s.lookup := rfl
@[simp] theorem State.setHeldCells_queues : (s.setHeldCells n v).queues = s.queues := rfl
@[simp] theorem State.setHeldCells_live : (s.setHeldCells n v).live = s.live := rfl
@[simp] theorem State.setHeldCells_failover : (s.setHeldCells n v).failover = s.failover := rfl
@[simp] theorem State.setHeldCells_acct : (s.setHeldCells n v).acct = s.acct := rfl
@[simp] theorem State.setHeldCells_notices : (s.setHeldCells n v).notices = s.notices := rfl
@[simp] theorem State.setHeldCells_slots : (s.setHeldCells n v).slots = s.slots := rfl
@[simp] theorem State.setHeldCells_bus : (s.setHeldCells n v).bus = s.bus := rfl
@[simp] theorem State.setHeldCells_freeDraws : (s.setHeldCells n v).freeDraws = s.freeDraws := rfl
@[simp] theorem State.setHeldCells_pending : (s.setHeldCells n v).pending = s.pending := rfl
@[simp] theorem State.setHeldCells_admission_meters : (s.setHeldCells n v).admission.meters = s.admission.meters := rfl
@[simp] theorem State.setHeldCells_admission_shed : (s.setHeldCells n v).admission.shed = s.admission.shed := rfl
end setHeldCells

section setLearned
variable (s : State) (n : Tenant) (v : Nat)

@[simp] theorem State.setLearned_path : (s.setLearned n v).path = s.path := rfl
@[simp] theorem State.setLearned_tables : (s.setLearned n v).tables = s.tables := rfl
@[simp] theorem State.setLearned_cells : (s.setLearned n v).cells = s.cells := rfl
@[simp] theorem State.setLearned_intake : (s.setLearned n v).intake = s.intake := rfl
@[simp] theorem State.setLearned_admission : (s.setLearned n v).admission = s.admission := rfl
@[simp] theorem State.setLearned_queues : (s.setLearned n v).queues = s.queues := rfl
@[simp] theorem State.setLearned_live : (s.setLearned n v).live = s.live := rfl
@[simp] theorem State.setLearned_failover : (s.setLearned n v).failover = s.failover := rfl
@[simp] theorem State.setLearned_acct : (s.setLearned n v).acct = s.acct := rfl
@[simp] theorem State.setLearned_notices : (s.setLearned n v).notices = s.notices := rfl
@[simp] theorem State.setLearned_slots : (s.setLearned n v).slots = s.slots := rfl
@[simp] theorem State.setLearned_bus : (s.setLearned n v).bus = s.bus := rfl
@[simp] theorem State.setLearned_freeDraws : (s.setLearned n v).freeDraws = s.freeDraws := rfl
@[simp] theorem State.setLearned_pending : (s.setLearned n v).pending = s.pending := rfl
@[simp] theorem State.setLearned_lookup_stations : (s.setLearned n v).lookup.stations = s.lookup.stations := rfl
@[simp] theorem State.setLearned_lookup_sweep : (s.setLearned n v).lookup.sweep = s.lookup.sweep := rfl
@[simp] theorem State.setLearned_lookup_agingTimer : (s.setLearned n v).lookup.agingTimer = s.lookup.agingTimer := rfl
@[simp] theorem State.setLearned_lookup_flushQueue : (s.setLearned n v).lookup.flushQueue = s.lookup.flushQueue := rfl
@[simp] theorem State.setLearned_lookup_flushWalk : (s.setLearned n v).lookup.flushWalk = s.lookup.flushWalk := rfl
end setLearned

section setStation
variable (s : State) (w : Nat) (e : Station)

@[simp] theorem State.setStation_path : (s.setStation w e).path = s.path := rfl
@[simp] theorem State.setStation_tables : (s.setStation w e).tables = s.tables := rfl
@[simp] theorem State.setStation_cells : (s.setStation w e).cells = s.cells := rfl
@[simp] theorem State.setStation_intake : (s.setStation w e).intake = s.intake := rfl
@[simp] theorem State.setStation_admission : (s.setStation w e).admission = s.admission := rfl
@[simp] theorem State.setStation_queues : (s.setStation w e).queues = s.queues := rfl
@[simp] theorem State.setStation_live : (s.setStation w e).live = s.live := rfl
@[simp] theorem State.setStation_failover : (s.setStation w e).failover = s.failover := rfl
@[simp] theorem State.setStation_acct : (s.setStation w e).acct = s.acct := rfl
@[simp] theorem State.setStation_notices : (s.setStation w e).notices = s.notices := rfl
@[simp] theorem State.setStation_slots : (s.setStation w e).slots = s.slots := rfl
@[simp] theorem State.setStation_bus : (s.setStation w e).bus = s.bus := rfl
@[simp] theorem State.setStation_freeDraws : (s.setStation w e).freeDraws = s.freeDraws := rfl
@[simp] theorem State.setStation_pending : (s.setStation w e).pending = s.pending := rfl
@[simp] theorem State.setStation_lookup_learned : (s.setStation w e).lookup.learned = s.lookup.learned := rfl
@[simp] theorem State.setStation_lookup_sweep : (s.setStation w e).lookup.sweep = s.lookup.sweep := rfl
@[simp] theorem State.setStation_lookup_agingTimer : (s.setStation w e).lookup.agingTimer = s.lookup.agingTimer := rfl
@[simp] theorem State.setStation_lookup_flushQueue : (s.setStation w e).lookup.flushQueue = s.lookup.flushQueue := rfl
@[simp] theorem State.setStation_lookup_flushWalk : (s.setStation w e).lookup.flushWalk = s.lookup.flushWalk := rfl
end setStation

section removeStation
variable (s : State) (w : Nat)

@[simp] theorem State.removeStation_path : (s.removeStation w).path = s.path := rfl
@[simp] theorem State.removeStation_tables : (s.removeStation w).tables = s.tables := rfl
@[simp] theorem State.removeStation_cells : (s.removeStation w).cells = s.cells := rfl
@[simp] theorem State.removeStation_intake : (s.removeStation w).intake = s.intake := rfl
@[simp] theorem State.removeStation_admission : (s.removeStation w).admission = s.admission := rfl
@[simp] theorem State.removeStation_queues : (s.removeStation w).queues = s.queues := rfl
@[simp] theorem State.removeStation_live : (s.removeStation w).live = s.live := rfl
@[simp] theorem State.removeStation_failover : (s.removeStation w).failover = s.failover := rfl
@[simp] theorem State.removeStation_acct : (s.removeStation w).acct = s.acct := rfl
@[simp] theorem State.removeStation_notices : (s.removeStation w).notices = s.notices := rfl
@[simp] theorem State.removeStation_slots : (s.removeStation w).slots = s.slots := rfl
@[simp] theorem State.removeStation_bus : (s.removeStation w).bus = s.bus := rfl
@[simp] theorem State.removeStation_freeDraws : (s.removeStation w).freeDraws = s.freeDraws := rfl
@[simp] theorem State.removeStation_pending : (s.removeStation w).pending = s.pending := rfl
@[simp] theorem State.removeStation_lookup_learned : (s.removeStation w).lookup.learned = s.lookup.learned := rfl
@[simp] theorem State.removeStation_lookup_sweep : (s.removeStation w).lookup.sweep = s.lookup.sweep := rfl
@[simp] theorem State.removeStation_lookup_agingTimer : (s.removeStation w).lookup.agingTimer = s.lookup.agingTimer := rfl
@[simp] theorem State.removeStation_lookup_flushQueue : (s.removeStation w).lookup.flushQueue = s.lookup.flushQueue := rfl
@[simp] theorem State.removeStation_lookup_flushWalk : (s.removeStation w).lookup.flushWalk = s.lookup.flushWalk := rfl
end removeStation

section setQueue
variable (s : State) (p : Port) (c : Cls) (q : List Nat)

@[simp] theorem State.setQueue_path : (s.setQueue p c q).path = s.path := rfl
@[simp] theorem State.setQueue_tables : (s.setQueue p c q).tables = s.tables := rfl
@[simp] theorem State.setQueue_cells : (s.setQueue p c q).cells = s.cells := rfl
@[simp] theorem State.setQueue_intake : (s.setQueue p c q).intake = s.intake := rfl
@[simp] theorem State.setQueue_lookup : (s.setQueue p c q).lookup = s.lookup := rfl
@[simp] theorem State.setQueue_admission : (s.setQueue p c q).admission = s.admission := rfl
@[simp] theorem State.setQueue_live : (s.setQueue p c q).live = s.live := rfl
@[simp] theorem State.setQueue_failover : (s.setQueue p c q).failover = s.failover := rfl
@[simp] theorem State.setQueue_acct : (s.setQueue p c q).acct = s.acct := rfl
@[simp] theorem State.setQueue_notices : (s.setQueue p c q).notices = s.notices := rfl
@[simp] theorem State.setQueue_slots : (s.setQueue p c q).slots = s.slots := rfl
@[simp] theorem State.setQueue_bus : (s.setQueue p c q).bus = s.bus := rfl
@[simp] theorem State.setQueue_freeDraws : (s.setQueue p c q).freeDraws = s.freeDraws := rfl
@[simp] theorem State.setQueue_pending : (s.setQueue p c q).pending = s.pending := rfl
@[simp] theorem State.setQueue_queues_ports : (s.setQueue p c q).queues.ports = s.queues.ports := rfl
end setQueue

section setEgressPort
variable (s : State) (p : Port) (v : EgressPort)

@[simp] theorem State.setEgressPort_path : (s.setEgressPort p v).path = s.path := rfl
@[simp] theorem State.setEgressPort_tables : (s.setEgressPort p v).tables = s.tables := rfl
@[simp] theorem State.setEgressPort_cells : (s.setEgressPort p v).cells = s.cells := rfl
@[simp] theorem State.setEgressPort_intake : (s.setEgressPort p v).intake = s.intake := rfl
@[simp] theorem State.setEgressPort_lookup : (s.setEgressPort p v).lookup = s.lookup := rfl
@[simp] theorem State.setEgressPort_admission : (s.setEgressPort p v).admission = s.admission := rfl
@[simp] theorem State.setEgressPort_live : (s.setEgressPort p v).live = s.live := rfl
@[simp] theorem State.setEgressPort_failover : (s.setEgressPort p v).failover = s.failover := rfl
@[simp] theorem State.setEgressPort_acct : (s.setEgressPort p v).acct = s.acct := rfl
@[simp] theorem State.setEgressPort_notices : (s.setEgressPort p v).notices = s.notices := rfl
@[simp] theorem State.setEgressPort_slots : (s.setEgressPort p v).slots = s.slots := rfl
@[simp] theorem State.setEgressPort_bus : (s.setEgressPort p v).bus = s.bus := rfl
@[simp] theorem State.setEgressPort_freeDraws : (s.setEgressPort p v).freeDraws = s.freeDraws := rfl
@[simp] theorem State.setEgressPort_pending : (s.setEgressPort p v).pending = s.pending := rfl
@[simp] theorem State.setEgressPort_queues_queues : (s.setEgressPort p v).queues.queues = s.queues.queues := rfl
end setEgressPort

section setLivePort
variable (s : State) (p : Port) (v : LivePort)

@[simp] theorem State.setLivePort_path : (s.setLivePort p v).path = s.path := rfl
@[simp] theorem State.setLivePort_tables : (s.setLivePort p v).tables = s.tables := rfl
@[simp] theorem State.setLivePort_cells : (s.setLivePort p v).cells = s.cells := rfl
@[simp] theorem State.setLivePort_intake : (s.setLivePort p v).intake = s.intake := rfl
@[simp] theorem State.setLivePort_lookup : (s.setLivePort p v).lookup = s.lookup := rfl
@[simp] theorem State.setLivePort_admission : (s.setLivePort p v).admission = s.admission := rfl
@[simp] theorem State.setLivePort_queues : (s.setLivePort p v).queues = s.queues := rfl
@[simp] theorem State.setLivePort_failover : (s.setLivePort p v).failover = s.failover := rfl
@[simp] theorem State.setLivePort_acct : (s.setLivePort p v).acct = s.acct := rfl
@[simp] theorem State.setLivePort_notices : (s.setLivePort p v).notices = s.notices := rfl
@[simp] theorem State.setLivePort_slots : (s.setLivePort p v).slots = s.slots := rfl
@[simp] theorem State.setLivePort_bus : (s.setLivePort p v).bus = s.bus := rfl
@[simp] theorem State.setLivePort_freeDraws : (s.setLivePort p v).freeDraws = s.freeDraws := rfl
@[simp] theorem State.setLivePort_pending : (s.setLivePort p v).pending = s.pending := rfl
@[simp] theorem State.setLivePort_live_timebase : (s.setLivePort p v).live.timebase = s.live.timebase := rfl
@[simp] theorem State.setLivePort_live_div100us : (s.setLivePort p v).live.div100us = s.live.div100us := rfl
@[simp] theorem State.setLivePort_live_div10ms : (s.setLivePort p v).live.div10ms = s.live.div10ms := rfl
end setLivePort

section setGroupState
variable (s : State) (g : GroupId) (v : GroupState)

@[simp] theorem State.setGroupState_path : (s.setGroupState g v).path = s.path := rfl
@[simp] theorem State.setGroupState_tables : (s.setGroupState g v).tables = s.tables := rfl
@[simp] theorem State.setGroupState_cells : (s.setGroupState g v).cells = s.cells := rfl
@[simp] theorem State.setGroupState_intake : (s.setGroupState g v).intake = s.intake := rfl
@[simp] theorem State.setGroupState_lookup : (s.setGroupState g v).lookup = s.lookup := rfl
@[simp] theorem State.setGroupState_admission : (s.setGroupState g v).admission = s.admission := rfl
@[simp] theorem State.setGroupState_queues : (s.setGroupState g v).queues = s.queues := rfl
@[simp] theorem State.setGroupState_live : (s.setGroupState g v).live = s.live := rfl
@[simp] theorem State.setGroupState_acct : (s.setGroupState g v).acct = s.acct := rfl
@[simp] theorem State.setGroupState_notices : (s.setGroupState g v).notices = s.notices := rfl
@[simp] theorem State.setGroupState_slots : (s.setGroupState g v).slots = s.slots := rfl
@[simp] theorem State.setGroupState_bus : (s.setGroupState g v).bus = s.bus := rfl
@[simp] theorem State.setGroupState_freeDraws : (s.setGroupState g v).freeDraws = s.freeDraws := rfl
@[simp] theorem State.setGroupState_pending : (s.setGroupState g v).pending = s.pending := rfl
@[simp] theorem State.setGroupState_failover_work : (s.setGroupState g v).failover.work = s.failover.work := rfl
@[simp] theorem State.setGroupState_failover_walk : (s.setGroupState g v).failover.walk = s.failover.walk := rfl
@[simp] theorem State.setGroupState_failover_hold : (s.setGroupState g v).failover.hold = s.failover.hold := rfl
@[simp] theorem State.setGroupState_failover_drained : (s.setGroupState g v).failover.drained = s.failover.drained := rfl
end setGroupState

section setHeldCopies
variable (s : State) (g : GroupId) (q : List Nat)

@[simp] theorem State.setHeldCopies_path : (s.setHeldCopies g q).path = s.path := rfl
@[simp] theorem State.setHeldCopies_tables : (s.setHeldCopies g q).tables = s.tables := rfl
@[simp] theorem State.setHeldCopies_cells : (s.setHeldCopies g q).cells = s.cells := rfl
@[simp] theorem State.setHeldCopies_intake : (s.setHeldCopies g q).intake = s.intake := rfl
@[simp] theorem State.setHeldCopies_lookup : (s.setHeldCopies g q).lookup = s.lookup := rfl
@[simp] theorem State.setHeldCopies_admission : (s.setHeldCopies g q).admission = s.admission := rfl
@[simp] theorem State.setHeldCopies_queues : (s.setHeldCopies g q).queues = s.queues := rfl
@[simp] theorem State.setHeldCopies_live : (s.setHeldCopies g q).live = s.live := rfl
@[simp] theorem State.setHeldCopies_acct : (s.setHeldCopies g q).acct = s.acct := rfl
@[simp] theorem State.setHeldCopies_notices : (s.setHeldCopies g q).notices = s.notices := rfl
@[simp] theorem State.setHeldCopies_slots : (s.setHeldCopies g q).slots = s.slots := rfl
@[simp] theorem State.setHeldCopies_bus : (s.setHeldCopies g q).bus = s.bus := rfl
@[simp] theorem State.setHeldCopies_freeDraws : (s.setHeldCopies g q).freeDraws = s.freeDraws := rfl
@[simp] theorem State.setHeldCopies_pending : (s.setHeldCopies g q).pending = s.pending := rfl
@[simp] theorem State.setHeldCopies_failover_groupStates : (s.setHeldCopies g q).failover.groupStates = s.failover.groupStates := rfl
@[simp] theorem State.setHeldCopies_failover_work : (s.setHeldCopies g q).failover.work = s.failover.work := rfl
@[simp] theorem State.setHeldCopies_failover_walk : (s.setHeldCopies g q).failover.walk = s.failover.walk := rfl
@[simp] theorem State.setHeldCopies_failover_drained : (s.setHeldCopies g q).failover.drained = s.failover.drained := rfl
end setHeldCopies

section setDrained
variable (s : State) (p : Port) (v : Bool)

@[simp] theorem State.setDrained_path : (s.setDrained p v).path = s.path := rfl
@[simp] theorem State.setDrained_tables : (s.setDrained p v).tables = s.tables := rfl
@[simp] theorem State.setDrained_cells : (s.setDrained p v).cells = s.cells := rfl
@[simp] theorem State.setDrained_intake : (s.setDrained p v).intake = s.intake := rfl
@[simp] theorem State.setDrained_lookup : (s.setDrained p v).lookup = s.lookup := rfl
@[simp] theorem State.setDrained_admission : (s.setDrained p v).admission = s.admission := rfl
@[simp] theorem State.setDrained_queues : (s.setDrained p v).queues = s.queues := rfl
@[simp] theorem State.setDrained_live : (s.setDrained p v).live = s.live := rfl
@[simp] theorem State.setDrained_acct : (s.setDrained p v).acct = s.acct := rfl
@[simp] theorem State.setDrained_notices : (s.setDrained p v).notices = s.notices := rfl
@[simp] theorem State.setDrained_slots : (s.setDrained p v).slots = s.slots := rfl
@[simp] theorem State.setDrained_bus : (s.setDrained p v).bus = s.bus := rfl
@[simp] theorem State.setDrained_freeDraws : (s.setDrained p v).freeDraws = s.freeDraws := rfl
@[simp] theorem State.setDrained_pending : (s.setDrained p v).pending = s.pending := rfl
@[simp] theorem State.setDrained_failover_groupStates : (s.setDrained p v).failover.groupStates = s.failover.groupStates := rfl
@[simp] theorem State.setDrained_failover_work : (s.setDrained p v).failover.work = s.failover.work := rfl
@[simp] theorem State.setDrained_failover_walk : (s.setDrained p v).failover.walk = s.failover.walk := rfl
@[simp] theorem State.setDrained_failover_hold : (s.setDrained p v).failover.hold = s.failover.hold := rfl
end setDrained

section setWalk
variable (s : State) (w : Option Walk)

@[simp] theorem State.setWalk_path : (s.setWalk w).path = s.path := rfl
@[simp] theorem State.setWalk_tables : (s.setWalk w).tables = s.tables := rfl
@[simp] theorem State.setWalk_cells : (s.setWalk w).cells = s.cells := rfl
@[simp] theorem State.setWalk_intake : (s.setWalk w).intake = s.intake := rfl
@[simp] theorem State.setWalk_lookup : (s.setWalk w).lookup = s.lookup := rfl
@[simp] theorem State.setWalk_admission : (s.setWalk w).admission = s.admission := rfl
@[simp] theorem State.setWalk_queues : (s.setWalk w).queues = s.queues := rfl
@[simp] theorem State.setWalk_live : (s.setWalk w).live = s.live := rfl
@[simp] theorem State.setWalk_acct : (s.setWalk w).acct = s.acct := rfl
@[simp] theorem State.setWalk_notices : (s.setWalk w).notices = s.notices := rfl
@[simp] theorem State.setWalk_slots : (s.setWalk w).slots = s.slots := rfl
@[simp] theorem State.setWalk_bus : (s.setWalk w).bus = s.bus := rfl
@[simp] theorem State.setWalk_freeDraws : (s.setWalk w).freeDraws = s.freeDraws := rfl
@[simp] theorem State.setWalk_pending : (s.setWalk w).pending = s.pending := rfl
@[simp] theorem State.setWalk_failover_groupStates : (s.setWalk w).failover.groupStates = s.failover.groupStates := rfl
@[simp] theorem State.setWalk_failover_work : (s.setWalk w).failover.work = s.failover.work := rfl
@[simp] theorem State.setWalk_failover_hold : (s.setWalk w).failover.hold = s.failover.hold := rfl
@[simp] theorem State.setWalk_failover_drained : (s.setWalk w).failover.drained = s.failover.drained := rfl
end setWalk

section setWork
variable (s : State) (l : List (Port × WorkKind))

@[simp] theorem State.setWork_path : (s.setWork l).path = s.path := rfl
@[simp] theorem State.setWork_tables : (s.setWork l).tables = s.tables := rfl
@[simp] theorem State.setWork_cells : (s.setWork l).cells = s.cells := rfl
@[simp] theorem State.setWork_intake : (s.setWork l).intake = s.intake := rfl
@[simp] theorem State.setWork_lookup : (s.setWork l).lookup = s.lookup := rfl
@[simp] theorem State.setWork_admission : (s.setWork l).admission = s.admission := rfl
@[simp] theorem State.setWork_queues : (s.setWork l).queues = s.queues := rfl
@[simp] theorem State.setWork_live : (s.setWork l).live = s.live := rfl
@[simp] theorem State.setWork_acct : (s.setWork l).acct = s.acct := rfl
@[simp] theorem State.setWork_notices : (s.setWork l).notices = s.notices := rfl
@[simp] theorem State.setWork_slots : (s.setWork l).slots = s.slots := rfl
@[simp] theorem State.setWork_bus : (s.setWork l).bus = s.bus := rfl
@[simp] theorem State.setWork_freeDraws : (s.setWork l).freeDraws = s.freeDraws := rfl
@[simp] theorem State.setWork_pending : (s.setWork l).pending = s.pending := rfl
@[simp] theorem State.setWork_failover_groupStates : (s.setWork l).failover.groupStates = s.failover.groupStates := rfl
@[simp] theorem State.setWork_failover_walk : (s.setWork l).failover.walk = s.failover.walk := rfl
@[simp] theorem State.setWork_failover_hold : (s.setWork l).failover.hold = s.failover.hold := rfl
@[simp] theorem State.setWork_failover_drained : (s.setWork l).failover.drained = s.failover.drained := rfl
end setWork

section setTenantRecord
variable (s : State) (b : Fin 2) (n : Nat) (v : TenantRecord)

@[simp] theorem State.setTenantRecord_path : (s.setTenantRecord b n v).path = s.path := rfl
@[simp] theorem State.setTenantRecord_tables : (s.setTenantRecord b n v).tables = s.tables := rfl
@[simp] theorem State.setTenantRecord_cells : (s.setTenantRecord b n v).cells = s.cells := rfl
@[simp] theorem State.setTenantRecord_intake : (s.setTenantRecord b n v).intake = s.intake := rfl
@[simp] theorem State.setTenantRecord_lookup : (s.setTenantRecord b n v).lookup = s.lookup := rfl
@[simp] theorem State.setTenantRecord_admission : (s.setTenantRecord b n v).admission = s.admission := rfl
@[simp] theorem State.setTenantRecord_queues : (s.setTenantRecord b n v).queues = s.queues := rfl
@[simp] theorem State.setTenantRecord_live : (s.setTenantRecord b n v).live = s.live := rfl
@[simp] theorem State.setTenantRecord_failover : (s.setTenantRecord b n v).failover = s.failover := rfl
@[simp] theorem State.setTenantRecord_notices : (s.setTenantRecord b n v).notices = s.notices := rfl
@[simp] theorem State.setTenantRecord_slots : (s.setTenantRecord b n v).slots = s.slots := rfl
@[simp] theorem State.setTenantRecord_bus : (s.setTenantRecord b n v).bus = s.bus := rfl
@[simp] theorem State.setTenantRecord_freeDraws : (s.setTenantRecord b n v).freeDraws = s.freeDraws := rfl
@[simp] theorem State.setTenantRecord_pending : (s.setTenantRecord b n v).pending = s.pending := rfl
@[simp] theorem State.setTenantRecord_acct_live : (s.setTenantRecord b n v).acct.live = s.acct.live := rfl
@[simp] theorem State.setTenantRecord_acct_epoch : (s.setTenantRecord b n v).acct.epoch = s.acct.epoch := rfl
@[simp] theorem State.setTenantRecord_acct_openTime : (s.setTenantRecord b n v).acct.openTime = s.acct.openTime := rfl
@[simp] theorem State.setTenantRecord_acct_walk : (s.setTenantRecord b n v).acct.walk = s.acct.walk := rfl
end setTenantRecord

section setSlot
variable (s : State) (k : SlotId) (v : CommandSlot)

@[simp] theorem State.setSlot_path : (s.setSlot k v).path = s.path := rfl
@[simp] theorem State.setSlot_tables : (s.setSlot k v).tables = s.tables := rfl
@[simp] theorem State.setSlot_cells : (s.setSlot k v).cells = s.cells := rfl
@[simp] theorem State.setSlot_intake : (s.setSlot k v).intake = s.intake := rfl
@[simp] theorem State.setSlot_lookup : (s.setSlot k v).lookup = s.lookup := rfl
@[simp] theorem State.setSlot_admission : (s.setSlot k v).admission = s.admission := rfl
@[simp] theorem State.setSlot_queues : (s.setSlot k v).queues = s.queues := rfl
@[simp] theorem State.setSlot_live : (s.setSlot k v).live = s.live := rfl
@[simp] theorem State.setSlot_failover : (s.setSlot k v).failover = s.failover := rfl
@[simp] theorem State.setSlot_acct : (s.setSlot k v).acct = s.acct := rfl
@[simp] theorem State.setSlot_notices : (s.setSlot k v).notices = s.notices := rfl
@[simp] theorem State.setSlot_bus : (s.setSlot k v).bus = s.bus := rfl
@[simp] theorem State.setSlot_freeDraws : (s.setSlot k v).freeDraws = s.freeDraws := rfl
@[simp] theorem State.setSlot_pending : (s.setSlot k v).pending = s.pending := rfl
end setSlot

section setArgs
variable (s : State) (k : SlotId) (v : List Byte)

@[simp] theorem State.setArgs_tables : (s.setArgs k v).tables = s.tables := rfl
@[simp] theorem State.setArgs_cells : (s.setArgs k v).cells = s.cells := rfl
@[simp] theorem State.setArgs_intake : (s.setArgs k v).intake = s.intake := rfl
@[simp] theorem State.setArgs_lookup : (s.setArgs k v).lookup = s.lookup := rfl
@[simp] theorem State.setArgs_admission : (s.setArgs k v).admission = s.admission := rfl
@[simp] theorem State.setArgs_queues : (s.setArgs k v).queues = s.queues := rfl
@[simp] theorem State.setArgs_live : (s.setArgs k v).live = s.live := rfl
@[simp] theorem State.setArgs_failover : (s.setArgs k v).failover = s.failover := rfl
@[simp] theorem State.setArgs_acct : (s.setArgs k v).acct = s.acct := rfl
@[simp] theorem State.setArgs_notices : (s.setArgs k v).notices = s.notices := rfl
@[simp] theorem State.setArgs_slots : (s.setArgs k v).slots = s.slots := rfl
@[simp] theorem State.setArgs_bus : (s.setArgs k v).bus = s.bus := rfl
@[simp] theorem State.setArgs_freeDraws : (s.setArgs k v).freeDraws = s.freeDraws := rfl
@[simp] theorem State.setArgs_pending : (s.setArgs k v).pending = s.pending := rfl
@[simp] theorem State.setArgs_path_winbase : (s.setArgs k v).path.winbase = s.path.winbase := rfl
@[simp] theorem State.setArgs_path_mode : (s.setArgs k v).path.mode = s.path.mode := rfl
@[simp] theorem State.setArgs_path_staging : (s.setArgs k v).path.staging = s.path.staging := rfl
end setArgs

section forward
variable (s : State) (a : Nat) (g : Lanes)

@[simp] theorem State.forward_path : (s.forward a g).path = s.path := rfl
@[simp] theorem State.forward_tables : (s.forward a g).tables = s.tables := rfl
@[simp] theorem State.forward_cells : (s.forward a g).cells = s.cells := rfl
@[simp] theorem State.forward_intake : (s.forward a g).intake = s.intake := rfl
@[simp] theorem State.forward_lookup : (s.forward a g).lookup = s.lookup := rfl
@[simp] theorem State.forward_admission : (s.forward a g).admission = s.admission := rfl
@[simp] theorem State.forward_queues : (s.forward a g).queues = s.queues := rfl
@[simp] theorem State.forward_live : (s.forward a g).live = s.live := rfl
@[simp] theorem State.forward_failover : (s.forward a g).failover = s.failover := rfl
@[simp] theorem State.forward_acct : (s.forward a g).acct = s.acct := rfl
@[simp] theorem State.forward_notices : (s.forward a g).notices = s.notices := rfl
@[simp] theorem State.forward_slots : (s.forward a g).slots = s.slots := rfl
@[simp] theorem State.forward_freeDraws : (s.forward a g).freeDraws = s.freeDraws := rfl
@[simp] theorem State.forward_pending : (s.forward a g).pending = s.pending := rfl
@[simp] theorem State.forward_bus_sent : (s.forward a g).bus.sent = s.bus.sent := rfl
@[simp] theorem State.forward_bus_notices : (s.forward a g).bus.notices = s.bus.notices := rfl
@[simp] theorem State.forward_bus_statuses : (s.forward a g).bus.statuses = s.bus.statuses := rfl
end forward

section emit
variable (s : State) (o : Nat) (b : List Byte)

@[simp] theorem State.emit_path : (s.emit o b).path = s.path := rfl
@[simp] theorem State.emit_tables : (s.emit o b).tables = s.tables := rfl
@[simp] theorem State.emit_cells : (s.emit o b).cells = s.cells := rfl
@[simp] theorem State.emit_intake : (s.emit o b).intake = s.intake := rfl
@[simp] theorem State.emit_lookup : (s.emit o b).lookup = s.lookup := rfl
@[simp] theorem State.emit_admission : (s.emit o b).admission = s.admission := rfl
@[simp] theorem State.emit_queues : (s.emit o b).queues = s.queues := rfl
@[simp] theorem State.emit_live : (s.emit o b).live = s.live := rfl
@[simp] theorem State.emit_failover : (s.emit o b).failover = s.failover := rfl
@[simp] theorem State.emit_acct : (s.emit o b).acct = s.acct := rfl
@[simp] theorem State.emit_notices : (s.emit o b).notices = s.notices := rfl
@[simp] theorem State.emit_slots : (s.emit o b).slots = s.slots := rfl
@[simp] theorem State.emit_freeDraws : (s.emit o b).freeDraws = s.freeDraws := rfl
@[simp] theorem State.emit_pending : (s.emit o b).pending = s.pending := rfl
@[simp] theorem State.emit_bus_sent : (s.emit o b).bus.sent = s.bus.sent := rfl
@[simp] theorem State.emit_bus_notices : (s.emit o b).bus.notices = s.bus.notices := rfl
@[simp] theorem State.emit_bus_statuses : (s.emit o b).bus.statuses = s.bus.statuses := rfl
end emit

section emitStatus
variable (s : State) (o : Nat) (b : List Byte)

@[simp] theorem State.emitStatus_path : (s.emitStatus o b).path = s.path := rfl
@[simp] theorem State.emitStatus_tables : (s.emitStatus o b).tables = s.tables := rfl
@[simp] theorem State.emitStatus_cells : (s.emitStatus o b).cells = s.cells := rfl
@[simp] theorem State.emitStatus_intake : (s.emitStatus o b).intake = s.intake := rfl
@[simp] theorem State.emitStatus_lookup : (s.emitStatus o b).lookup = s.lookup := rfl
@[simp] theorem State.emitStatus_admission : (s.emitStatus o b).admission = s.admission := rfl
@[simp] theorem State.emitStatus_queues : (s.emitStatus o b).queues = s.queues := rfl
@[simp] theorem State.emitStatus_live : (s.emitStatus o b).live = s.live := rfl
@[simp] theorem State.emitStatus_failover : (s.emitStatus o b).failover = s.failover := rfl
@[simp] theorem State.emitStatus_acct : (s.emitStatus o b).acct = s.acct := rfl
@[simp] theorem State.emitStatus_notices : (s.emitStatus o b).notices = s.notices := rfl
@[simp] theorem State.emitStatus_slots : (s.emitStatus o b).slots = s.slots := rfl
@[simp] theorem State.emitStatus_freeDraws : (s.emitStatus o b).freeDraws = s.freeDraws := rfl
@[simp] theorem State.emitStatus_pending : (s.emitStatus o b).pending = s.pending := rfl
@[simp] theorem State.emitStatus_bus_sent : (s.emitStatus o b).bus.sent = s.bus.sent := rfl
@[simp] theorem State.emitStatus_bus_writes : (s.emitStatus o b).bus.writes = s.bus.writes := rfl
@[simp] theorem State.emitStatus_bus_notices : (s.emitStatus o b).bus.notices = s.bus.notices := rfl
end emitStatus

section finish
variable (s : State)

@[simp] theorem State.finish_path : s.finish.path = s.path := rfl
@[simp] theorem State.finish_tables : s.finish.tables = s.tables := rfl
@[simp] theorem State.finish_cells : s.finish.cells = s.cells := rfl
@[simp] theorem State.finish_intake : s.finish.intake = s.intake := rfl
@[simp] theorem State.finish_lookup : s.finish.lookup = s.lookup := rfl
@[simp] theorem State.finish_admission : s.finish.admission = s.admission := rfl
@[simp] theorem State.finish_queues : s.finish.queues = s.queues := rfl
@[simp] theorem State.finish_live : s.finish.live = s.live := rfl
@[simp] theorem State.finish_failover : s.finish.failover = s.failover := rfl
@[simp] theorem State.finish_acct : s.finish.acct = s.acct := rfl
@[simp] theorem State.finish_notices : s.finish.notices = s.notices := rfl
@[simp] theorem State.finish_slots : s.finish.slots = s.slots := rfl
@[simp] theorem State.finish_freeDraws : s.finish.freeDraws = s.freeDraws := rfl
@[simp] theorem State.finish_pending : s.finish.pending = s.pending := rfl
end finish

section setExport
variable (s : State) (w : Option ExportWalk)

@[simp] theorem State.setExport_path : (s.setExport w).path = s.path := rfl
@[simp] theorem State.setExport_tables : (s.setExport w).tables = s.tables := rfl
@[simp] theorem State.setExport_cells : (s.setExport w).cells = s.cells := rfl
@[simp] theorem State.setExport_intake : (s.setExport w).intake = s.intake := rfl
@[simp] theorem State.setExport_lookup : (s.setExport w).lookup = s.lookup := rfl
@[simp] theorem State.setExport_admission : (s.setExport w).admission = s.admission := rfl
@[simp] theorem State.setExport_queues : (s.setExport w).queues = s.queues := rfl
@[simp] theorem State.setExport_live : (s.setExport w).live = s.live := rfl
@[simp] theorem State.setExport_failover : (s.setExport w).failover = s.failover := rfl
@[simp] theorem State.setExport_notices : (s.setExport w).notices = s.notices := rfl
@[simp] theorem State.setExport_slots : (s.setExport w).slots = s.slots := rfl
@[simp] theorem State.setExport_bus : (s.setExport w).bus = s.bus := rfl
@[simp] theorem State.setExport_freeDraws : (s.setExport w).freeDraws = s.freeDraws := rfl
@[simp] theorem State.setExport_pending : (s.setExport w).pending = s.pending := rfl
@[simp] theorem State.setExport_acct_records : (s.setExport w).acct.records = s.acct.records := rfl
@[simp] theorem State.setExport_acct_live : (s.setExport w).acct.live = s.acct.live := rfl
@[simp] theorem State.setExport_acct_epoch : (s.setExport w).acct.epoch = s.acct.epoch := rfl
@[simp] theorem State.setExport_acct_openTime : (s.setExport w).acct.openTime = s.acct.openTime := rfl
end setExport

section setTables
variable (s : State) (t : Installed)

@[simp] theorem State.setTables_path : (s.setTables t).path = s.path := rfl
@[simp] theorem State.setTables_cells : (s.setTables t).cells = s.cells := rfl
@[simp] theorem State.setTables_intake : (s.setTables t).intake = s.intake := rfl
@[simp] theorem State.setTables_lookup : (s.setTables t).lookup = s.lookup := rfl
@[simp] theorem State.setTables_admission : (s.setTables t).admission = s.admission := rfl
@[simp] theorem State.setTables_queues : (s.setTables t).queues = s.queues := rfl
@[simp] theorem State.setTables_live : (s.setTables t).live = s.live := rfl
@[simp] theorem State.setTables_failover : (s.setTables t).failover = s.failover := rfl
@[simp] theorem State.setTables_acct : (s.setTables t).acct = s.acct := rfl
@[simp] theorem State.setTables_notices : (s.setTables t).notices = s.notices := rfl
@[simp] theorem State.setTables_slots : (s.setTables t).slots = s.slots := rfl
@[simp] theorem State.setTables_bus : (s.setTables t).bus = s.bus := rfl
@[simp] theorem State.setTables_freeDraws : (s.setTables t).freeDraws = s.freeDraws := rfl
@[simp] theorem State.setTables_pending : (s.setTables t).pending = s.pending := rfl
end setTables

section setStaging
variable (s : State) (v : Option Staging)

@[simp] theorem State.setStaging_tables : (s.setStaging v).tables = s.tables := rfl
@[simp] theorem State.setStaging_cells : (s.setStaging v).cells = s.cells := rfl
@[simp] theorem State.setStaging_intake : (s.setStaging v).intake = s.intake := rfl
@[simp] theorem State.setStaging_lookup : (s.setStaging v).lookup = s.lookup := rfl
@[simp] theorem State.setStaging_admission : (s.setStaging v).admission = s.admission := rfl
@[simp] theorem State.setStaging_queues : (s.setStaging v).queues = s.queues := rfl
@[simp] theorem State.setStaging_live : (s.setStaging v).live = s.live := rfl
@[simp] theorem State.setStaging_failover : (s.setStaging v).failover = s.failover := rfl
@[simp] theorem State.setStaging_acct : (s.setStaging v).acct = s.acct := rfl
@[simp] theorem State.setStaging_notices : (s.setStaging v).notices = s.notices := rfl
@[simp] theorem State.setStaging_slots : (s.setStaging v).slots = s.slots := rfl
@[simp] theorem State.setStaging_bus : (s.setStaging v).bus = s.bus := rfl
@[simp] theorem State.setStaging_freeDraws : (s.setStaging v).freeDraws = s.freeDraws := rfl
@[simp] theorem State.setStaging_pending : (s.setStaging v).pending = s.pending := rfl
@[simp] theorem State.setStaging_path_winbase : (s.setStaging v).path.winbase = s.path.winbase := rfl
@[simp] theorem State.setStaging_path_mode : (s.setStaging v).path.mode = s.path.mode := rfl
@[simp] theorem State.setStaging_path_args : (s.setStaging v).path.args = s.path.args := rfl
end setStaging

/-! ## What a block's entry reads after an update of that block -/

section readBack
variable (s : State)

@[simp] theorem State.setFrame_frame (n k : Nat) (v : Frame) :
    (s.setFrame n v).frame k = if k = n then some v else s.frame k := Table.find_put _ _ _ _

@[simp] theorem State.removeFrame_frame (n k : Nat) :
    (s.removeFrame n).frame k = if k = n then none else s.frame k := Table.find_erase _ _ _

@[simp] theorem State.setCopy_copy (n k : Nat) (v : Copy) :
    (s.setCopy n v).copy k = if k = n then some v else s.copy k := Table.find_put _ _ _ _

theorem fin_val_eq_iff {n : Nat} (a b : Fin n) : (a : Nat) = b ↔ a = b := Fin.ext_iff.symm

@[simp] theorem State.setCellPort_cellPort (p p' : Port) (v : CellPort) :
    (s.setCellPort p v).cellPort p' = if p' = p then v else s.cellPort p' := by
  simp only [State.setCellPort, State.cellPort, Table.getD_setD, fin_val_eq_iff]

@[simp] theorem State.setIntakePort_intakePort (p p' : Port) (v : IntakePort) :
    (s.setIntakePort p v).intakePort p' = if p' = p then v else s.intakePort p' := by
  simp only [State.setIntakePort, State.intakePort, Table.getD_setD, fin_val_eq_iff]

@[simp] theorem State.setMeter_meter (n n' : Tenant) (v : Meter) :
    (s.setMeter n v).meter n' = if n' = n then v else s.meter n' := by
  simp only [State.setMeter, State.meter, Table.getD_setD, fin_val_eq_iff]

@[simp] theorem State.setHeldCells_heldCells (n n' : Tenant) (v : Nat) :
    (s.setHeldCells n v).heldCells n' = if n' = n then v else s.heldCells n' := by
  simp only [State.setHeldCells, State.heldCells, Table.getD_setD, fin_val_eq_iff]

@[simp] theorem State.setLearned_learned (n n' : Tenant) (v : Nat) :
    (s.setLearned n v).learned n' = if n' = n then v else s.learned n' := by
  simp only [State.setLearned, State.learned, Table.getD_setD, fin_val_eq_iff]

@[simp] theorem State.setEgressPort_egressPort (p p' : Port) (v : EgressPort) :
    (s.setEgressPort p v).egressPort p' = if p' = p then v else s.egressPort p' := by
  simp only [State.setEgressPort, State.egressPort, Table.getD_setD, fin_val_eq_iff]

@[simp] theorem State.setLivePort_livePort (p p' : Port) (v : LivePort) :
    (s.setLivePort p v).livePort p' = if p' = p then v else s.livePort p' := by
  simp only [State.setLivePort, State.livePort, Table.getD_setD, fin_val_eq_iff]

@[simp] theorem State.setGroupState_groupState (g g' : GroupId) (v : GroupState) :
    (s.setGroupState g v).groupState g' = if g' = g then v else s.groupState g' := by
  simp only [State.setGroupState, State.groupState, Table.getD_setD, fin_val_eq_iff]

@[simp] theorem State.setHeldCopies_heldCopies (g g' : GroupId) (v : List Nat) :
    (s.setHeldCopies g v).heldCopies g' = if g' = g then v else s.heldCopies g' := by
  simp only [State.setHeldCopies, State.heldCopies, Table.getD_setD, fin_val_eq_iff]

@[simp] theorem State.setDrained_isDrained (p p' : Port) (v : Bool) :
    (s.setDrained p v).isDrained p' = if p' = p then v else s.isDrained p' := by
  simp only [State.setDrained, State.isDrained, Table.getD_setD, fin_val_eq_iff]

@[simp] theorem State.setSlot_slot (k k' : SlotId) (v : CommandSlot) :
    (s.setSlot k v).slot k' = if k' = k then v else s.slot k' := by
  simp only [State.setSlot, State.slot, Table.getD_setD, fin_val_eq_iff]

@[simp] theorem State.setArgs_args (k k' : SlotId) (v : List Byte) :
    (s.setArgs k v).args k' = if k' = k then v else s.args k' := by
  simp only [State.setArgs, State.args, Table.getD_setD, fin_val_eq_iff]

theorem queueKey_eq_iff (p p' : Port) (c c' : Cls) : 4 * (p' : Nat) + c' = 4 * p + c ↔ p' = p ∧ c' = c := by
  constructor
  · intro h
    have hc := c.isLt
    have hc' := c'.isLt
    exact ⟨Fin.ext (by omega), Fin.ext (by omega)⟩
  · rintro ⟨rfl, rfl⟩
    rfl

@[simp] theorem State.setQueue_queue (p p' : Port) (c c' : Cls) (q : List Nat) :
    (s.setQueue p c q).queue p' c' = if p' = p ∧ c' = c then q else s.queue p' c' := by
  simp only [State.setQueue, State.queue, Table.getD_setD, queueKey_eq_iff]

theorem recordKey_eq_iff (b b' : Fin 2) (n n' : Nat) (h : n < 256) (h' : n' < 256) :
    256 * (b' : Nat) + n' = 256 * b + n ↔ b' = b ∧ n' = n := by
  constructor
  · intro e
    exact ⟨Fin.ext (by omega), by omega⟩
  · rintro ⟨rfl, rfl⟩
    rfl

theorem State.setTenantRecord_tenantRecord (b b' : Fin 2) (n n' : Nat) (v : TenantRecord) (h : n < 256)
    (h' : n' < 256) :
    (s.setTenantRecord b n v).tenantRecord b' n' = if b' = b ∧ n' = n then v else s.tenantRecord b' n' := by
  simp only [State.setTenantRecord, State.tenantRecord, Table.getD_setD, recordKey_eq_iff b b' n n' h h']

@[simp] theorem State.setTenantRecord_self (b : Fin 2) (n : Nat) (v : TenantRecord) :
    (s.setTenantRecord b n v).tenantRecord b n = v := by
  simp only [State.setTenantRecord, State.tenantRecord, Table.getD_setD_self]

@[simp] theorem State.setWalk_walk (w : Option Walk) : (s.setWalk w).failover.walk = w := rfl
@[simp] theorem State.setWork_work (l : List (Port × WorkKind)) : (s.setWork l).failover.work = l := rfl
@[simp] theorem State.setExport_walk (w : Option ExportWalk) : (s.setExport w).acct.walk = w := rfl
@[simp] theorem State.setStaging_staging (v : Option Staging) : (s.setStaging v).path.staging = v := rfl
@[simp] theorem State.setTables_tables (t : Installed) : (s.setTables t).tables = t := rfl
@[simp] theorem State.setStation_stations (w : Nat) (e : Station) :
    (s.setStation w e).lookup.stations = s.lookup.stations.put w e := rfl
@[simp] theorem State.removeStation_stations (w : Nat) :
    (s.removeStation w).lookup.stations = s.lookup.stations.erase w := rfl

end readBack

end Sys2Proof.Machine
end

