-- ==== Sys2Proof/Laws/Failover.lean ====
section
/-! SUPPORT. Said once: what placing a via-group copy can do (R137, R143, R145), what a recompute of a group does (R132),
and the small lemmas of lists of notices. -/
namespace Sys2Proof.Machine

@[simp] theorem State.noticed_nil (s : State) : s.noticed [] = s := rfl

@[simp] theorem State.noticed_cons (s : State) (n : NoticeAsk) (l : List NoticeAsk) :
    s.noticed (n :: l) = (s.ask n.kind n.subject n.first n.second).noticed l := rfl

theorem State.noticed_append (s : State) (l m : List NoticeAsk) : s.noticed (l ++ m) = (s.noticed l).noticed m := by
  simp [State.noticed, List.foldl_append]

/-- A fresh member choice retires the copy under NO_PATH or MERGED, or queues it on the port chosen. -/
theorem State.rechoose_cases {s : State} {k : Copy} {f : Frame} (tag : Nat) (g : GroupId)
    (hf : s.frame k.frame = some f) :
    (s.memberChoice g f.flowHash = none ∧ s.rechoose tag k g = (s.retire tag .noPath, none)) ∨
      ∃ q, s.memberChoice g f.flowHash = some q ∧
        ((q ∈ f.ports ∧ s.rechoose tag k g = (s.retire tag .merged, none)) ∨
          (q ∉ f.ports ∧ s.rechoose tag k g = (s.appendQueued tag k q, some q))) := by
  cases h : s.memberChoice g f.flowHash with
  | none => exact .inl ⟨rfl, by simp [State.rechoose, hf, h]⟩
  | some q =>
    refine .inr ⟨q, rfl, ?_⟩
    by_cases hq : q ∈ f.ports
    · exact .inl ⟨hq, by simp [State.rechoose, hf, h, hq]⟩
    · exact .inr ⟨hq, by simp [State.rechoose, hf, h, hq]⟩

/-- Work waits or a walk runs, in the words of R143. -/
theorem State.walkWork_iff (s : State) :
    s.walkWork = true ↔ s.failover.work ≠ [] ∨ s.failover.walk.isSome = true := by
  simp [State.walkWork]

/-- A late abort, the copy's port left (`s2`): held, refused by a full pool, or re-chosen at once. -/
theorem State.lateAbort_cases (s : State) (tag : Nat) (k : Copy) (g : GroupId) :
    ∃ s2 : State,
      s2 = (match k.port with | some p => s.leavePort k.frame p | none => s).setCopy tag { k with port := none } ∧
        ((s2.walkWork = true ∧ s2.holdCount < Config.holdRoom ∧
            s.lateAbort tag k g = (s2.hold tag { k with port := none } g, none)) ∨
          (s2.walkWork = true ∧ Config.holdRoom ≤ s2.holdCount ∧
            s.lateAbort tag k g = (s2.retire tag .holdFull, none)) ∨
          (s2.walkWork = false ∧ s.lateAbort tag k g = s2.rechoose tag { k with port := none } g)) := by
  refine ⟨_, rfl, ?_⟩
  dsimp only [State.lateAbort]
  generalize State.setCopy _ tag _ = s2
  by_cases hw : s2.walkWork = true
  · by_cases hh : s2.holdCount < Config.holdRoom
    · exact .inl ⟨hw, hh, by rw [if_pos hw, if_pos hh]⟩
    · exact .inr (.inl ⟨hw, Nat.le_of_not_lt hh, by rw [if_pos hw, if_neg hh]⟩)
  · exact .inr (.inr ⟨by simpa using hw, if_neg hw⟩)

/-- A recompute either finds the group's state, or sets what it finds and asks for GROUP_STATE. -/
theorem State.recomputeGroup_cases (s : State) (g : GroupId) :
    (s.computeGroup g = s.groupState g ∧ s.recomputeGroup g = s) ∨
      (s.computeGroup g ≠ s.groupState g ∧
        s.recomputeGroup g =
          (s.setGroupState g (s.computeGroup g)).ask .groupState g
            (256 * (s.groupState g).code + (s.computeGroup g).code)
            (65536 * (s.usable g).length + (s.evacuatingMembers g).length)) := by
  by_cases h : s.computeGroup g = s.groupState g
  · exact .inl ⟨h, by simp [State.recomputeGroup, h]⟩
  · exact .inr ⟨h, by simp [State.recomputeGroup, h]⟩

end Sys2Proof.Machine
end

