-- ==== Sys2Proof/Laws/Keeps.lean ====
section
/-! SUPPORT. What no operation inside an action touches: the window base, the mode, the installed tables, the clock, the
queue of commands, the stream already sent and the consumer copy; and the notice ring keeps its room. Each lemma is in
chaining form: what holds up to a state holds after one more operation on it. -/
namespace Sys2Proof.Machine

/-- Between `r` and `s` nothing has happened but effects inside an action. -/
structure Keeps (r s : State) : Prop where
  winbase : s.path.winbase = r.path.winbase
  mode : s.path.mode = r.path.mode
  tables : s.tables = r.tables
  timebase : s.live.timebase = r.live.timebase
  div100us : s.live.div100us = r.live.div100us
  div10ms : s.live.div10ms = r.live.div10ms
  pending : s.pending = r.pending
  sent : s.bus.sent = r.bus.sent
  consumer : s.notices.consumer = r.notices.consumer
  room : (r.notices.producer - r.notices.consumer).toNat ≤ Config.noticeRoom →
    (s.notices.producer - s.notices.consumer).toNat ≤ Config.noticeRoom

namespace Keeps

variable {r s t : State}

theorem refl (s : State) : Keeps s s := ⟨rfl, rfl, rfl, rfl, rfl, rfl, rfl, rfl, rfl, id⟩

theorem trans (h : Keeps r s) (k : Keeps s t) : Keeps r t :=
  ⟨k.1.trans h.1, k.2.trans h.2, k.3.trans h.3, k.4.trans h.4, k.5.trans h.5, k.6.trans h.6, k.7.trans h.7,
    k.8.trans h.8, k.9.trans h.9, k.10 ∘ h.10⟩

theorem isActive (h : Keeps r s) : s.isActive = r.isActive := by unfold State.isActive; rw [h.mode]

/-! ## Whole blocks -/

theorem cells (h : Keeps r s) (v : CellManager) : Keeps r { s with cells := v } :=
  h.trans ⟨rfl, rfl, rfl, rfl, rfl, rfl, rfl, rfl, rfl, id⟩
theorem intake (h : Keeps r s) (v : Table IntakePort) : Keeps r { s with intake := v } :=
  h.trans ⟨rfl, rfl, rfl, rfl, rfl, rfl, rfl, rfl, rfl, id⟩
theorem lookup (h : Keeps r s) (v : LookupUnit) : Keeps r { s with lookup := v } :=
  h.trans ⟨rfl, rfl, rfl, rfl, rfl, rfl, rfl, rfl, rfl, id⟩
theorem admission (h : Keeps r s) (v : AdmissionUnit) : Keeps r { s with admission := v } :=
  h.trans ⟨rfl, rfl, rfl, rfl, rfl, rfl, rfl, rfl, rfl, id⟩
theorem queues (h : Keeps r s) (v : QueueManager) : Keeps r { s with queues := v } :=
  h.trans ⟨rfl, rfl, rfl, rfl, rfl, rfl, rfl, rfl, rfl, id⟩
theorem failover (h : Keeps r s) (v : FailoverController) : Keeps r { s with failover := v } :=
  h.trans ⟨rfl, rfl, rfl, rfl, rfl, rfl, rfl, rfl, rfl, id⟩
theorem acct (h : Keeps r s) (v : AccountingUnit) : Keeps r { s with acct := v } :=
  h.trans ⟨rfl, rfl, rfl, rfl, rfl, rfl, rfl, rfl, rfl, id⟩
theorem slots (h : Keeps r s) (v : Table CommandSlot) : Keeps r { s with slots := v } :=
  h.trans ⟨rfl, rfl, rfl, rfl, rfl, rfl, rfl, rfl, rfl, id⟩
theorem freeDraws (h : Keeps r s) (v : Nat) : Keeps r { s with freeDraws := v } :=
  h.trans ⟨rfl, rfl, rfl, rfl, rfl, rfl, rfl, rfl, rfl, id⟩
theorem setArgs (h : Keeps r s) (k : SlotId) (v : List Byte) : Keeps r (s.setArgs k v) :=
  h.trans ⟨rfl, rfl, rfl, rfl, rfl, rfl, rfl, rfl, rfl, id⟩
theorem setFrame (h : Keeps r s) (n : Nat) (v : Frame) : Keeps r (s.setFrame n v) := h.cells _
theorem setMeter (h : Keeps r s) (n : Tenant) (v : Meter) : Keeps r (s.setMeter n v) := h.admission _
theorem setHeldCells (h : Keeps r s) (n : Tenant) (v : Nat) : Keeps r (s.setHeldCells n v) := h.admission _
theorem setCopy (h : Keeps r s) (n : Nat) (v : Copy) : Keeps r (s.setCopy n v) := h.cells _
theorem setStaging (h : Keeps r s) (v : Option Staging) : Keeps r (s.setStaging v) :=
  h.trans ⟨rfl, rfl, rfl, rfl, rfl, rfl, rfl, rfl, rfl, id⟩
theorem setLivePort (h : Keeps r s) (p : Port) (v : LivePort) : Keeps r (s.setLivePort p v) :=
  h.trans ⟨rfl, rfl, rfl, rfl, rfl, rfl, rfl, rfl, rfl, id⟩
theorem forward (h : Keeps r s) (a : Nat) (g : Lanes) : Keeps r (s.forward a g) :=
  h.trans ⟨rfl, rfl, rfl, rfl, rfl, rfl, rfl, rfl, rfl, id⟩
theorem emit (h : Keeps r s) (o : Nat) (b : List Byte) : Keeps r (s.emit o b) :=
  h.trans ⟨rfl, rfl, rfl, rfl, rfl, rfl, rfl, rfl, rfl, id⟩
theorem emitStatus (h : Keeps r s) (o : Nat) (b : List Byte) : Keeps r (s.emitStatus o b) :=
  h.trans ⟨rfl, rfl, rfl, rfl, rfl, rfl, rfl, rfl, rfl, id⟩

/-- A notice asked for takes room only where there is room. -/
theorem ask (h : Keeps r s) (k : NoticeKind) (a b c : Nat) : Keeps r (s.ask k a b c) := by
  unfold State.ask
  split
  case isTrue => exact h.trans ⟨rfl, rfl, rfl, rfl, rfl, rfl, rfl, rfl, rfl, id⟩
  case isFalse hf =>
    refine h.trans ⟨rfl, rfl, rfl, rfl, rfl, rfl, rfl, rfl, rfl, fun _ => ?_⟩
    have hf' : (s.notices.producer - s.notices.consumer).toNat < 1024 := by
      by_contra hlt
      exact hf (decide_eq_true (not_lt.1 hlt))
    show ((s.notices.producer + 1) - s.notices.consumer).toNat ≤ 1024
    bv_omega

theorem foldl {β : Type} (f : State → β → State) (hf : ∀ (u : State) (b : β), Keeps r u → Keeps r (f u b))
    (l : List β) (h : Keeps r s) : Keeps r (l.foldl f s) := by
  induction l generalizing s with
  | nil => exact h
  | cons b l ih => exact ih (hf s b h)

theorem foldlFst {β γ : Type} (f : State × γ → β → State × γ)
    (hf : ∀ (u : State × γ) (b : β), Keeps r u.1 → Keeps r (f u b).1) (l : List β) {x : State × γ}
    (h : Keeps r x.1) : Keeps r (l.foldl f x).1 := by
  induction l generalizing x with
  | nil => exact h
  | cons b l ih => exact ih (hf x b h)

/-! ## Counters and cells -/

theorem updateLive (h : Keeps r s) (n : Tenant) (f : TenantRecord → TenantRecord) : Keeps r (s.updateLive n f) :=
  h.acct _
theorem countDrop (h : Keeps r s) (c : DropCause) (n : Tenant) : Keeps r (s.countDrop c n) := h.acct _
theorem countMerged (h : Keeps r s) (n : Tenant) : Keeps r (s.countMerged n) := h.acct _
theorem countRefusal (h : Keeps r s) (n : Tenant) : Keeps r (s.countRefusal n) := h.acct _
theorem countAdmitted (h : Keeps r s) (c : Colour) (n : Tenant) : Keeps r (s.countAdmitted c n) := h.acct _

theorem countRetired (h : Keeps r s) (c : RetireCause) (f : Frame) (k : Copy) : Keeps r (s.countRetired c f k) := by
  cases c <;> exact h.acct _

theorem issueCells (h : Keeps r s) (p : Port) (n : Nat) : Keeps r (s.issueCells p n) :=
  h.trans ⟨rfl, rfl, rfl, rfl, rfl, rfl, rfl, rfl, rfl, id⟩

theorem refillPort (h : Keeps r s) (p : Port) : Keeps r (s.refillPort p) := by
  unfold State.refillPort; split; exacts [h, h.issueCells _ _]

theorem refillRun (h : Keeps r s) : Keeps r s.refillRun := by
  unfold State.refillRun; split
  exacts [foldl _ (fun _ p k => k.refillPort p) _ h, h]

theorem setShed (h : Keeps r s) (l : ShedLevel) : Keeps r (s.setShed l) := (h.admission _).ask _ _ _ _

theorem reportFree (h : Keeps r s) (n : Nat) : Keeps r (s.reportFree n) := by
  induction n generalizing s with
  | zero => exact h
  | succ n ih =>
    unfold State.reportFree
    dsimp only
    split
    · exact h
    · split
      · split
        exacts [h.setShed _, ih (h.setShed _).refillRun]
      · exact h.setShed _

theorem report (h : Keeps r s) : Keeps r s.report := h.reportFree 3

theorem refill (h : Keeps r s) : Keeps r s.refill := by
  unfold State.refill; split; exacts [h, h.refillRun.report]

theorem settle (h : Keeps r s) (n : Nat) : Keeps r (s.settle n) := by
  unfold State.settle; split; exacts [h, h.report.refill]

theorem writeLinks (l : List Nat) (h : Keeps r s) : Keeps r (State.writeLinks l s) := by
  induction l generalizing s with
  | nil => exact h
  | cons c l ih =>
    cases l with
    | nil => exact (h.cells _).emit _ _
    | cons d l => exact ih ((h.cells _).emit _ _)

theorem enterFrame (h : Keeps r s) (f : Forming) : Keeps r (s.enterFrame f) := by
  unfold State.enterFrame
  dsimp only
  refine countAdmitted (setHeldCells ?_ _ _) _ _
  split; exacts [(h.setFrame _ _).setMeter _ _, h.setFrame _ _]

theorem raiseCopies (h : Keeps r s) (n : Nat) : Keeps r (s.raiseCopies n) := by
  unfold State.raiseCopies; split; exacts [h, h.cells _]
theorem joinPort (h : Keeps r s) (n : Nat) (p : Port) : Keeps r (s.joinPort n p) := by
  unfold State.joinPort; split; exacts [h, h.cells _]
theorem leavePort (h : Keeps r s) (n : Nat) (p : Port) : Keeps r (s.leavePort n p) := by
  unfold State.leavePort; split; exacts [h, h.cells _]
theorem owe (h : Keeps r s) (p : Port) : Keeps r (s.owe p) := h.queues _

theorem placeNew (h : Keeps r s) (a b : Nat) (pl : Place) (c : Cls) : Keeps r (s.placeNew a b pl c) := by
  cases pl with
  | queue p => exact ((h.queues _).joinPort _ _).owe _
  | hold g => exact h.failover _

theorem createCopy (h : Keeps r s) (f : Forming) (pl : Place) (v : Option GroupId) (m : Bool) :
    Keeps r (s.createCopy f pl v m) := by
  unfold State.createCopy
  dsimp only
  split
  · refine placeNew (raiseCopies ?_ _) _ _ _ _
    split
    · exact enterFrame ((h.cells _).cells _) f
    · exact (h.cells _).cells _
  · exact h.countDrop _ _

theorem freeCells (h : Keeps r s) (l : List Nat) : Keeps r (s.freeCells l) := h.cells _
theorem freeFrame (h : Keeps r s) (n : Nat) (f : Frame) : Keeps r (s.freeFrame n f) :=
  ((h.cells _).cells _).admission _
theorem releaseRecord (h : Keeps r s) (n : Nat) : Keeps r (s.releaseRecord n) := h.cells _

theorem retire (h : Keeps r s) (n : Nat) (c : RetireCause) : Keeps r (s.retire n c) := by
  unfold State.retire
  split
  · exact h
  · rename_i k _
    have h1 : Keeps r (match k.port with | some p => s.leavePort k.frame p | none => s) := by
      split; exacts [h.leavePort _ _, h]
    dsimp only
    split
    · exact h1.releaseRecord _
    · split
      · exact ((h1.countRetired _ _ _).releaseRecord _).freeFrame _ _
      · exact ((h1.countRetired _ _ _).releaseRecord _).cells _

/-! ## Queues, groups, walks -/

theorem adopt (h : Keeps r s) (p : Port) : Keeps r (s.adopt p) := h.queues _

theorem adoptIfEmpty (h : Keeps r s) (p : Port) : Keeps r (s.adoptIfEmpty p) := by
  unfold State.adoptIfEmpty; split; exacts [(h.queues _).queues _, h]

theorem advancePhase (h : Keeps r s) (p : Port) : Keeps r (s.advancePhase p) := by
  unfold State.advancePhase
  dsimp only
  split
  · split; exacts [(h.queues _).queues _, h.queues _]
  · exact h.queues _

theorem dequeue (h : Keeps r s) (p : Port) (c : Cls) (n : Nat) : Keeps r (s.dequeue p c n) := h.queues _
theorem forgetInWalk (h : Keeps r s) (p : Port) (c : Cls) (n : Nat) : Keeps r (s.forgetInWalk p c n) := h.failover _
theorem appendQueued (h : Keeps r s) (n : Nat) (k : Copy) (q : Port) : Keeps r (s.appendQueued n k q) :=
  ((h.cells _).queues _).joinPort _ _
theorem emptySlot (h : Keeps r s) (p : Port) (n : Nat) : Keeps r (s.emptySlot p n) := h.queues _

theorem recomputeGroup (h : Keeps r s) (g : GroupId) : Keeps r (s.recomputeGroup g) := by
  unfold State.recomputeGroup; split; exacts [h, (h.failover _).ask _ _ _ _]

theorem recomputeGroupsOf (h : Keeps r s) (p : Port) : Keeps r (s.recomputeGroupsOf p) :=
  foldl _ (fun _ g k => k.recomputeGroup g) _ h

theorem appendWork (h : Keeps r s) (p : Port) (k : WorkKind) : Keeps r (s.appendWork p k) := by
  unfold State.appendWork; split; exacts [h, h.failover _]

theorem removeWork (h : Keeps r s) (p : Port) : Keeps r (s.removeWork p) := h.failover _
theorem hold (h : Keeps r s) (n : Nat) (k : Copy) (g : GroupId) : Keeps r (s.hold n k g) := (h.cells _).failover _

theorem rechoose (h : Keeps r s) (n : Nat) (k : Copy) (g : GroupId) : Keeps r (s.rechoose n k g).1 := by
  unfold State.rechoose
  split
  · exact h
  · split
    · exact h.retire _ _
    · split; exacts [h.retire _ _, h.appendQueued _ _ _]

theorem lateAbort (h : Keeps r s) (n : Nat) (k : Copy) (g : GroupId) : Keeps r (s.lateAbort n k g).1 := by
  have core : ∀ (u : State) (k1 : Copy), Keeps r u →
      Keeps r (if (u.setCopy n k1).walkWork = true then
        (if (u.setCopy n k1).holdCount < Config.holdRoom then ((u.setCopy n k1).hold n k1 g, none)
          else ((u.setCopy n k1).retire n .holdFull, none))
        else (u.setCopy n k1).rechoose n k1 g).1 := by
    intro u k1 hu
    split
    · split; exacts [(hu.setCopy _ _).hold _ _ _, (hu.setCopy _ _).retire _ _]
    · exact (hu.setCopy _ _).rechoose _ _ _
  unfold State.lateAbort
  dsimp only
  cases k.port
  · exact core _ _ h
  · exact core _ _ (h.leavePort _ _)

theorem releaseOne (g : GroupId) (x : State × List Port) (n : Nat) (h : Keeps r x.1) :
    Keeps r (State.releaseOne g x n).1 := by
  unfold State.releaseOne
  split
  · exact h
  · split; exacts [h.retire _ _, h.rechoose _ _ _]

theorem calmPoint (h : Keeps r s) : Keeps r s.calmPoint.1 := by
  unfold State.calmPoint
  have h1 : Keeps r (allGroups.foldl State.recomputeGroup s) := foldl _ (fun _ g k => k.recomputeGroup g) _ h
  generalize allGroups.foldl State.recomputeGroup s = u at h1 ⊢
  refine foldlFst _ (fun u g k => ?_) allGroups (x := (u, [])) h1
  exact foldlFst _ (fun v n k => releaseOne g v n k) _ (x := (_, _)) (k.failover _)

theorem oweEach (h : Keeps r s) (l : List Port) : Keeps r (s.oweEach l) := foldl _ (fun _ p k => k.owe p) _ h

theorem startWalk (h : Keeps r s) : Keeps r s.startWalk := by
  unfold State.startWalk
  split
  · exact h
  · dsimp only
    refine recomputeGroupsOf ?_ _
    split
    · exact ((h.failover _).failover _).failover _
    · exact (h.failover _).failover _

theorem moveCopy (h : Keeps r s) (n : Nat) (k : Copy) (p q : Port) : Keeps r (s.moveCopy n k p q) :=
  ((h.dequeue _ _ _).leavePort _ _).appendQueued _ _ _

theorem visit (kind : WorkKind) (p : Port) (c : Cls) (n : Nat) (x : StepState) (h : Keeps r x.st) :
    Keeps r (x.visit kind p c n).st := by
  unfold StepState.visit
  split
  · exact h
  · split
    · exact h
    · exact (h.dequeue _ _ _).retire _ _
    · exact h.moveCopy _ _ _ _

theorem walkVisits (kind : WorkKind) (p : Port) (tails : List (Option Nat)) (n v : Nat) (x : StepState)
    (h : Keeps r x.st) : Keeps r (Machine.walkVisits kind p tails n v x).st := by
  induction n generalizing v x with
  | zero => exact h
  | succ n ih =>
    unfold Machine.walkVisits
    split
    · dsimp only
      split
      · exact ih _ _ h
      · split
        · exact h
        · split
          · exact ih _ _ (visit _ _ _ _ _ h)
          · exact ih _ _ (visit _ _ _ _ _ h)
    · exact h

theorem endWalk (h : Keeps r s) (p : Port) : Keeps r (s.endWalk p).1 := by
  unfold State.endWalk
  dsimp only
  split
  · exact ((h.failover _).recomputeGroupsOf _).calmPoint
  · exact ((h.failover _).recomputeGroupsOf _).startWalk

theorem walkStep (h : Keeps r s) (w : Walk) : Keeps r (s.walkStep w) := by
  unfold State.walkStep
  dsimp only
  refine settle (oweEach ?_ _) _
  have h1 : ∀ x : StepState, Keeps r x.st →
      Keeps r (if s.queuesEmpty w.port = true then x.st else x.st.adoptIfEmpty w.port) := by
    intro x hx
    split; exacts [hx, hx.adoptIfEmpty _]
  split
  · exact (h1 _ (walkVisits _ _ _ _ _ _ h)).failover _
  · exact (h1 _ (walkVisits _ _ _ _ _ _ h)).endWalk _

theorem walkStartEvent (h : Keeps r s) : Keeps r s.walkStartEvent := by
  unfold State.walkStartEvent; split; exacts [h, h.startWalk]

/-! ## Slots and stations -/

theorem endSlot (h : Keeps r s) (k : SlotId) (st : SlotStatus) (c : ResultCode) (n : Nat) : Keeps r (s.endSlot k st c n) :=
  (h.slots _).emitStatus _ _
theorem done (h : Keeps r s) (k : SlotId) (c : ResultCode) (n : Nat) : Keeps r (s.done k c n) := h.endSlot _ _ _ _
theorem fail (h : Keeps r s) (k : SlotId) (c : ResultCode) : Keeps r (s.fail k c) := h.endSlot _ _ _ _
theorem stayBusy (h : Keeps r s) (k : SlotId) : Keeps r (s.stayBusy k) := h.emitStatus _ _
theorem takeArgs (h : Keeps r s) (k : SlotId) (g : Lanes) : Keeps r (s.takeArgs k g) := h.setArgs _ _
theorem ignoreCommand (h : Keeps r s) (k : SlotId) (b : Byte) (t : BitVec 16) : Keeps r (s.ignoreCommand k b t) :=
  h.ask _ _ _ _
theorem startSlot (h : Keeps r s) (k : SlotId) (b : Byte) (t : BitVec 16) : Keeps r (s.startSlot k b t) := h.slots _

theorem requireActive (h : Keeps r s) (k : SlotId) (u : State) (hu : Keeps r u) : Keeps r (s.requireActive k u) := by
  unfold State.requireActive; split; exacts [hu, h.fail _ _]

theorem askStation (h : Keeps r s) (k : NoticeKind) (n : Nat) (a : StationAddr) (t : Target) :
    Keeps r (s.askStation k n a t) := h.ask _ _ _ _

theorem moveStation (h : Keeps r s) (w : Nat) (e : Station) (t : Target) : Keeps r (s.moveStation w e t) := by
  unfold State.moveStation; split; exacts [h.lookup _, (h.lookup _).askStation _ _ _ _]

theorem learnHit (h : Keeps r s) (w : Nat) (e : Station) (t : Target) : Keeps r (s.learnHit w e t) := by
  unfold State.learnHit
  split
  · split; exacts [h, (h.askStation _ _ _ _).lookup _]
  · split
    · exact h
    · split; exacts [h.lookup _, h.moveStation _ _ _]

theorem learnMiss (h : Keeps r s) (f : Forming) (t : Target) : Keeps r (s.learnMiss f t) := by
  unfold State.learnMiss
  split
  · exact h.countRefusal _
  · split; exacts [(h.lookup _).lookup _, h.countRefusal _]

theorem learn (h : Keeps r s) (f : Forming) : Keeps r (s.learn f) := by
  unfold State.learn
  split
  · split; exacts [h.learnHit _ _ _, h.learnMiss _ _]
  · exact h

theorem dropLearned (h : Keeps r s) (w : Nat) (e : Station) : Keeps r (s.dropLearned w e) := (h.lookup _).lookup _

theorem sweepEntry (h : Keeps r s) (x : Nat × Station) : Keeps r (s.sweepEntry x) := by
  unfold State.sweepEntry
  split
  · exact h.lookup _
  · split; exacts [h.lookup _, h.dropLearned _ _]

theorem sweepStep (h : Keeps r s) (c : Nat) : Keeps r (s.sweepStep c) :=
  (foldl _ (fun _ x k => k.sweepEntry x) _ h).lookup _

theorem startFlush (h : Keeps r s) : Keeps r s.startFlush := by
  unfold State.startFlush; split; exacts [h.lookup _, h]

theorem offerFlush (h : Keeps r s) (q : FlushReq) (l : List SlotId) : Keeps r (s.offerFlush q l).1 := by
  unfold State.offerFlush
  split
  · exact h.lookup _
  · split; exacts [(h.lookup _).startFlush, h]

theorem flushByPort (h : Keeps r s) (p : Port) : Keeps r (s.flushByPort p) := by
  unfold State.flushByPort
  dsimp only
  split; exacts [h.offerFlush _ _, h.ask _ _ _ _]

theorem endFlushSlots (h : Keeps r s) (l : List SlotId) (n : Nat) : Keeps r (s.endFlushSlots l n) :=
  foldl _ (fun _ j k => k.done j _ _) _ h

theorem flushStep (h : Keeps r s) (w : FlushWalk) : Keeps r (s.flushStep w) := by
  unfold State.flushStep
  dsimp only
  have h1 : Keeps r ((s.flushHits w).foldl (fun s x => s.dropLearned x.1 x.2) s) :=
    foldl _ (fun _ x k => k.dropLearned _ _) _ h
  split
  · exact h1.lookup _
  · exact ((h1.lookup _).endFlushSlots _ _).startFlush

theorem addStation (h : Keeps r s) (k : SlotId) (n : Nat) (a : StationAddr) (t : Target) :
    Keeps r (s.addStation k n a t) := by
  unfold State.addStation
  split
  · split
    · exact h.fail _ _
    · exact ((h.lookup _).lookup _).done _ _ _
  · split; exacts [(h.lookup _).done _ _ _, h.fail _ _]

theorem stationAddBody (h : Keeps r s) (k : SlotId) : Keeps r (s.stationAddBody k) := by
  unfold State.stationAddBody
  refine h.requireActive _ _ ?_
  split; exacts [h.addStation _ _ _ _, h.fail _ _]

theorem stationRemoveBody (h : Keeps r s) (k : SlotId) : Keeps r (s.stationRemoveBody k) := by
  unfold State.stationRemoveBody
  refine h.requireActive _ _ ?_
  split
  · exact h.fail _ _
  · split
    · exact h.fail _ _
    · split; exacts [(h.lookup _).done _ _ _, (h.dropLearned _ _).done _ _ _]

theorem flushBody (h : Keeps r s) (k : SlotId) : Keeps r (s.flushBody k) := by
  unfold State.flushBody
  refine h.requireActive _ _ ?_
  split
  · exact h.fail _ _
  · split; exacts [(h.offerFlush _ _).stayBusy _, h.fail _ _]

theorem agingExpiry (h : Keeps r s) : Keeps r s.agingExpiry := by
  unfold State.agingExpiry
  dsimp only
  split; exacts [(h.lookup _).lookup _, (h.lookup _).ask _ _ _ _]

/-! ## Liveness -/

theorem askPortState (h : Keeps r s) (p : Port) (l : Liveness) (c : StateCause) : Keeps r (s.askPortState p l c) :=
  h.ask _ _ _ _

theorem leaveUp (h : Keeps r s) (p : Port) (l : Liveness) (c : StateCause) : Keeps r (s.leaveUp p l c) := by
  unfold State.leaveUp
  dsimp only
  refine recomputeGroupsOf (askPortState ?_ _ _ _) _
  have h1 := ((((h.setLivePort p _).setLivePort p _).appendWork p .evacuate).setLivePort p _ :
    Keeps r ((((s.setLiveness p l).stopStall p).appendWork p .evacuate).startDrain p))
  split; exacts [h1.flushByPort _, h1]

theorem moveState (h : Keeps r s) (p : Port) (l : Liveness) (c : StateCause) (b : Bool) :
    Keeps r (s.moveState p l c b) := by
  unfold State.moveState
  dsimp only
  refine recomputeGroupsOf (askPortState ?_ _ _ _) _
  split
  · exact ((h.setLivePort _ _).setLivePort _ _).flushByPort _
  · exact (h.setLivePort _ _).setLivePort _ _

theorem takeDown (h : Keeps r s) (p : Port) (l : Liveness) (c : StateCause) : Keeps r (s.takeDown p l c) := by
  unfold State.takeDown
  split
  · exact h.leaveUp _ _ _
  · exact h.moveState _ _ _ _
  · exact h.moveState _ _ _ _
  · split; exacts [h, h.moveState _ _ _ _]

theorem enterTrial (h : Keeps r s) (p : Port) (c : StateCause) : Keeps r (s.enterTrial p c) :=
  (((h.setLivePort _ _).setLivePort _ _).askPortState _ _ _).recomputeGroupsOf _

theorem enterUp (h : Keeps r s) (p : Port) : Keeps r (s.enterUp p) := by
  have h3 : Keeps r ((((s.setLiveness p .up).stopTrial p).removeWork p).stopDrain p) :=
    (((h.setLivePort _ _).setLivePort _ _).removeWork _).setLivePort _ _
  unfold State.enterUp
  dsimp only
  refine oweEach (settle ?_ _) _
  generalize (((s.setLiveness p .up).stopTrial p).removeWork p).stopDrain p = u3 at h3 ⊢
  have h4 : Keeps r (if u3.drainWalkOf p = true then u3 else u3.setDrained p false) := by
    split; exacts [h3, h3.failover _]
  generalize (if u3.drainWalkOf p = true then u3 else u3.setDrained p false) = u4 at h4 ⊢
  have h5 : Keeps r (if 0 < u4.postedCount p then u4.startStall p else u4) := by
    split; exacts [h4.setLivePort _ _, h4]
  have h6 := (h5.askPortState p (s.liveness p) .trialExpiry).recomputeGroupsOf p
  split; exacts [h6.calmPoint, h6]

theorem completionReport (h : Keeps r s) (p : Port) : Keeps r (s.completionReport p) := by
  unfold State.completionReport
  split
  · split <;> exact h.setLivePort _ _
  · exact h.enterTrial _ _
  · exact h

theorem statusTaken (h : Keeps r s) (p : Port) (n : Nat) (b : Bool) : Keeps r (s.statusTaken p n b) := by
  unfold State.statusTaken
  dsimp only
  split
  · split; exacts [(h.setLivePort _ _).enterTrial _ _, h.setLivePort _ _]
  · exact (h.setLivePort _ _).takeDown _ _ _

theorem statusWrite (h : Keeps r s) (p : Port) (g : Lanes) : Keeps r (s.statusWrite p g) := by
  unfold State.statusWrite; split; exacts [h.statusTaken _ _ _, h]

theorem drainExpiry (h : Keeps r s) (p : Port) : Keeps r (s.drainExpiry p) := (h.setLivePort _ _).appendWork _ _

theorem withPortArg (h : Keeps r s) (k : SlotId) (f : Port → State) (hf : ∀ p, Keeps r (f p)) :
    Keeps r (s.withPortArg k f) := by
  unfold State.withPortArg
  refine h.requireActive _ _ ?_
  split; exacts [hf _, h.fail _ _]

theorem portAdminDownBody (h : Keeps r s) (k : SlotId) : Keeps r (s.portAdminDownBody k) :=
  h.withPortArg _ _ fun _ => (h.takeDown _ _ _).done _ _ _

theorem portAdminReleaseBody (h : Keeps r s) (k : SlotId) : Keeps r (s.portAdminReleaseBody k) := by
  refine h.withPortArg _ _ fun _ => ?_
  split; exacts [(h.moveState _ _ _ _).done _ _ _, h.fail _ _]

theorem resetLiveness (h : Keeps r s) (p : Port) : Keeps r (s.resetLiveness p) := by
  unfold State.resetLiveness
  split; exacts [h.setLivePort _ _, (h.setLivePort _ _ : Keeps r (s.stopStall p)).takeDown _ _ _]

/-! ## Egress -/

theorem discard (h : Keeps r s) (p : Port) (c : Cls) (n : Nat) : Keeps r (s.discard p c n) :=
  (((h.dequeue _ _ _).forgetInWalk _ _ _).adoptIfEmpty _).retire _ _

theorem strictPick (p : Port) (n : Nat) (h : Keeps r s) : Keeps r (s.strictPick p n).2 := by
  induction n generalizing s with
  | zero => exact h
  | succ n ih =>
    unfold State.strictPick
    split
    · exact h
    · split; exacts [ih (h.discard _ _ _), h]

theorem scanPick (p : Port) (n k : Nat) (h : Keeps r s) : Keeps r (s.scanPick p n k).2 := by
  induction n generalizing s k with
  | zero => exact h
  | succ n ih =>
    unfold State.scanPick
    split
    · exact h
    · split
      · exact ih _ (h.advancePhase _)
      · split
        · exact ih _ (h.advancePhase _)
        · split; exacts [ih _ (h.discard _ _ _), h.advancePhase _]

theorem pick (h : Keeps r s) (p : Port) : Keeps r (s.pick p).2 := by
  have h1 := strictPick p (s.waiting p + 1) h
  unfold State.pick
  split
  · rename_i e; rw [e] at h1; exact h1
  · rename_i e; rw [e] at h1; exact scanPick p _ _ h1

theorem post (h : Keeps r s) (p : Port) (n : Nat) (k : Copy) (f : Frame) : Keeps r (s.post p n k f) := by
  unfold State.post
  dsimp only
  refine owe (adoptIfEmpty ?_ _) _
  split
  · exact ((((h.dequeue _ _ _).forgetInWalk _ _ _).setCopy _ _).emit _ _).queues _ |>.setLivePort _ _
  · exact ((((h.dequeue _ _ _).forgetInWalk _ _ _).setCopy _ _).emit _ _).queues _

theorem postChosen (h : Keeps r s) (p : Port) (c : Option Nat) : Keeps r (s.postChosen p c) := by
  unfold State.postChosen
  split
  · exact h
  · split
    · exact h
    · split; exacts [h, h.post _ _ _ _]

theorem attempt (h : Keeps r s) (p : Port) : Keeps r (s.attempt p) := by
  unfold State.attempt; split; exacts [((h.pick p).settle _).postChosen _ _, h]

theorem directReturn (h : Keeps r s) (p : Port) (n : Nat) (k : Copy) : Keeps r (s.directReturn p n k) := by
  unfold State.directReturn; split; exacts [h.retire _ _, (h.cells _).queues _]

theorem aborted (h : Keeps r s) (p : Port) (n : Nat) (k : Copy) : Keeps r (s.aborted p n k).1 := by
  unfold State.aborted; split; exacts [h.lateAbort _ _ _, h.directReturn _ _ _]

theorem completeCopy (h : Keeps r s) (p : Port) (n st : Nat) : Keeps r (s.completeCopy p n st).1 := by
  unfold State.completeCopy
  split
  · exact h
  · split
    · exact h.retire _ _
    · split; exacts [h.aborted _ _ _, h.retire _ _]

theorem takeCompletion (h : Keeps r s) (p : Port) (n : Nat) (rec : SlotRecord) (w : CompletionWord) :
    Keeps r (s.takeCompletion p n rec w) := by
  unfold State.takeCompletion
  dsimp only
  split
  · exact h.ask _ _ _ _
  · exact ((((h.emptySlot _ _).completeCopy _ _ _).settle _).completionReport _).oweEach _

theorem egressWrite (h : Keeps r s) (p : Port) (n : Nat) (g : Lanes) : Keeps r (s.egressWrite p n g) := by
  unfold State.egressWrite; split; exacts [h.takeCompletion _ _ _ _, h]

theorem resetAbort (p : Port) (x : State × List Port) (n : Nat) (h : Keeps r x.1) :
    Keeps r (State.resetAbort p x n).1 := by
  unfold State.resetAbort
  split
  · exact h
  · exact h.aborted _ _ _

theorem resetEgress (h : Keeps r s) (p : Port) : Keeps r (s.resetEgress p) := by
  unfold State.resetEgress
  exact (foldlFst _ (fun x n k => resetAbort p x n k) _ (x := (_, _)) (h.queues _)).oweEach _

/-! ## Admission, replication, intake -/

theorem refillMeter (h : Keeps r s) (n : Tenant) : Keeps r (s.refillMeter n) := h.admission _

theorem meterRefillBody (h : Keeps r s) (k : SlotId) : Keeps r (s.meterRefillBody k) := by
  unfold State.meterRefillBody
  refine h.requireActive _ _ ?_
  split; exacts [h.fail _ _, (h.admission _).done _ _ _]

theorem offerCopy (h : Keeps r s) (f : Forming) (p : Port) (v : Option GroupId) : Keeps r (s.offerCopy f p v) := by
  unfold State.offerCopy; split; exacts [h.createCopy _ _ _ _, h.countDrop _ _]

theorem offerHeld (h : Keeps r s) (f : Forming) (g : GroupId) : Keeps r (s.offerHeld f g) := by
  unfold State.offerHeld; split; exacts [h.createCopy _ _ _ _, h.countDrop _ _]

theorem repCandidate (f : Forming) (p : Port) (v : Option GroupId) (x : RepWalk × State) (h : Keeps r x.2) :
    Keeps r (Machine.repCandidate f p v x).2 := by
  unfold Machine.repCandidate; split; exacts [h, h.offerCopy _ _ _]

theorem repGroup (f : Forming) (g : GroupId) (x : RepWalk × State) (h : Keeps r x.2) :
    Keeps r (Machine.repGroup f g x).2 := by
  unfold Machine.repGroup
  split
  · split; exacts [h, h.offerHeld _ _]
  · split; exacts [h, repCandidate _ _ _ _ h]

theorem repSublist (f : Forming) (l m : ListId) (i : Nat) (x : RepWalk × State) (h : Keeps r x.2) :
    Keeps r (Machine.repSublist f l m i x).2 := by
  unfold Machine.repSublist
  split
  · exact h
  · split; exacts [h, h.ask _ _ _ _]

theorem repEntry (f : Forming) (l : ListId) (i : Nat) (x : RepWalk × State) (h : Keeps r x.2) :
    Keeps r (Machine.repEntry f l i x).2 := by
  unfold Machine.repEntry
  dsimp only
  split
  · split; exacts [repCandidate _ _ _ _ h, h]
  · split; exacts [repGroup _ _ _ h, h]
  · split; exacts [repSublist _ _ _ _ _ h, h]
  · exact h

theorem repPass (f : Forming) (x y : RepWalk × State) (e : Machine.repPass f x = some y) (h : Keeps r x.2) :
    Keeps r y.2 := by
  unfold Machine.repPass at e
  dsimp only at e
  split at e
  · split at e
    · cases e
    · cases e; exact h
  · cases e
    exact repEntry _ _ _ _ h

theorem repWalk (f : Forming) (n : Nat) (x : RepWalk × State) (h : Keeps r x.2) :
    Keeps r (Machine.repWalk f n x) := by
  induction n generalizing x with
  | zero => exact h
  | succ n ih =>
    unfold Machine.repWalk
    split
    · exact h
    · rename_i y e
      exact ih y (repPass f x y e h)

theorem directPort (h : Keeps r s) (f : Forming) (p : Port) : Keeps r (s.directPort f p) := by
  unfold State.directPort; split; exacts [h, h.offerCopy _ _ _]

theorem directGroup (h : Keeps r s) (f : Forming) (g : GroupId) : Keeps r (s.directGroup f g) := by
  unfold State.directGroup
  split
  · exact h.offerHeld _ _
  · split
    · exact h.countDrop _ _
    · split; exacts [h, h.offerCopy _ _ _]

theorem replicate (h : Keeps r s) (f : Forming) (t : Target) : Keeps r (s.replicate f t) := by
  cases t with
  | port p => exact h.directPort _ _
  | group g => exact h.directGroup _ _
  | list l => exact repWalk _ _ _ h

theorem admitFrame (h : Keeps r s) (f : Forming) (t : Target) : Keeps r (s.admitFrame f t) := by
  unfold State.admitFrame
  dsimp only
  split; exacts [(h.refillMeter _).countDrop _ _, (h.refillMeter _).replicate _ _]

theorem forwardFrame (h : Keeps r s) (f : Forming) : Keeps r (s.forwardFrame f) := by
  have h1 := (writeLinks f.cells h).learn f
  unfold State.forwardFrame
  dsimp only
  split; exacts [h1.countDrop _ _, h1.admitFrame _ _]

theorem takeStages (h : Keeps r s) (p : Port) (d : Descriptor) (l : List Nat) : Keeps r (s.takeStages p d l) := by
  unfold State.takeStages
  split
  · exact h.countDrop _ _
  · dsimp only
    split; exacts [h.countDrop _ _, h.forwardFrame _]

theorem closeTaking (h : Keeps r s) (l : List Nat) : Keeps r (s.closeTaking l) := by
  unfold State.closeTaking
  split
  · exact h
  · split; exacts [h.refill, ((h.freeCells _).report).refill]

theorem takeDescriptor (h : Keeps r s) (p : Port) : Keeps r (s.takeDescriptor p) := by
  unfold State.takeDescriptor
  dsimp only
  split
  · exact (h.intake _).ask _ _ _ _
  · exact (((h.intake _).cells _).takeStages _ _ _).closeTaking _

theorem stageIngress (h : Keeps r s) (p : Port) (g : Lanes) : Keeps r (s.stageIngress p g) := h.intake _
theorem orderFault (h : Keeps r s) (p : Port) (n : Nat) (b : Bool) : Keeps r (s.orderFault p n b) := h.ask _ _ _ _

theorem ingressWrite (h : Keeps r s) (p : Port) (n : Nat) (g : Lanes) : Keeps r (s.ingressWrite p n g) := by
  unfold State.ingressWrite
  split
  · exact h
  · split
    · split
      · split; exacts [(h.stageIngress _ _).takeDescriptor _, (h.stageIngress _ _).orderFault _ _ _]
      · exact h.stageIngress _ _
    · split; exacts [h.orderFault _ _ _, h]

/-! ## Accounting and commands -/

theorem closeEpoch (h : Keeps r s) (k : SlotId) : Keeps r (s.closeEpoch k) := ((h.acct _).emit _ _).stayBusy _

theorem epochCloseBody (h : Keeps r s) (k : SlotId) : Keeps r (s.epochCloseBody k) := by
  unfold State.epochCloseBody
  refine h.requireActive _ _ ?_
  split; exacts [h.fail _ _, h.closeEpoch _]

theorem exportTenant (w : ExportWalk) (h : Keeps r s) (n : Nat) : Keeps r (s.exportTenant w n) := by
  unfold State.exportTenant
  dsimp only
  refine Keeps.acct ?_ _
  split; exacts [h.emit _ _, (h.emit _ _).acct _]

theorem exportStep (h : Keeps r s) (w : ExportWalk) : Keeps r (s.exportStep w) := by
  have h1 : Keeps r ((stepTenants w.nextTenant).foldl (State.exportTenant w) s) :=
    foldl _ (fun _ n k => exportTenant w k n) _ h
  unfold State.exportStep
  dsimp only
  split
  · exact h1.acct _
  · exact (((h1.emit _ _).ask _ _ _ _).done _ _ _).acct _

theorem resetCells (h : Keeps r s) (p : Port) : Keeps r (s.resetCells p) := (h.cells _).cells _

theorem portReset (h : Keeps r s) (p : Port) : Keeps r (s.portReset p) := by
  have h1 := ((h.resetCells p).intake _ : Keeps r ((s.resetCells p).resetIntake p)).resetEgress p
  unfold State.portReset
  dsimp only
  refine resetLiveness ?_ _
  split; exacts [h1.refill, h1.report.refill]

theorem portResetBody (h : Keeps r s) (k : SlotId) : Keeps r (s.portResetBody k) :=
  h.withPortArg _ _ fun _ => (h.portReset _).done _ _ _

theorem timeMarkBody (h : Keeps r s) (k : SlotId) : Keeps r (s.timeMarkBody k) :=
  h.requireActive _ _ (h.done _ _ _)

theorem unknownBody (h : Keeps r s) (k : SlotId) : Keeps r (s.unknownBody k) := h.fail _ _

theorem commandWord (h : Keeps r s) (k : SlotId) (b : Byte) (t : BitVec 16) (f : State → State)
    (hf : ∀ u, Keeps r u → Keeps r (f u)) : Keeps r (s.commandWord k b t f) := by
  unfold State.commandWord; split; exacts [h.ignoreCommand _ _ _, hf _ (h.startSlot _ _ _)]

theorem commandWrite (h : Keeps r s) (b : Byte) (w : SlotWrite) (f : State → State)
    (hf : ∀ u, Keeps r u → Keeps r (f u)) : Keeps r (s.commandWrite b w f) :=
  ((h.forward _ _).takeArgs _ _).commandWord _ _ _ _ hf

/-! ## Table staging -/

theorem abandon (h : Keeps r s) (a b : Nat) : Keeps r (s.abandon a b) := by
  unfold State.abandon
  split
  · exact h
  · split
    · exact h
    · dsimp only
      split; exacts [h.setStaging _, (h.setStaging _).ask _ _ _ _]

theorem stageEntry (h : Keeps r s) (e : EntryWrite) : Keeps r (s.stageEntry e) := (h.abandon _ _).setStaging _
theorem reject (h : Keeps r s) (a b : Nat) (l : List Reason) : Keeps r (s.reject a b l) := (h.freeDraws _).ask _ _ _ _

end Keeps

end Sys2Proof.Machine
end

