-- ==== Sys2Proof/Laws/PerInstr.lean ====
section
/-! SUPPORT. Per command: a well-formed command that is a write carries a whole granule of the channel, 64 byte lanes
(Table 0-2). -/
namespace Sys2Proof.Laws

/-- The granule of a command write has 64 lanes, whatever lanes its low bytes give (R172). -/
theorem slotGranule_length (kind : Byte) (w : SlotWrite) : (Machine.slotGranule kind w).length = 64 := by
  simp [Machine.slotGranule, Machine.commandWordBytes, Machine.strobed, Machine.leBytes]
  omega

/-- What a check of a granule says. -/
theorem length_of_granuleOk {g : Lanes} (h : granuleOk g = true) : g.length = 64 := of_decide_eq_true h

/-- A command that carries no granule. -/
theorem GranuleSize.of_none {i : Instr} (h : i.granule? = none) :
    i.wellFormed = true → ∀ g, i.granule? = some g → g.length = 64 := fun _ g e => by rw [h] at e; cases e

/-- A command that carries `g`, whose check begins with the granule's. -/
theorem GranuleSize.of_some {i : Instr} {g : Lanes} (h : i.granule? = some g)
    (k : i.wellFormed = true → g.length = 64) : i.wellFormed = true → ∀ g', i.granule? = some g' → g'.length = 64 :=
  fun w g' e => by rw [h] at e; cases e; exact k w

/-- A well-formed command carries no granule, or one of 64 byte lanes. -/
def GranuleSize.Statement (i : Instr) : Prop := i.wellFormed = true → ∀ g, i.granule? = some g → g.length = 64

theorem GranuleSize.powerOnReset (straps : BitVec 4) : Statement (.powerOnReset straps) :=
  GranuleSize.of_none rfl

theorem GranuleSize.ingressSlotWrite (p : Port) (slot : RingSlot) (g : Lanes) : Statement (.ingressSlotWrite p slot g) :=
  GranuleSize.of_some rfl length_of_granuleOk

theorem GranuleSize.takingOfDescriptor (p : Port) (slot : RingSlot) (g : Lanes) : Statement (.takingOfDescriptor p slot g) :=
  GranuleSize.of_some rfl fun w => length_of_granuleOk (Bool.and_eq_true_iff.mp w).1

theorem GranuleSize.postAttempt (p : Port) : Statement (.postAttempt p) :=
  GranuleSize.of_none rfl

theorem GranuleSize.completion (p : Port) (slot : RingSlot) (g : Lanes) : Statement (.completion p slot g) :=
  GranuleSize.of_some rfl fun w => length_of_granuleOk (Bool.and_eq_true_iff.mp w).1

theorem GranuleSize.statusWord (p : Port) (g : Lanes) : Statement (.statusWord p g) :=
  GranuleSize.of_some rfl fun w => length_of_granuleOk (Bool.and_eq_true_iff.mp w).1

theorem GranuleSize.trialExpiry (p : Port) : Statement (.trialExpiry p) :=
  GranuleSize.of_none rfl

theorem GranuleSize.stallExpiry (p : Port) : Statement (.stallExpiry p) :=
  GranuleSize.of_none rfl

theorem GranuleSize.drainExpiry (p : Port) : Statement (.drainExpiry p) :=
  GranuleSize.of_none rfl

theorem GranuleSize.agingPeriodExpiry : Statement .agingPeriodExpiry :=
  GranuleSize.of_none rfl

theorem GranuleSize.agingSweepStep : Statement .agingSweepStep :=
  GranuleSize.of_none rfl

theorem GranuleSize.flushWalkStep : Statement .flushWalkStep :=
  GranuleSize.of_none rfl

theorem GranuleSize.walkStart : Statement .walkStart :=
  GranuleSize.of_none rfl

theorem GranuleSize.evacuationWalkStep : Statement .evacuationWalkStep :=
  GranuleSize.of_none rfl

theorem GranuleSize.drainWalkStep : Statement .drainWalkStep :=
  GranuleSize.of_none rfl

theorem GranuleSize.exportWalkStep : Statement .exportWalkStep :=
  GranuleSize.of_none rfl

theorem GranuleSize.tableStagingWrite (i : Fin 3584) (g : Lanes) : Statement (.tableStagingWrite i g) :=
  GranuleSize.of_some rfl fun w => length_of_granuleOk (Bool.and_eq_true_iff.mp (Bool.and_eq_true_iff.mp w).1).1

theorem GranuleSize.tableCommit (i : Fin 3584) (g : Lanes) : Statement (.tableCommit i g) :=
  GranuleSize.of_some rfl fun w => length_of_granuleOk (Bool.and_eq_true_iff.mp w).1

theorem GranuleSize.commandArgumentWrite (k : SlotId) (g : Lanes) : Statement (.commandArgumentWrite k g) :=
  GranuleSize.of_some rfl fun w => length_of_granuleOk (Bool.and_eq_true_iff.mp w).1

theorem GranuleSize.consumerWord (g : Lanes) : Statement (.consumerWord g) :=
  GranuleSize.of_some rfl fun w => length_of_granuleOk (Bool.and_eq_true_iff.mp w).1

theorem GranuleSize.unknownCommand (kind : Byte) (w : SlotWrite) : Statement (.unknownCommand kind w) :=
  GranuleSize.of_some rfl fun _ => slotGranule_length _ _

theorem GranuleSize.start (w : SlotWrite) : Statement (.start w) :=
  GranuleSize.of_some rfl fun _ => slotGranule_length _ _

theorem GranuleSize.stationAdd (w : SlotWrite) : Statement (.stationAdd w) :=
  GranuleSize.of_some rfl fun _ => slotGranule_length _ _

theorem GranuleSize.stationRemove (w : SlotWrite) : Statement (.stationRemove w) :=
  GranuleSize.of_some rfl fun _ => slotGranule_length _ _

theorem GranuleSize.flush (w : SlotWrite) : Statement (.flush w) :=
  GranuleSize.of_some rfl fun _ => slotGranule_length _ _

theorem GranuleSize.epochClose (w : SlotWrite) : Statement (.epochClose w) :=
  GranuleSize.of_some rfl fun _ => slotGranule_length _ _

theorem GranuleSize.portAdminDown (w : SlotWrite) : Statement (.portAdminDown w) :=
  GranuleSize.of_some rfl fun _ => slotGranule_length _ _

theorem GranuleSize.portAdminRelease (w : SlotWrite) : Statement (.portAdminRelease w) :=
  GranuleSize.of_some rfl fun _ => slotGranule_length _ _

theorem GranuleSize.portReset (w : SlotWrite) : Statement (.portReset w) :=
  GranuleSize.of_some rfl fun _ => slotGranule_length _ _

theorem GranuleSize.meterRefill (w : SlotWrite) : Statement (.meterRefill w) :=
  GranuleSize.of_some rfl fun _ => slotGranule_length _ _

theorem GranuleSize.timeMark (w : SlotWrite) : Statement (.timeMark w) :=
  GranuleSize.of_some rfl fun _ => slotGranule_length _ _

theorem GranuleSize.windowWriteNoEffect (addr : Nat) (g : Lanes) : Statement (.windowWriteNoEffect addr g) :=
  GranuleSize.of_some rfl fun w => length_of_granuleOk (Bool.and_eq_true_iff.mp w).1

theorem GranuleSize.timebaseAdvance : Statement .timebaseAdvance :=
  GranuleSize.of_none rfl

end Sys2Proof.Laws
end

