-- ==== Sys2Proof/Laws/Stream.lean ====
section
/-! SUPPORT. The stream toward memory: what a read finds after further writes, and what the end of an action sends. -/
namespace Sys2Proof.Machine

/-- Writes that come later are looked at first. -/
theorem lastWritten_append (ws vs : List BusWrite) (a : Nat) :
    lastWritten (ws ++ vs) a = (lastWritten ws a).or (lastWritten vs a) := by
  induction ws with
  | nil => simp [lastWritten]
  | cons w ws ih => simp [lastWritten, ih, Option.or_assoc]

/-- A read after further writes: the newest of them that writes there, else what memory held. -/
theorem memByte_sending (s : State) (ws : List BusWrite) (a : Nat) :
    (s.sending ws).memByte a = (lastWritten ws a).or (s.memByte a) := lastWritten_append ws _ a

/-- A write with every strobe set leaves its bytes at its addresses. -/
theorem byteAt_ownWrite (s : State) (off : Nat) (bytes : List Byte) (i : Nat) :
    (s.ownWrite off bytes).byteAt (s.windowAddr off + i) = bytes[i]? := by
  simp [BusWrite.byteAt, State.ownWrite, strobed]
  cases h : bytes[i]? <;> simp

/-- A write leaves every address before it and behind it as it was. -/
theorem byteAt_outside (w : BusWrite) (a : Nat) (h : a < w.addr ∨ w.addr + w.lanes.length ≤ a) : w.byteAt a = none := by
  unfold BusWrite.byteAt
  split
  · rfl
  · rename_i k
    rw [List.getElem?_eq_none (by omega)]
    rfl

/-- Nothing gathered, nothing sent: the end of an action that asked for no write. -/
theorem finish_of_quiet (s : State) (h : s.quiet) : s.finish = s := by
  obtain ⟨h1, h2, h3⟩ := h
  cases s with | mk p ta c i l ad q li f ac n sl b fd pe =>
  cases b
  simp_all [State.finish]

/-- The write that crosses the part is the first of the action (R164, R166): with nothing gathered before it, and
further writes, notices and status words gathered after it, the stream gains it, then them in that order. -/
theorem finish_sent (s : State) : s.finish.bus.sent = s.bus.statuses ++ (s.bus.notices ++ (s.bus.writes ++ s.bus.sent)) :=
  rfl

/-- The end of an action leaves nothing unsent. -/
theorem finish_quiet (s : State) : s.finish.quiet := ⟨rfl, rfl, rfl⟩

/-- A write that is forwarded and brings nothing. -/
theorem finish_forward (s : State) (a : Nat) (g : Lanes) (h : s.quiet) :
    (s.forward a g).finish = s.sending [{ addr := a, lanes := g, own := false }] := by
  obtain ⟨h1, h2, h3⟩ := h
  cases s with | mk p ta c i l ad q li f ac n sl b fd pe =>
  cases b
  simp_all [State.finish, State.forward, State.sending]

/-- A notice asked for while the ring has room: its write is gathered and the producer advances (R175). -/
theorem ask_of_room (s : State) (k : NoticeKind) (a b c : Nat)
    (h : (s.notices.producer - s.notices.consumer).toNat < Config.noticeRoom) :
    s.ask k a b c =
      { s with
        notices := s.notices.written
        bus := { s.bus with notices := s.noticeWrite k a b c :: s.bus.notices } } := by
  have hf : s.notices.full = false := by simpa only [NoticeWriter.full, decide_eq_false_iff_not, Nat.not_le] using h
  simp [State.ask, hf, NoticeWriter.written, State.noticeWrite]

/-- A notice asked for while the ring is full is lost, and the gap flag set (R175). -/
theorem ask_of_full (s : State) (k : NoticeKind) (a b c : Nat)
    (h : Config.noticeRoom ≤ (s.notices.producer - s.notices.consumer).toNat) :
    s.ask k a b c = { s with notices := { s.notices with gap := true } } := by
  have hf : s.notices.full = true := decide_eq_true h
  simp [State.ask, hf]

@[simp] theorem State.telling_nil (s : State) (own : List BusWrite) : s.telling own [] = s.sending own := rfl

/-- What an action tells is what its notices make of the writer, and the stream with its writes and then theirs behind it:
`State.telling` against `State.ask` (R166, R175). -/
theorem State.telling_eq (s : State) (own : List BusWrite) (asks : List NoticeAsk) (h : s.bus.notices = []) :
    s.telling own asks =
      { s with
        notices := (s.noticed asks).notices
        bus := (s.sending ((s.noticed asks).bus.notices ++ own)).bus } := by
  suffices key : ∀ (l : List NoticeAsk) (u : State) (ws : List BusWrite), u.bus.notices = [] →
      ∀ gathered : List BusWrite,
        u.telling (gathered ++ ws) l =
          { u with
            notices := (({ u with bus := { u.bus with notices := gathered } } : State).noticed l).notices
            bus :=
              (u.sending ((({ u with bus := { u.bus with notices := gathered } } : State).noticed l).bus.notices ++ ws)).bus } by
    have := key asks s own h []
    rwa [← h, show ({ s with bus := { s.bus with notices := s.bus.notices } } : State) = s from rfl, h] at this
  intro l
  induction l with
  | nil => intro u ws _ gathered; rfl
  | cons n rest ih =>
    intro u ws hu gathered
    unfold State.telling
    split
    · rename_i hr
      have := ih { u with notices := u.notices.written } ws hu
        (u.noticeWrite n.kind n.subject n.first n.second :: gathered)
      rw [List.cons_append] at this
      rw [this]
      simp only [State.noticed, List.foldl_cons]
      rw [ask_of_room _ _ _ _ _ (by exact hr)]
      rfl
    · rename_i hr
      rw [ih { u with notices := { u.notices with gap := true } } ws hu gathered]
      simp only [State.noticed, List.foldl_cons]
      rw [ask_of_full _ _ _ _ _ (by simpa [Config.noticeRoom] using hr)]
      rfl

end Sys2Proof.Machine
end

