-- ==== Sys2Proof/Tests/Slice0.lean ====
section
/-! SUPPORT. Tests: the smoke test of the well-formedness checks, worked cases of the manual, one small test per command
and, for each statement that has hypotheses, concrete operands and a state that meet them together. -/
namespace Sys2Proof.Tests

set_option Elab.async false

open Sys2Proof Sys2Proof.Machine

/-! ## Helpers -/

/-- A granule of 64 lanes that carries `bytes` from lane `off` on and nothing else. -/
def lanes (off : Nat) (bytes : List Byte) : Lanes :=
  List.replicate off none ++ (strobed bytes ++ List.replicate (64 - off - bytes.length) none)

/-- A command write of slot `k` with argument bytes and tag 7. -/
def cmd (k : SlotId) (args : List Byte) : SlotWrite :=
  { slot := k, low := strobed args ++ List.replicate (60 - args.length) none, reserved := 0, tag := 7 }

/-- The part just made ACTIVE, every port DOWN, nothing issued. -/
def active : State := { State.reset with path := { State.reset.path with mode := .active } }

/-- A port in a liveness state with its three timers. -/
def withLive (s : State) (p : Port) (l : Liveness) (trial stall drain : Option Word32) : State :=
  s.setLivePort p { state := l, changeCount := 0, trial := trial, stall := stall, drain := drain }

/-- The timebase stands at `t`. -/
def atTime (s : State) (t : Word32) : State := { s with live := { s.live with timebase := t } }

/-- A ring with `n` unread notices. -/
def unread (s : State) (n : Word32) : State := { s with notices := { s.notices with producer := n } }

/-- The state an outcome answers; the state given where it answers none. -/
def after (o : Host.Outcome State Fault Refusal) (d : State) : State :=
  match o with
  | .next t => t
  | _ => d

/-- A ready write of the ingress ring: the descriptor's fields, the lap, the marker (Table 10-5). -/
def ready (length : Nat) (cells : Byte) (tag : Nat) (dst src : List Byte) (flags lap : Byte) : Lanes :=
  strobed (leBytes 2 length ++ [cells, 7] ++ leBytes 2 tag ++ dst ++ src ++ [flags, 0] ++ List.replicate 40 0 ++
    [lap, 0, 0, 0xC3])

def stationA : List Byte := [0x02, 0, 0, 0, 0, 0x0A]
def stationB : List Byte := [0x02, 0, 0, 0, 0, 0x0B]

/-- A completion word of a slot: echo, status, lap (Table 10-5). -/
def completed (echo : Nat) (status lap : Byte) : Lanes := lanes 56 (leBytes 4 echo ++ [status, 0, 0, lap])

/-! ## Well-formedness smoke test: a good and an ill-formed term for each check -/

theorem test_wf_granule : (Instr.ingressSlotWrite 0 0 (lanes 0 [1])).wellFormed = true := by decide
theorem test_wf_granule_short : (Instr.ingressSlotWrite 0 0 [some 1]).wellFormed = false := by decide
theorem test_wf_ready_missing : (Instr.takingOfDescriptor 0 0 (lanes 0 [1])).wellFormed = false := by decide
theorem test_wf_completion_partial : (Instr.completion 0 0 (lanes 56 [1, 2, 3])).wellFormed = false := by decide
theorem test_wf_status_partial : (Instr.statusWord 0 (lanes 60 [1, 2])).wellFormed = false := by decide
theorem test_wf_staging_gap : (Instr.tableStagingWrite 1 (lanes 0 [1])).wellFormed = false := by decide
theorem test_wf_staging_commit : (Instr.tableStagingWrite 0 (lanes 60 [0, 0, 0, 0xA5])).wellFormed = false := by
  decide +kernel
theorem test_wf_commit_missing : (Instr.tableCommit 0 (lanes 60 [0, 0, 0, 1])).wellFormed = false := by decide
theorem test_wf_argument_whole_word : (Instr.commandArgumentWrite 0 (lanes 60 [0, 0, 0, 0])).wellFormed = false := by
  decide
theorem test_wf_consumer_partial : (Instr.consumerWord (lanes 0 [1, 2, 3])).wellFormed = false := by decide
theorem test_wf_unknown_known : (Instr.unknownCommand 10 (cmd 0 [])).wellFormed = false := by decide
theorem test_wf_command_short : (Instr.timeMark { cmd 0 [] with low := [] }).wellFormed = false := by decide
theorem test_wf_window_misaligned : (Instr.windowWriteNoEffect 1 (lanes 0 [1])).wellFormed = false := by decide

/-- No row of the table gives bits, so no word spells a command and `withFetchWord` leaves the state. -/
theorem test_no_word_spells_a_command (n w : Nat) (s : State) :
    decodeTableWord n w = none ∧ s.withFetchWord n w = s := ⟨rfl, rfl⟩

/-! ## Worked cases of the manual -/

/-- 2.6.1: the flow hash of the worked case is 50,176. -/
theorem test_flow_hash : flowHash 5 [1, 0, 0, 0, 0xC000] = 50176 := by decide

/-- 3.1.1: station 00-11-22-33-44-55 stands in set 656h in segment 20, 657h in segment 21. -/
theorem test_station_set :
    stationOf [0x00, 0x11, 0x22, 0x33, 0x44, 0x55] = 0x001122334455 ∧ stationSet 20 0x001122334455 = 0x656 ∧
      stationSet 21 0x001122334455 = 0x657 := by decide

/-- Table 5-5 at a free count of 20,000. -/
theorem test_alpha_codes :
    (List.range 8).map (fun a => (threshold a 20000, excessThreshold a 20000)) =
      [(1250, 625), (2500, 1250), (5000, 2500), (10000, 5000), (20000, 10000), (40000, 20000), (65536, 32768),
        (65536, 32768)] := by decide

/-- 5.9: the meter of the worked frame. -/
theorem test_meter_of_5_9 :
    refilledMeter { TenantEntry.powerOn with rate := 20000, depth := 1600000 } ⟨40000, 1000000⟩ 1000012 =
      ⟨280000, 1000012⟩ ∧ frameCost 1500 = 24320 ∧ cellsFor 1500 = 6 := by decide +kernel

/-- R114: a timer of count 10 and unit 100 µs expires between 900 µs and 1,000 µs after its start. -/
theorem test_timer_span : timerSpan ⟨10, 1⟩ 0 0 = 1000 ∧ timerSpan ⟨10, 1⟩ 99 99 = 901 := by decide

/-- 11.1.1, first and fourth row: a full ring loses the notice, and the next one written carries the gap flag. -/
theorem test_full_ring :
    (({ active with notices := ⟨5000, 3976, false⟩ } : State).ask .portState 12 0 0).notices = ⟨5000, 3976, true⟩ ∧
      (({ active with notices := ⟨5000, 4500, true⟩ } : State).ask .shedLevel 0 0 0).notices =
        ⟨5001, 4500, false⟩ := by decide

/-- 11.1.1, last row: a consumer value ahead of the producer is clamped to it. -/
theorem test_consumer_clamped : NoticeWriter.consume ⟨5001, 4500, false⟩ 9999 = ⟨5001, 5001, false⟩ := by decide

/-- 9.7, event 3: the whole units of 583,780 are 2,280 and the fraction 100. -/
theorem test_carry_of_9_7 :
    583780 / 256 = 2280 ∧ ({ TenantRecord.zero with charge := 583780 } : TenantRecord).carry = 100 ∧
      ({ TenantRecord.zero with charge := 583780, chargeSat := true } : TenantRecord).carry = 0 := by decide

/-! ## States for the commands -/

/-- A frame of two copies on ports 5 and 9, its first cell 100, of tenant 3. -/
def frame2 : Frame :=
  { tenant := 3, length := 300, cellCount := 2, colour := .committed, flowHash := 50176, copyCount := 2,
    ports := [5, 9] }

/-- The same frame with its last copy, on port 5. -/
def frame1 : Frame := { frame2 with copyCount := 1, ports := [5] }

/-- A direct copy of that frame for port 5, class `c`. -/
def copyOf (st : CopyState) (c : Cls) (via : Option GroupId) : Copy :=
  { state := st, frame := 100, port := some 5, cls := c, via := via, mark := false, enqueued := 0 }

/-- ACTIVE, port 5 UP, copy 40 of frame 100 in the state and class given, free copy list 41, 42, …. -/
def holding (f : Frame) (k : Copy) : State :=
  let s := withLive active 5 .up none none none
  { s with
    cells := { s.cells with
      freeList := [(200, 1000)], freeCopies := [(41, 100)], frames := [(100, f)], copies := [(40, k)],
      links := [(100, some 101), (101, none)] }
    admission := { s.admission with held := [(3, 2)] } }

/-- Copy 40 QUEUED at the head of class `c` of port 5, with one post attempt called for. -/
def queued (f : Frame) (c : Cls) (via : Option GroupId) : State :=
  let s := (holding f (copyOf .queued c via)).setQueue 5 c [40]
  s.setEgressPort 5 { EgressPort.powerOn with owed := 1 }

/-- Copy 40 POSTED in slot 0 of port 5 under lap 1. -/
def posted (f : Frame) (via : Option GroupId) : State :=
  (holding f (copyOf .posted 0 via)).setEgressPort 5
    { EgressPort.powerOn with slots := [(0, ⟨40, true⟩)], nextWrite := 1 }

/-- ACTIVE with one cell issued to port 5, station A with a target in segment 1, and tenant 3 of segment 1 with tokens. -/
def arrivingFor (target : Target) : State :=
  let s := { active with
    tables := { active.tables with
      segments := [(1, { enabled := true, learning := false, tenant := 3, flood := none, multicast := none })]
      tenants := [(3, { rate := 0, depth := 5000, quota := 8, stationLimit := 1, excessMode := 2, tariffSet := 0 })] } }
  let s := s.setCellPort 5 { issued := [(300, 1)], pos := 1, lap := true }
  let s := s.setMeter 3 ⟨1280, 0⟩
  let s := s.setStation (4 * stationSet 1 (stationOf stationA))
    { segment := 1, addr := stationOf stationA, target := target, isStatic := true, hit := false, moves := 0,
      locked := false, conflict := false, tenant := 3 }
  { s with cells := { s.cells with freeList := [(400, 1000)], freeCopies := [(40, 2)] } }

/-- The same with station A on port 9. -/
def arriving : State := arrivingFor (.port 9)

/-- The ready write that brings it a frame of 60 bytes for station A. -/
def arrival : Lanes := ready 60 1 0 stationA stationB 0 0

/-! ## One small test per command -/

/-- R174, R163: the straps become the window base, the part is PASSIVE. -/
theorem test_powerOnReset :
    (after (exec (.powerOnReset 9) active) active).path =
      { winbase := 9, mode := .passive, staging := none, args := [] } := by decide +kernel

/-- R23: a ready write of the wrong slot takes nothing. -/
theorem test_ingressSlotWrite_order_fault :
    (after (exec (.ingressSlotWrite 5 3 arrival) arriving) arriving).notices.producer = 1 ∧
      (after (exec (.ingressSlotWrite 5 3 arrival) arriving) arriving).intakePort 5 = IntakePort.powerOn := by
  decide +kernel

/-- R33: the frame for station A becomes one copy on port 9, with the first free tag. -/
theorem test_takingOfDescriptor :
    (after (exec (.takingOfDescriptor 5 0 arrival) arriving) arriving).queue 9 0 = [40] ∧
      (after (exec (.takingOfDescriptor 5 0 arrival) arriving) arriving).meter 3 = ⟨0, 0⟩ := by decide +kernel

/-- R33, R8: with no station known and no flood list the cells return to the free list's tail; the refill run that
follows takes 128 cells for each port from its head. -/
theorem test_takingOfDescriptor_no_path :
    (after (exec (.takingOfDescriptor 5 0 (ready 60 1 0 stationB stationA 0 0)) arriving) arriving).tenantRecord 0 3 =
      { TenantRecord.zero with drops := [(8, 1)] } := by decide +kernel

/-- R104: the posted copy leaves its queue for slot 0. -/
theorem test_postAttempt :
    (after (exec (.postAttempt 5) (queued frame2 0 none)) active).egressPort 5 =
      { EgressPort.powerOn with slots := [(0, ⟨40, true⟩)], nextWrite := 1, owed := 1 } := by decide +kernel

/-- R102: with every phase SKIP a class 2 copy is not posted. -/
theorem test_postAttempt_all_skip :
    (after (exec (.postAttempt 5) (queued frame2 2 none)) active).queue 5 2 = [40] := by decide +kernel

/-- R108: a SENT completion retires the copy. -/
theorem test_completion_sent :
    (after (exec (.completion 5 0 (completed 40 1 1)) (posted frame2 none)) active).cells.freeCopies = [(41, 100), (40, 1)] := by
  decide +kernel

/-- R109: an ABORTED direct copy is QUEUED again. -/
theorem test_completion_aborted :
    (after (exec (.completion 5 0 (completed 40 3 1)) (posted frame2 none)) active).queue 5 0 = [40] := by decide +kernel

/-- R119: link UP moves a DOWN port to TRIAL; its timer expires at the tenth 100 µs mark. -/
theorem test_statusWord_up :
    (after (exec (.statusWord 47 (lanes 60 [0x34, 0x12, 1, 0])) active) active).livePort 47 =
      { state := .trial, changeCount := 0x1234, trial := some 1000, stall := none, drain := none } := by decide +kernel

/-- R118: link DOWN on an UP port appends its evacuation. -/
theorem test_statusWord_down :
    (after (exec (.statusWord 5 (lanes 60 [0, 0, 0, 0])) (withLive active 5 .up none none none)) active).failover.work =
      [(5, .evacuate)] := by decide +kernel

/-- R119: a trial timer due brings the port UP. -/
theorem test_trialExpiry :
    (after (exec (.trialExpiry 5) (atTime (withLive active 5 .trial (some 10) none none) 10)) active).liveness 5 = .up := by
  decide +kernel

/-- R121. -/
theorem test_stallExpiry :
    (after (exec (.stallExpiry 5) (atTime (withLive active 5 .up none (some 10) none) 11)) active).liveness 5 =
      .stalled := by decide +kernel

/-- R127; a timer not yet due does nothing. -/
theorem test_drainExpiry :
    (after (exec (.drainExpiry 5) (atTime (withLive active 5 .down none none (some 10)) 10)) active).failover.work =
        [(5, .drain)] ∧
      (after (exec (.drainExpiry 5) (atTime (withLive active 5 .down none none (some 10)) 9)) active).failover.work = [] := by
  decide +kernel

/-- R47: 30,000 units of 10 ms. -/
theorem test_agingPeriodExpiry :
    (after (exec .agingPeriodExpiry { active with lookup := { active.lookup with agingTimer := some 0 } }) active).lookup.agingTimer =
      some 300000000 := by decide +kernel

/-- R48: a LEARNED entry without its hit flag is removed. -/
def learnedEntry (hit : Bool) : Station :=
  { segment := 1, addr := 7, target := .port 5, isStatic := false, hit := hit, moves := 2, locked := false,
    conflict := false, tenant := 3 }

/-- A station table of two LEARNED entries in sets 0 and 63, one in set 64, and the walks given. -/
def stationed (sweep : Option Nat) (walk : Option FlushWalk) : State :=
  { active with
    lookup := { active.lookup with
      stations := [(0, learnedEntry true), (255, learnedEntry false), (256, learnedEntry false)], learned := [(3, 3)],
      sweep := sweep, flushWalk := walk } }

theorem test_agingSweepStep :
    (after (exec .agingSweepStep (stationed (some 0) none)) active).lookup.stations =
        [(0, { learnedEntry false with moves := 0 }), (256, learnedEntry false)] ∧
      (after (exec .agingSweepStep (stationed (some 0) none)) active).learned 3 = 2 := by decide +kernel

/-- R52: both entries of the first 64 sets go. -/
theorem test_flushWalkStep :
    (after (exec .flushWalkStep (stationed none (some ⟨⟨.byPort 5, []⟩, 0, 0⟩))) active).lookup.stations =
      [(256, learnedEntry false)] := by decide +kernel

/-- R134. -/
theorem test_walkStart :
    (after (exec .walkStart ((queued frame2 3 none).setWork [(5, .evacuate)])) active).failover.walk =
      some { port := 5, kind := .evacuate, tails := [none, none, none, some 40], cls := 0, resume := none } := by
  decide +kernel

/-- Copy 40 of class 3 of port 5, the last a walk of the kind visits, with another walk waiting; its via-group, if it
has one, is group 0, whose power-on member 40 is UP. -/
def walking (kind : WorkKind) (via : Option GroupId) : State :=
  let s := withLive ((queued frame2 3 via).setWork [(6, .drain)]) 40 .up none none none
  s.setWalk (some { port := 5, kind := kind, tails := [none, none, none, some 40], cls := 3, resume := none })

/-- R138: the copy moves to the member that is UP. -/
theorem test_evacuationWalkStep :
    (after (exec .evacuationWalkStep (walking .evacuate (some 0))) active).queue 40 3 = [40] := by decide +kernel

/-- R140: a direct copy on a drained port is retired under PORT_DOWN. -/
theorem test_drainWalkStep :
    (after (exec .drainWalkStep (walking .drain none)) active).tenantRecord 0 3 =
      { TenantRecord.zero with drops := [(10, 1)] } := by decide +kernel

/-- The export walk of bank 1 at tenant `n`, tenant 7 with the charge of 9.7. -/
def exporting (n : Nat) : State :=
  { active with
    acct :=
      { records := [(256 + 7, { TenantRecord.zero with charge := 583780 })], live := 0, epoch := 42, openTime := 5000000,
        walk := some { bank := 1, epoch := 41, openTime := 17, closeTime := 5000000, slot := 3, nextTenant := n,
                       saturated := 0 } } }

/-- 9.7, event 3: 2,280 whole units at byte 18 of the record of tenant 7 in bank 1, and the carry of 100. -/
theorem test_exportWalkStep :
    (after (exec .exportWalkStep (exporting 0)) active).readBytes (0x1904040 + 0x40 + 0x40 * 7 + 18) 5 =
        [some 0xE8, some 0x08, some 0, some 0, some 0] ∧
      ((after (exec .exportWalkStep (exporting 0)) active).tenantRecord 0 7).charge = 100 := by decide +kernel

/-- 9.7, event 8: the completion word of header 1 is 3Ch above 29h. -/
theorem test_exportWalkStep_last :
    (after (exec .exportWalkStep (exporting 240)) active).readBytes (0x1904040 + 0x3C) 4 =
      [some 0x29, some 0, some 0, some 0x3C] := by decide +kernel

/-- Granule 70 of the control tables is group entry 6 (Table 10-4). -/
def group6 : Fin 3584 := 70

/-- 10.7.1, write 1: bytes 1 and 5 of group 6 are staged. -/
theorem test_tableStagingWrite :
    (after (exec (.tableStagingWrite group6 ([none, some 4, none, none, none, some 47] ++ List.replicate 58 none)) active)
        active).path.staging = some ⟨2, 6, [(1, 4), (5, 47)]⟩ := by decide +kernel

/-- 10.7.1: bytes 0 to 5 and the commit word in one write install a SPREAD group of four members. -/
theorem test_tableCommit :
    ((after (exec (.tableCommit group6 (strobed ([1, 4, 44, 45, 46, 47] ++ List.replicate 54 0 ++ [0, 0, 0, 0xA5]))) active)
        active).groupEntry 6).ports = [44, 45, 46, 47] := by decide +kernel

/-- 10.7.1: with member 45 twice it is refused, and the power-on group of port 46 stands. -/
theorem test_tableCommit_duplicate :
    ((after (exec (.tableCommit group6 (strobed ([1, 4, 44, 45, 46, 45] ++ List.replicate 54 0 ++ [0, 0, 0, 0xA5]))) active)
        active).groupEntry 6).ports = [46] := by decide +kernel

/-- R172. -/
theorem test_commandArgumentWrite :
    ((after (exec (.commandArgumentWrite 15 (lanes 46 [1, 2, 3, 4])) active) active).args 15).drop 45 = [0, 1, 2] := by
  decide +kernel

/-- R176: a whole ring behind is accepted. -/
theorem test_consumerWord :
    (after (exec (.consumerWord (lanes 0 [1, 0, 0, 0])) (unread active 1025)) active).notices.consumer = 1 := by
  decide +kernel

/-- The status word of slot `k` as memory holds it: tag, code, state. -/
def statusOf (o : Host.Outcome State Fault Refusal) (k : Nat) : List (Option Byte) :=
  (after o active).readBytes (0x1800000 + 0x40 * k + 56) 4

/-- R179: FAILED with ARGUMENT. -/
theorem test_unknownCommand : statusOf (exec (.unknownCommand 11 (cmd 2 [])) active) 2 = [some 7, some 0, some 2, some 3] := by
  decide +kernel

/-- R168: from power-on each port is issued 128 cells, and 59,392 stay free. -/
theorem test_start :
    (after (exec (.start (cmd 0 [])) State.reset) active).issuedCount 47 = 128 ∧
      (after (exec (.start (cmd 0 [])) State.reset) active).freeCount = 59392 := by decide +kernel

/-- R55: the entry of station A in segment 1 stands in its set's first way. -/
theorem test_stationAdd :
    statusOf (exec (.stationAdd (cmd 2 ([1, 0] ++ stationA ++ [1, 0, 9, 0]))) active) 2 = [some 7, some 0, some 0, some 2] := by
  decide +kernel

/-- R55: a second STATIC entry of the key is a DUPLICATE. -/
theorem test_stationAdd_duplicate :
    statusOf (exec (.stationAdd (cmd 2 ([1, 0] ++ stationA ++ [1, 0, 9, 0]))) arriving) 2 =
      [some 7, some 0, some 7, some 3] := by decide +kernel

/-- R57: STATIC_REMOVED. -/
theorem test_stationRemove :
    statusOf (exec (.stationRemove (cmd 2 ([1, 0] ++ stationA))) arriving) 2 = [some 7, some 0, some 9, some 2] := by
  decide +kernel

/-- 11.2.1, first row: FLUSH by segment 20 stays BUSY and its walk starts. -/
theorem test_flush :
    (after (exec (.flush (cmd 0 [3, 0, 20, 0])) active) active).lookup.flushWalk =
        some ⟨⟨.bySegment 20, [0]⟩, 0, 0⟩ ∧
      statusOf (exec (.flush (cmd 0 [3, 0, 20, 0])) active) 0 = [some 7, some 0, some 0, some 1] := by decide +kernel

/-- R157: a close while the walk runs fails with BUSY. -/
theorem test_epochClose :
    (after (exec (.epochClose (cmd 3 [])) active) active).acct.epoch = 1 ∧
      statusOf (exec (.epochClose (cmd 5 [])) (exporting 0)) 5 = [some 7, some 0, some 4, some 3] := by decide +kernel

/-- R128. -/
theorem test_portAdminDown :
    (after (exec (.portAdminDown (cmd 1 [47])) active) active).liveness 47 = .adminDown ∧
      statusOf (exec (.portAdminDown (cmd 1 [48])) active) 1 = [some 7, some 0, some 2, some 3] := by decide +kernel

/-- R128: a port that is not ADMIN_DOWN cannot be released. -/
theorem test_portAdminRelease :
    statusOf (exec (.portAdminRelease (cmd 1 [47])) active) 1 = [some 7, some 0, some 3, some 3] := by decide +kernel

/-- R111, R129: the posted direct copy is QUEUED again, and the port DOWN. -/
theorem test_portReset :
    (after (exec (.portReset (cmd 1 [5])) (posted frame2 none)) active).queue 5 0 = [40] ∧
      (after (exec (.portReset (cmd 1 [5])) (posted frame2 none)) active).liveness 5 = .down := by decide +kernel

/-- R79: the bucket of tenant 3 is full. -/
theorem test_meterRefill :
    (after (exec (.meterRefill (cmd 1 [3, 0])) (atTime arriving 99)) active).meter 3 = ⟨5000, 99⟩ := by decide +kernel

/-- R180: the result value is the timebase. -/
theorem test_timeMark :
    (after (exec (.timeMark (cmd 1 [])) (atTime active 0x01020304)) active).readBytes (0x1800040 + 52) 4 =
      [some 4, some 3, some 2, some 1] := by decide +kernel

/-- R164: a write outside the window reaches memory and changes nothing. -/
theorem test_windowWriteNoEffect :
    exec (.windowWriteNoEffect 0x4000000 (lanes 0 [1])) active =
      .next (active.sending [{ addr := 0x4000000, lanes := lanes 0 [1], own := false }]) := by rfl

/-- R113: the timebase wraps. -/
theorem test_timebaseAdvance :
    (after (exec .timebaseAdvance (atTime active 0xFFFFFFFF)) active).now = 0 := by decide +kernel

/-! ## Witnesses: the hypotheses of each statement met together -/

theorem witness_StepRunsFrontCommand : State.reset.pending = [] := rfl

theorem quiet_active : active.quiet := ⟨rfl, rfl, rfl⟩

theorem witness_ModeAndWindowBaseOnlyByPowerOn :
    ∃ t, exec (.powerOnReset 15) active = .next t ∧ active.path.mode = .active ∧ t.path.mode = .passive := ⟨_, rfl, rfl, rfl⟩

/-- One command that meets the premise of all three clauses. -/
theorem witness_ClockTablesAndConsumerHaveTheirWriters :
    ∃ t, exec .agingPeriodExpiry active = .next t ∧ (∀ straps, Instr.agingPeriodExpiry ≠ .powerOnReset straps) ∧
      Instr.agingPeriodExpiry ≠ .timebaseAdvance ∧ (∀ i g, Instr.agingPeriodExpiry ≠ .tableStagingWrite i g) ∧
      (∀ i g, Instr.agingPeriodExpiry ≠ .tableCommit i g) ∧
      (∀ a g, Instr.agingPeriodExpiry ≠ .windowWriteNoEffect a g) ∧ ∀ g, Instr.agingPeriodExpiry ≠ .consumerWord g :=
  ⟨_, rfl, nofun, nofun, nofun, nofun, nofun, nofun⟩

/-- A full ring, the dividers one short of both marks, the ring positions of port 47 at their ends, and a waiting
command. -/
def atTheEdge : State :=
  let s := (unread active 1024).setEgressPort 47 { EgressPort.powerOn with nextWrite := 255, phase := 63 }
  let s := (s.setIntakePort 47 { IntakePort.powerOn with slot := 255 }).setCellPort 47 { CellPort.powerOn with pos := 511 }
  { s with live := { s.live with div100us := 99, div10ms := 9999 }, pending := [.timebaseAdvance] }

theorem witness_RingRoomClockAndPositionsKept :
    (∃ t, step atTheEdge = .next t) ∧ atTheEdge.ringRoom ∧ atTheEdge.clockOk ∧ atTheEdge.positionsOk ∧
      atTheEdge.quiet :=
  ⟨⟨_, rfl⟩, by unfold State.ringRoom; decide +kernel, by unfold State.clockOk; decide +kernel,
    by unfold State.positionsOk; decide +kernel, ⟨rfl, rfl, rfl⟩⟩

/-- A tenant at its depth, about to be refilled. -/
def refilling : State := { arriving.setMeter 3 ⟨5000, 0⟩ with pending := [.meterRefill (cmd 0 [3, 0])] }

theorem witness_InstalledEntriesAndTokensKept :
    (∃ t, step refilling = .next t) ∧ refilling.installedOk ∧ refilling.tokensOk :=
  ⟨⟨_, rfl⟩, by unfold State.installedOk; decide +kernel, by unfold State.tokensOk; decide +kernel⟩

/-- A full flush queue and a full hold pool. -/
def filled : State :=
  { active with
    lookup := { active.lookup with
      flushQueue := (List.range 8).map fun i => { req := .bySegment (i + 1), slots := [] }
      flushWalk := some ⟨⟨.allLearned, []⟩, 0, 0⟩ }
    failover := { active.failover with work := [(5, .evacuate), (5, .drain)], hold := [(63, List.range 4096)] }
    pending := [.flushWalkStep] }

/-- Cell 0 held by a frame of one copy, tag 0, at the head of class 0 of port 5; every other cell and copy record free; a
post attempt waiting. -/
def lawful : State :=
  let s := withLive active 5 .up none none none
  let s : State :=
    { s with
      cells := { s.cells with
        freeList := [(1, 65535)], freeCopies := [(1, 131071)]
        frames := [(0, { frame1 with cellCount := 1 })], copies := [(0, { copyOf .queued 0 none with frame := 0 })]
        links := [(0, none)] }
      pending := [.postAttempt 5] }
  (s.setQueue 5 0 [0]).setEgressPort 5 { EgressPort.powerOn with owed := 1 }

theorem perm_rotated (n : Nat) : (List.range' 1 n ++ [0]).Perm (List.range (n + 1)) := by
  rw [List.range_eq_range', List.range'_succ]; exact List.perm_append_comm

theorem witness_cellLaw : lawful.cellLaw := by
  refine ⟨?_, by decide +kernel, fun c => ?_, by decide +kernel, by decide +kernel, nofun⟩
  · rw [show lawful.cellsIssued = [] by decide +kernel, show lawful.cellsHeld = [0] by decide +kernel,
      show lawful.cells.freeList = [(1, 65535)] by decide +kernel]
    simp only [Runs.toList, List.append_nil, List.nil_append]
    exact perm_rotated 65535
  · rw [show lawful.cellsHeld = [0] by decide +kernel, show lawful.cells.links = [(0, none)] by decide +kernel]
    by_cases h : c = 0 <;> simp [Table.find, h, eq_comm]

theorem witness_copyLaw : lawful.copyLaw := by
  refine ⟨?_, by decide +kernel, by decide +kernel, by decide +kernel, by decide +kernel,
    by decide +kernel, by decide +kernel, nofun⟩
  rw [show lawful.cells.freeCopies = [(1, 131071)] by decide +kernel,
    show lawful.cells.copies.map (·.1) = [0] by decide +kernel]
  simp only [Runs.toList, List.append_nil]
  exact perm_rotated 131071

theorem witness_portLaw : lawful.portLaw := by unfold State.portLaw; decide +kernel

theorem witness_QueuesAndHoldPoolBoundedKept :
    (∃ t, step filled = .next t) ∧ filled.listsOk ∧ filled.holdOk ∧ (∃ t, step lawful = .next t) ∧ lawful.cellLaw ∧
      lawful.copyLaw ∧ lawful.portLaw :=
  ⟨⟨_, rfl⟩, by unfold State.listsOk; decide +kernel, by unfold State.holdOk; decide +kernel, ⟨_, rfl⟩, witness_cellLaw,
    witness_copyLaw, witness_portLaw⟩

/-- Nothing counted; and three LEARNED entries of tenant 3. -/
theorem witness_CountersWithinWidthKept :
    (∃ t, step { active with pending := [.timebaseAdvance] } = .next t) ∧
      State.countersOk { active with pending := [.timebaseAdvance] } ∧
      (∃ t, step { stationed (some 0) none with pending := [.agingSweepStep] } = .next t) ∧
      State.learnedLaw { stationed (some 0) none with pending := [.agingSweepStep] } :=
  ⟨⟨_, rfl⟩, fun _ _ => ⟨Nat.zero_le _, Nat.zero_le _, Nat.zero_le _, Nat.zero_le _, Nat.zero_le _, Nat.zero_le _,
    fun _ => Nat.zero_le _, Nat.zero_le _, Nat.zero_le _⟩, ⟨_, rfl⟩, by unfold State.learnedLaw; decide +kernel⟩

theorem witness_CanonicalFormKept : (∃ t, step refilling = .next t) ∧ refilling.canonical :=
  ⟨⟨_, rfl⟩, by decide +kernel, ⟨by decide +kernel, nofun⟩, by decide +kernel, by decide +kernel, by decide +kernel,
    by decide +kernel, by decide +kernel, by decide +kernel, by decide +kernel⟩

theorem witness_PowerOnContents :
    active.quiet ∧ (∃ t, exec (.start (cmd 0 [])) State.reset = .next t) ∧
      ∃ t, exec (.portReset (cmd 0 [5])) active = .next t := ⟨quiet_active, ⟨_, rfl⟩, ⟨_, rfl⟩⟩

theorem witness_TimebaseAdvances : atTheEdge.clockOk := by unfold State.clockOk; decide +kernel

/-- Outside the window (its first address behind the end), an offset of no area, and an ingress ring in PASSIVE. -/
theorem witness_UninterpretedWriteReachesMemoryAlone :
    active.quiet ∧ active.offsetOf 0x4000000 = none ∧
      (active.offsetOf 0x1448000).map areaOf = some .other ∧
      (State.reset.offsetOf 0x1100000).map areaOf = some (.ingress 0 0) ∧ State.reset.path.mode = .passive ∧
      State.reset.quiet := by
  unfold State.quiet; decide +kernel

/-- PASSIVE; ACTIVE with an incomplete completion word, an empty slot, a slot of the other lap; an incomplete status word,
a port that is ADMIN_DOWN. -/
theorem witness_WritesNotTakenReachMemoryAlone :
    State.reset.quiet ∧ State.reset.path.mode = .passive ∧ allStrobes (lanes 56 [0, 0, 0, 0, 1, 0, 0]) 56 8 = false ∧
      (active.egressPort 5).slots.find 255 = none ∧
      ((posted frame2 none).egressPort 5).slots.find 0 = some ⟨40, true⟩ ∧
      (CompletionWord.read (completed 40 1 0)).lap ≠ true ∧ allStrobes (lanes 60 [0, 0, 1]) 60 4 = false ∧
      (withLive active 47 .adminDown none none none).liveness 47 = .adminDown := by
  unfold State.quiet; decide +kernel

/-- A ring with room for one notice, and a full one. -/
theorem witness_ConsumerWordTaken :
    active.quiet ∧ ((unread active 1023).notices.producer - (unread active 1023).notices.consumer).toNat < 1024 ∧
      1024 ≤ ((unread active 1024).notices.producer - (unread active 1024).notices.consumer).toNat := by
  unfold State.quiet; decide +kernel

/-- A write without a ready word; a ready write of another slot; one of the expected slot with the wrong lap. -/
theorem witness_IngressWriteStagesOrFaults :
    active.quiet ∧ active.path.mode = .active ∧ readyMarker (lanes 0 [1]) = false ∧ readyMarker arrival = true ∧
      ¬((255 : RingSlot).val = (active.intakePort 5).slot ∧ readyLap arrival = (active.intakePort 5).lap) ∧
      readyMarker (ready 60 1 0 stationA stationB 0 1) = true ∧
      ¬((0 : RingSlot).val = (active.intakePort 5).slot ∧
        readyLap (ready 60 1 0 stationA stationB 0 1) = (active.intakePort 5).lap) := by
  unfold State.quiet; decide +kernel

/-- The first slot of the ring, and the last; and a port that learns into its group. -/
theorem witness_TakingAdvancesExpectedSlot :
    arriving.takes 5 0 arrival = true ∧
      (arriving.setIntakePort 5 { IntakePort.powerOn with slot := 255 }).takes 5 (255 : RingSlot) arrival = true ∧
      arriving.learnTarget 5 = .port 5 := by
  decide +kernel

/-- R46: station B of the arrival is learned where the segment learns, once, at the tenant's limit of 1. -/
theorem test_learn :
    let s := { arriving with
      tables := { arriving.tables with
        segments := [(1, { enabled := true, learning := true, tenant := 3, flood := none, multicast := none })] } }
    (after (exec (.takingOfDescriptor 5 0 arrival) s) s).learned 3 = 1 ∧
      (after (exec (.takingOfDescriptor 5 0 arrival) s) s).lookup.stations.length = 2 := by decide +kernel

/-- The descriptor of the arrival, and its frame under formation. -/
def arrived : Descriptor := Descriptor.read (merge (arriving.intakePort 5).staging arrival)
def formed : Forming := { arriving.form 5 arrived (arriving.claimed 5 arrived.cellCount) with colour := .committed }

/-- More cells than the one issued; as many, with a length below 60, with FCS_BAD, with TRUNCATED; a valid descriptor of a
disabled segment, one for an unknown station, and refusals by the meter, the shed level and the quota. -/
theorem witness_FailedValidationOutcomes :
    arriving.quiet ∧
      (∀ g ∈ [ready 512 2 0 stationA stationB 0 0, ready 59 1 0 stationA stationB 0 0,
          ready 60 1 0 stationA stationB 1 0, ready 60 1 0 stationA stationB 2 0, ready 60 1 2 stationA stationB 0 0,
          ready 60 1 0 stationB stationA 0 0, arrival], arriving.takes 5 0 g = true) ∧
      arriving.issuedCount 5 = 1 ∧
      (Descriptor.read (merge (arriving.intakePort 5).staging (ready 512 2 0 stationA stationB 0 0))).cellCount = 2 ∧
      (Descriptor.read (merge (arriving.intakePort 5).staging (ready 59 1 0 stationA stationB 0 0))).sizeValid = false ∧
      (Descriptor.read (merge (arriving.intakePort 5).staging (ready 60 1 0 stationA stationB 1 0))).fcsBad = true ∧
      (Descriptor.read (merge (arriving.intakePort 5).staging (ready 60 1 0 stationA stationB 2 0))).truncated = true ∧
      (arriving.segmentEntry 2).enabled = false ∧ arriving.lookup? 1 (stationOf stationB) = none ∧
      (arriving.segmentEntry 1).flood = none ∧
      ((arriving.learn formed).resolve formed).isSome = true ∧
      ((arriving.setMeter 3 ⟨1279, 0⟩).tenantEntry 3).excessMode = 2 ∧ frameCost 60 = 1280 ∧
      shedRefuses .critical .committed 1 = true ∧ shedRefuses .critical .committed 0 = false ∧
      (arriving.tenantEntry 3).quota < (arriving.setHeldCells 3 8).heldCells 3 + 1 := by
  unfold State.quiet; decide +kernel

/-- Port 40, the member of group 0, is UP. -/
def arrivingUp (target : Target) : State :=
  withLive (withLive (arrivingFor target) 40 .up none none none) 9 .up none none none

/-- The same with list 1023 installed: port 9, then group 0. -/
def arrivingList : State :=
  { arrivingUp (.list 1023) with
    tables := { (arrivingUp (.list 1023)).tables with
      lists := [(1023, { RepList.powerOn with count := 2, items := [⟨1, 9⟩, ⟨2, 0⟩] })] } }

/-- An EXCESS frame of a tenant in MARK_EXCESS: one token short. -/
def arrivingExcess : State :=
  let s := arriving.setMeter 3 ⟨1279, 0⟩
  { s with
    tables := { s.tables with
      tenants := [(3, { rate := 0, depth := 5000, quota := 8, stationLimit := 1, excessMode := 1, tariffSet := 0 })] } }

def formedExcess : Forming := { formed with colour := .excess }

/-- Lists 0 to 5, each with the next as its sublist and group 0 behind it. -/
def arrivingDeep : State :=
  { arrivingUp (.list 0) with
    tables := { (arrivingUp (.list 0)).tables with
      lists := (List.range 6).map fun i =>
        (i, { RepList.powerOn with count := 2, items := [⟨3, i + 1⟩, ⟨2, 0⟩] }) } }

/-- Where one copy of a frame comes to none: the ingress port, a group without a choice, no copy record, an EXCESS frame with
no free cell, an EVACUATING group with the pool full. -/
def refusing : List (State × Target) :=
  [(arrivingFor (.port 5), .port 5), (arrivingFor (.group 0), .group 0),
    ({ arriving with cells := { arriving.cells with freeCopies := [] } }, .port 9),
    (((arrivingUp (.group 0)).setGroupState 0 .evacuating).setHeldCopies 63 (List.range 4096), .group 0)]

theorem canonical_list : arrivingList.canonical ∧ arrivingDeep.canonical :=
  ⟨⟨by decide +kernel, ⟨by decide +kernel, nofun⟩, by decide +kernel, by decide +kernel, by decide +kernel,
      by decide +kernel, by decide +kernel, by decide +kernel, by decide +kernel⟩,
    ⟨by decide +kernel, ⟨by decide +kernel, nofun⟩, by decide +kernel, by decide +kernel, by decide +kernel,
      by decide +kernel, by decide +kernel, by decide +kernel, by decide +kernel⟩⟩

/-- A port, a group in service, an evacuating group with room in the pool, a list that serves two ports, and a list six deep
whose two groups are one. -/
theorem witness_UnicastFrameIsQueued :
    (∀ s ∈ [arriving, arrivingUp (.group 0), (arrivingUp (.group 0)).setGroupState 0 .evacuating, arrivingList,
        arrivingDeep],
      s.admits 5 0 arrival arrived formed ∧ s.fits formed 9 = true ∧ s.fits formed 40 = true ∧
        Runs.toList s.cells.freeCopies = [40, 41]) ∧
      (arriving.learn formed).resolve formed = some (.port 9) ∧
      ((arrivingUp (.group 0)).learn formed).resolve formed = some (.group 0) ∧
      (arrivingUp (.group 0)).groupState 0 ≠ .evacuating ∧
      (arrivingUp (.group 0)).memberChoice 0 formed.flowHash = some 40 ∧
      ((arrivingUp (.group 0)).setGroupState 0 .evacuating).holdCount < 4096 := by
  unfold State.admits; decide +kernel

/-- Each refusal of a single target; and an EXCESS frame with room, and with no free cell. -/
theorem witness_UnicastFrameIsQueued_refused :
    (∀ x ∈ refusing, x.1.admits 5 0 arrival arrived formed ∧ (x.1.learn formed).resolve formed = some x.2 ∧
      (x.1.targetRefusal (x.1.learn formed) formed x.2).isSome = true) ∧
      arrivingExcess.admits 5 0 arrival arrived formedExcess ∧ arrivingExcess.fits formedExcess 9 = true ∧
      ({ arrivingExcess with cells := { arrivingExcess.cells with freeList := [] } } : State).fits formedExcess 9 =
        false := by
  unfold State.admits; decide +kernel

/-- The two lists: what they serve, and the sublist skipped. -/
theorem witness_UnicastFrameIsQueued_lists :
    (arrivingList.learn formed).resolve formed = some (.list 1023) ∧
      arrivingList.listVerdicts formed 1023 = [(.port 9 none, none), (.port 40 (some 0), none)] ∧
      arrivingList.queue 9 formed.cls = [] ∧ arrivingList.queue 40 formed.cls = [] ∧ [40, 41].Nodup ∧
      (∀ m : ListId, (arrivingDeep.repList m).count ≤ 16) ∧
      (arrivingDeep.learn formed).resolve formed = some (.list 0) ∧
      arrivingDeep.listVerdicts formed 0 = [(.port 40 (some 0), none)] ∧
      arrivingDeep.depthAsks formed 0 = [⟨.replicationDepth, 1, 2 ^ 16 * 4 + 0, 5⟩] := by decide +kernel

/-- R91, R63: the EXCESS frame's copy is marked; a walk six deep posts REPLICATION_DEPTH and makes one copy. -/
theorem test_takingOfDescriptor_excess :
    ((after (exec (.takingOfDescriptor 5 0 arrival) arrivingExcess) active).copy 40).map (·.mark) = some true ∧
      (after (exec (.takingOfDescriptor 5 0 arrival) arrivingDeep) active).readBytes 0x1810004 2 = [some 8, some 0] ∧
      (after (exec (.takingOfDescriptor 5 0 arrival) arrivingDeep) active).queue 40 0 = [40] := by decide +kernel

/-- R9, Table 10-1: the link word of cell 300, a frame of one cell, is FFFFh at offset 1000000h + 600. -/
theorem test_takingOfDescriptor_link :
    (after (exec (.takingOfDescriptor 5 0 arrival) arriving) active).readBytes 0x1000258 2 = [some 0xFF, some 0xFF] := by
  decide +kernel

/-- The age limit 10 of every class of profile 0 at time 100: a copy enqueued at 89 or before is stale. Class 2 of port 5 holds
the stale copy 40, the last of frame 100, then copy 41 of frame 300, enqueued when given; class 0 holds the copies given. -/
def aged (zero : List Nat) (enqueued : Word32) : State :=
  let s := queued frame1 2 none
  let s : State :=
    { s with
      tables := { s.tables with
        queueProfiles := (List.range 4).map fun i => (i, { QueueProfile.powerOn with ageLimit := 10 })
        schedules := [(0, .class1 :: .class2 :: List.replicate 62 .skip)] }
      cells := { s.cells with
        freeCopies := [(43, 100)]
        frames := [(100, frame1), (300, { frame2 with ports := [5, 47] }), (500, { frame1 with cellCount := 1 })]
        copies := [(40, copyOf .queued 2 none), (41, { copyOf .queued 2 none with frame := 300, enqueued := enqueued }),
          (42, { copyOf .queued 0 none with frame := 500, enqueued := 89 })]
        links := [(100, some 101), (101, none), (500, none)] } }
  ((atTime s 100).setQueue 5 2 [40, 41]).setQueue 5 0 zero

/-- A port that is DOWN, owed an attempt; an UP port whose one copy waits in class 2 under 64 SKIP phases, the pointer at 63,
so that nothing is discarded; and a port whose three copies are all stale, class 2 named by phase 1 of a schedule adopted at
the wrap, so that three are. -/
theorem witness_AttemptsThatPostNothing :
    (let s := active.setEgressPort 5 { EgressPort.powerOn with owed := 1 };
      s.quiet ∧ 0 < (s.egressPort 5).owed ∧ s.eligible 5 = false) ∧
      (let s := (queued frame2 2 none).setEgressPort 5 { EgressPort.powerOn with owed := 1, phase := 63 };
        s.quiet ∧ 0 < (s.egressPort 5).owed ∧ s.eligible 5 = true ∧ (s.egressPort 5).phase < 64 ∧
          (0 :: (s.classesAhead 5 64).eraseDups) = [0] ∧ s.freshQueue 5 0 = [] ∧ s.discards 5 [0] = [] ∧
          s.discardable 5 []) ∧
      let s := (aged [42] 0).setEgressPort 5 { EgressPort.powerOn with owed := 1, phase := 63, pendingSched := true }
      s.quiet ∧ 0 < (s.egressPort 5).owed ∧ s.eligible 5 = true ∧ (s.egressPort 5).phase < 64 ∧
        (0 :: (s.classesAhead 5 64).eraseDups) = [0, 1, 2] ∧ (∀ c ∈ [0, 1, 2], s.freshQueue 5 c = []) ∧
        s.discards 5 [0, 1, 2] = [(0, 42), (2, 40), (2, 41)] ∧ s.discardable 5 [42, 40, 41] := by
  unfold State.quiet State.discardable; decide +kernel

/-- R103, R16, R17: the stale copies of `aged` are discarded, class 0 first; frames 500 and 100 go with their last copies, and
their cells return; drop counter 9 counts three. -/
theorem test_postAttempt_stale :
    let t := after (exec (.postAttempt 5)
      ((aged [42] 0).setEgressPort 5 { EgressPort.powerOn with owed := 1, phase := 63, pendingSched := true })) active
    Runs.toList t.cells.freeCopies = List.range' 43 100 ++ [42, 40, 41] ∧
      t.tenantRecord 0 3 = { TenantRecord.zero with drops := [(9, 3)] } ∧
      t.cells.frames.map (fun e => (e.1, e.2.copyCount, e.2.ports)) = [(300, 1, [47])] ∧ t.cells.links = [] := by
  decide +kernel

/-- The sole copy of the port in class 2, its pending schedule in force from phase 0 on; the pointer at phase 63, a SKIP. -/
def scanning : State :=
  let s := (queued frame2 2 none).setEgressPort 5
    { EgressPort.powerOn with owed := 1, phase := 63, pendingSched := true }
  { s with tables := { s.tables with schedules := [(0, .class1 :: .class2 :: List.replicate 62 .skip)] } }

/-- A fresh copy of class 2 behind a stale one of class 2 and one of class 0, the class named by phase 1 from the pointer. -/
def agedScan : State :=
  let s := aged [42] 90
  s.setEgressPort 5 { EgressPort.powerOn with owed := 1, schedule := s.scheduleProfile 0 }

/-- The same two in class 0 of the port, ahead of every phase: the last copy of frame 500 is stale, that of frame 300 not. -/
def agedStrict : State :=
  let s := (aged [42, 41] 90).setQueue 5 2 []
  s.setCopy 41 { copyOf .queued 0 none with frame := 300, enqueued := 90 }

/-- A copy of class 0, and one of class 2 that the third phase from the pointer names, behind the wrap, with nothing
stale; a stale copy ahead of the one posted, in class 0 and in the phase scan. -/
theorem witness_StrictClassIsPosted :
    (let s := queued frame2 0 none;
      s.quiet ∧ 0 < (s.egressPort 5).owed ∧ s.eligible 5 = true ∧ s.freshQueue 5 0 = [40] ∧
        s.copy 40 = some (copyOf .queued 0 none) ∧ s.frame 100 = some frame2 ∧ (s.egressPort 5).phase < 64 ∧
        s.discards 5 [0] = [] ∧ s.discardable 5 []) ∧
      (scanning.quiet ∧ 0 < (scanning.egressPort 5).owed ∧ scanning.eligible 5 = true ∧ scanning.freshQueue 5 2 = [40] ∧
        scanning.copy 40 = some (copyOf .queued 2 none) ∧ scanning.frame 100 = some frame2 ∧
        (scanning.egressPort 5).phase < 64 ∧ scanning.freshQueue 5 0 = [] ∧ (scanning.phaseAhead 5 2).cls? = some 2 ∧
        scanning.freshQueue 5 1 = [] ∧ [0, 1].map (fun j => (scanning.phaseAhead 5 j).cls?) = [none, some 1] ∧
        (0 :: (scanning.classesAhead 5 3).eraseDups) = [0, 1, 2] ∧ scanning.discards 5 [0, 1, 2] = [] ∧
        scanning.discardable 5 []) ∧
      (agedStrict.quiet ∧ 0 < (agedStrict.egressPort 5).owed ∧ agedStrict.eligible 5 = true ∧
        agedStrict.freshQueue 5 0 = [41] ∧ agedStrict.frame 300 = some { frame2 with ports := [5, 47] } ∧
        agedStrict.copy 41 = some { copyOf .queued 0 none with frame := 300, enqueued := 90 } ∧
        agedStrict.discards 5 [0] = [(0, 42)] ∧ agedStrict.discardable 5 [42] ∧
        ((agedStrict.copy 42).map fun k => k.frame) = some 500) ∧
      agedScan.quiet ∧ 0 < (agedScan.egressPort 5).owed ∧ agedScan.eligible 5 = true ∧ agedScan.freshQueue 5 2 = [41] ∧
        agedScan.freshQueue 5 0 = [] ∧ agedScan.freshQueue 5 1 = [] ∧
        [0, 1].map (fun j => (agedScan.phaseAhead 5 j).cls?) = [some 1, some 2] ∧
        (0 :: (agedScan.classesAhead 5 2).eraseDups) = [0, 1, 2] ∧
        agedScan.discards 5 [0, 1, 2] = [(0, 42), (2, 40)] ∧ agedScan.discardable 5 [42, 40] := by
  unfold State.quiet State.discardable
  refine ⟨?_, ?_, ?_, ?_⟩ <;> decide +kernel

/-- R102, R103, R17: the copy enqueued at 90 is fresh at 100 under the limit 10 and is posted, the two enqueued before go; the
pointer stands behind phase 1. -/
theorem test_postAttempt_behind_stale :
    let t := after (exec (.postAttempt 5) agedScan) active
    (t.egressPort 5).slots = [(0, ⟨41, true⟩)] ∧ (t.egressPort 5).phase = 2 ∧
      t.tenantRecord 0 3 = { TenantRecord.zero with drops := [(9, 2)] } ∧
      (after (exec (.postAttempt 5) agedStrict) active).tenantRecord 0 3 =
        { TenantRecord.zero with drops := [(9, 1)] } := by decide +kernel

/-- R98, R102: the post leaves the queues empty behind the wrap, with the new schedule and the pointer behind phase 1. -/
theorem test_postAttempt_wrap :
    ((after (exec (.postAttempt 5) scanning) active).egressPort 5).phase = 2 ∧
      ((after (exec (.postAttempt 5) scanning) active).egressPort 5).pendingSched = false := by decide +kernel

/-- A candidate at the age limit and one past it; queues without repeats, in class 0 and in every class. -/
theorem witness_StrictChoiceIsFirstFresh :
    (agedScan.copy 41).map (fun k => (agedScan.live.timebase - k.enqueued).toNat) = some 10 ∧
      (agedScan.copy 42).map (fun k => (agedScan.live.timebase - k.enqueued).toNat) = some 11 ∧
      [agedScan.isStale 5 2 41, agedScan.isStale 5 0 42, (queued frame1 2 none).isStale 5 2 40] = [false, true, false] ∧
      (agedScan.queue 5 0).Nodup ∧ (allClasses.flatMap (agedScan.queue 5)).Nodup ∧ (agedScan.egressPort 5).phase < 64 := by
  decide +kernel

/-- R100: a posted count below the window by one is eligible, one at the window is not. -/
theorem test_eligible_window :
    [1, 2].map (fun w => ({ posted frame2 none with
        tables := { active.tables with ports := [(5, { PortEntry.powerOn with window := w })] } } : State)
      |>.setQueue 5 1 [40] |>.eligible 5) = [false, true] := by decide +kernel

theorem witness_StrayCompletionKeepsCopy :
    (posted frame2 none).quiet ∧ (posted frame2 none).completes 5 0 (completed 41 1 1) = some ⟨40, true⟩ ∧
      (CompletionWord.read (completed 41 1 1)).echo ≠ 40 := by
  unfold State.quiet; decide +kernel

/-- R175, R107: a stray completion on a full ring is lost with the gap flag set, and only its own write crosses. -/
theorem test_completion_stray_full_ring :
    let s := unread (posted frame2 none) 1024
    (after (exec (.completion 5 0 (completed 41 1 1)) s) active).notices = ⟨1024, 0, true⟩ ∧
      (after (exec (.completion 5 0 (completed 41 1 1)) s) active).bus.sent =
        [s.crossing (egressOffset 5 0) (completed 41 1 1)] := by decide +kernel

/-- SENT, ERROR and an unknown status; a copy with others and a last copy; a port that is UP and one that is STALLED. -/
theorem witness_SentCopyIsRetired :
    (∀ x ∈ [(posted frame2 none, frame2), (withLive (posted frame1 none) 5 .stalled none none none, frame1)],
      ∀ status ∈ [(1 : Byte), 2, 255],
        x.1.quiet ∧ x.1.completes 5 0 (completed 40 status 1) = some ⟨40, true⟩ ∧
          (CompletionWord.read (completed 40 status 1)).echo = 40 ∧
          (CompletionWord.read (completed 40 status 1)).status ≠ 3 ∧
          x.1.copy 40 = some (copyOf .posted 0 none) ∧ x.1.frame 100 = some x.2) ∧
      2 ≤ frame2.copyCount ∧ frame1.copyCount < 2 := by
  unfold State.quiet; decide +kernel

/-- R108, R17, R123: ERROR for the last copy on a STALLED port removes the frame, counts EGRESS_ERROR and starts a trial. -/
theorem test_completion_error :
    let t := after (exec (.completion 5 0 (completed 40 2 1))
      (withLive (posted frame1 none) 5 .stalled none none none)) active
    t.frame 100 = none ∧ t.liveness 5 = .trial ∧ t.tenantRecord 0 3 = { TenantRecord.zero with drops := [(11, 1)] } := by
  decide +kernel

theorem witness_LastRetirementFreesFrame :
    (posted frame1 none).copy 40 = some (copyOf .posted 0 none) ∧ (posted frame1 none).frame 100 = some frame1 ∧
      frame1.copyCount ≤ 1 := by decide +kernel

/-- A direct copy, its port UP, or STALLED and drained. A via-group copy of group 0 with work waiting, room in the pool and none; with no work, no member UP,
port 40 UP, and a member that already has a copy of the frame. -/
theorem witness_AbortedDirectCopyReturnsToHead :
    (∀ s ∈ [posted frame2 none, posted frame2 (some 0), (posted frame2 (some 0)).setWork [(6, .drain)],
        ((posted frame2 (some 0)).setWork [(6, .drain)]).setHeldCopies 63 (List.range 4096),
        withLive (posted frame2 (some 0)) 40 .up none none none],
      s.quiet ∧ s.completes 5 0 (completed 40 3 1) = some ⟨40, true⟩ ∧
        s.frame 100 = some frame2 ∧ s.isDrained 5 = false) ∧
      (let s := (withLive (posted frame1 none) 5 .stalled none none none).setDrained 5 true;
        s.quiet ∧ s.completes 5 0 (completed 40 3 1) = some ⟨40, true⟩ ∧ s.isDrained 5 = true ∧
          s.copy 40 = some (copyOf .posted 0 none) ∧ s.frame 100 = some frame1) ∧
      (CompletionWord.read (completed 40 3 1)).echo = 40 ∧ (CompletionWord.read (completed 40 3 1)).status = 3 ∧
      (posted frame2 none).copy 40 = some (copyOf .posted 0 none) ∧
      (posted frame2 (some 0)).copy 40 = some (copyOf .posted 0 (some 0)) ∧
      (((posted frame2 (some 0)).setWork [(6, .drain)]).setHeldCopies 63 (List.range 4096)).holdCount = 4096 ∧
      (posted frame2 (some 0)).memberChoice 0 frame2.flowHash = none ∧
      (withLive (posted frame2 (some 0)) 40 .up none none none).memberChoice 0 frame2.flowHash = some 40 ∧
      (40 : Port) ∉ frame2.ports.filter (· ≠ 5) ∧ (9 : Port) ∈ frame2.ports.filter (· ≠ 5) := by
  unfold State.quiet; decide +kernel

/-- R143: with no work the via-group copy goes to the tail of port 40, with work it is held. -/
theorem test_completion_late_abort :
    (after (exec (.completion 5 0 (completed 40 3 1)) (withLive (posted frame2 (some 0)) 40 .up none none none))
        active).queue 40 0 = [40] ∧
      (after (exec (.completion 5 0 (completed 40 3 1)) ((posted frame2 (some 0)).setWork [(6, .drain)]))
        active).heldCopies 0 = [40] := by decide +kernel

/-- Both link states, on a port that is DOWN and on one that is UP. -/
theorem witness_StatusWordOutcome :
    active.path.mode = .active ∧ allStrobes (lanes 60 [0, 0, 1, 0]) 60 4 = true ∧
      statusLinkUp (lanes 60 [0, 0, 1, 0]) = true ∧ allStrobes (lanes 60 [255, 255, 0, 0]) 60 4 = true ∧
      statusLinkUp (lanes 60 [255, 255, 0, 0]) = false ∧ active.liveness 47 = .down ∧
      (withLive active 47 .up none none none).liveness 47 = .up := by decide +kernel

/-- Copy 40 HELD under group 0, whose member 40 is in TRIAL with its timer due and the last entry of the work list. -/
def releasing : State :=
  let s := holding { frame2 with ports := [9] } { copyOf .held 0 (some 0) with port := none }
  let s := (withLive s 40 .trial (some 10) none none).setHeldCopies 0 [40]
  (atTime s 10).setWork [(40, .evacuate)]

/-- A port without work, and one whose entry is the last, the pool holding a copy. -/
theorem witness_TrialExpiryBringsPortUp :
    (let s := atTime (withLive active 47 .trial (some 10) none none) 10;
      s.quiet ∧ s.liveness 47 = .trial ∧ due (s.livePort 47).trial s.now = true) ∧
      releasing.quiet ∧ releasing.liveness 40 = .trial ∧ due (releasing.livePort 40).trial releasing.now = true ∧
      releasing.failover.walk = none ∧ releasing.failover.work = [(40, .evacuate)] ∧ releasing.holdSound ∧
      releasing.heldTags = [40] := by
  unfold State.quiet State.holdSound; decide +kernel

/-- The same with no member UP at the calm point of a walk of another port, the frame's one copy held, cell 200 alone free,
and no floor in force. -/
def releasingLost : State :=
  let s := ((releasing.setFrame 100 { frame1 with ports := [] }).setWork []).setWalk
    (some { port := 6, kind := .drain, tails := [none, none, none, none], cls := 3, resume := none })
  { withLive s 40 .down none none none with
    cells := { s.cells with freeList := [(200, 1)] }
    tables := { s.tables with globalEntry := { s.tables.globalEntry with tightFloor := 0, criticalFloor := 0 } } }

/-- R145, R17, R4: the held copy is retired under NO_PATH, its two cells join the free list, and the refill run behind the
release issues them to port 0 behind cell 200. -/
theorem test_drainWalkStep_release :
    let t := after (exec .drainWalkStep releasingLost) active
    releasingLost.releaseFreed t = [100, 101] ∧ t.frame 100 = none ∧
      t.tenantRecord 0 3 = { TenantRecord.zero with drops := [(8, 1)] } ∧
      t.readBytes 0x1200004 4 = [some 100, some 0, some 0, some 0x80] ∧ Runs.toList t.cells.freeList = [] := by
  decide +kernel

/-- R145: the held copy joins the tail of port 40. -/
theorem test_trialExpiry_release :
    (after (exec (.trialExpiry 40) releasing) active).queue 40 0 = [40] ∧
      (after (exec (.trialExpiry 40) releasing) active).heldTags = [] := by decide +kernel

theorem witness_StallExpiryStallsPort :
    (let s := atTime (withLive active 47 .up none (some 10) none) 10;
      s.quiet ∧ s.liveness 47 = .up ∧ due (s.livePort 47).stall s.now = true) := by
  unfold State.quiet; decide +kernel

theorem witness_DrainExpiryAppendsWork :
    (let s := atTime (withLive active 47 .stalled none none (some 10)) 10;
      s.quiet ∧ s.liveness 47 ≠ .up ∧ due (s.livePort 47).drain s.now = true) := by
  unfold State.quiet; decide +kernel

theorem witness_WalkStartTakesHeadEntry :
    (active.setWork [(47, .drain)]).quiet ∧ (active.setWork [(47, .drain)]).failover.walk = none ∧
      (active.setWork [(47, .drain)]).failover.work = [(47, .drain)] := by
  unfold State.quiet; decide +kernel

/-- 34 direct and via-group copies in class 3 of port 5, each of a frame of its own, the last the recorded tail; no member of
group 0 is UP. -/
def crowded (kind : WorkKind) : State :=
  let s : State :=
    { active with
      cells := { active.cells with
        freeCopies := [(34, 100)], freeList := [(200, 1000)]
        frames := (List.range 34).map fun i => (100 + i, { frame1 with cellCount := 1 })
        copies := (List.range 34).map fun i =>
          (i, { copyOf .queued 3 (if i % 2 = 0 then none else some 0) with frame := 100 + i })
        links := (List.range 34).map fun i => (100 + i, none) } }
  (s.setQueue 5 3 (List.range 34)).setWalk
    (some { port := 5, kind := kind, tails := [none, none, none, some 33], cls := 3, resume := some 0 })

/-- Last visits: a copy that moves to port 40, a direct copy left in place or retired, a via-group copy retired for want of a
member and by the merge rule; a step of 32 visits behind copy 0; and a walk at its end with the work list empty and a copy
held. -/
theorem witness_WalkStepsTreatLastCopy :
    (∀ x ∈ [(WorkKind.evacuate, some (0 : GroupId)), (.drain, some 0), (.evacuate, none), (.drain, none)],
      (walking x.1 x.2).quiet ∧
        (walking x.1 x.2).failover.walk =
          some { port := 5, kind := x.1, tails := [none, none, none, some 40], cls := 3, resume := none } ∧
        (walking x.1 x.2).queue 5 3 = [40] ∧ (walking x.1 x.2).copy 40 = some (copyOf .queued 3 x.2) ∧
        (walking x.1 x.2).frame 100 = some frame2 ∧ (walking x.1 x.2).failover.work = [(6, .drain)]) ∧
      (walking .evacuate (some 0)).treats .evacuate 5 (copyOf .queued 3 (some 0)) frame2 = .moves 40 ∧
      (walking .evacuate none).treats .evacuate 5 (copyOf .queued 3 none) frame2 = .stays ∧
      (walking .drain none).treats .drain 5 (copyOf .queued 3 none) frame2 = .retires .portDown ∧
      (withLive (walking .evacuate (some 0)) 40 .down none none none).treats .evacuate 5 (copyOf .queued 3 (some 0))
        frame2 = .retires .noPath ∧
      (walking .evacuate (some 0)).treats .evacuate 5 (copyOf .queued 3 (some 0)) { frame2 with ports := [5, 40] } =
        .retires .merged ∧
      (∀ kind ∈ [WorkKind.evacuate, .drain],
        (crowded kind).quiet ∧ (crowded kind).failover.walk.map (fun w => (w.port, w.kind)) = some (5, kind) ∧
          (crowded kind).queue 5 3 = [0] ++ List.range' 1 32 ++ [33] ∧ ((crowded kind).queue 5 3).Nodup ∧
          (List.range' 1 32).length = 32 ∧
          (∀ j ∈ List.range' 1 32, (crowded kind).copy j =
              some { copyOf .queued 3 (if j % 2 = 0 then none else some 0) with frame := 100 + j } ∧
            ((crowded kind).frame (100 + j)).isSome = true) ∧
          (List.range' 1 32).Pairwise fun i j =>
            ((crowded kind).copy i).map (fun k => k.frame) ≠ ((crowded kind).copy j).map (fun k => k.frame)) ∧
      ∀ s ∈ [releasingLost, (releasing.setWork []).setWalk
          (some { port := 40, kind := .drain, tails := [none, none, none, none], cls := 3, resume := none })],
        s.quiet ∧ s.failover.walk.map (fun w => (w.cls, w.tails.getD 3 none)) = some (3, none) ∧ s.failover.work = [] ∧
          s.holdSound := by
  unfold State.quiet State.holdSound
  refine ⟨?_, ?_, ?_, ?_, ?_, ?_, ?_, ?_⟩ <;> decide +kernel

/-- R135, R136: an evacuation keeps the direct copies 2, 4, …, 32 with the resume point at 32; a drain keeps none of the 32
and its resume point. -/
theorem test_walkStep_32 :
    ((after (exec .evacuationWalkStep (crowded .evacuate)) active).failover.walk.map (·.resume)) = some (some 32) ∧
      ((after (exec .evacuationWalkStep (crowded .evacuate)) active).queue 5 3).length = 18 ∧
      (after (exec .drainWalkStep (crowded .drain)) active).queue 5 3 = [0, 33] ∧
      ((after (exec .drainWalkStep (crowded .drain)) active).failover.walk.map (·.resume)) = some (some 0) := by
  decide +kernel

/-- The largest flow hash, a group of each mode. -/
theorem witness_MemberChoiceIsUsable :
    active.quiet ∧ 65535 < 2 ^ 16 ∧ (active.groupEntry 63).mode = .ordered ∧
      ({ active with
          tables := { active.tables with groups := [(63, { GroupEntry.powerOn 63 with mode := .spread })] } } :
        State).groupEntry 63 = { GroupEntry.powerOn 63 with mode := .spread } := by
  unfold State.quiet; decide +kernel

/-- The period over with no sweep running, and with one running. -/
theorem witness_AgingExpiryStartsSweep :
    ∀ c ∈ [none, some 4032],
      let s := { active with lookup := { active.lookup with agingTimer := some 0, sweep := c } }
      s.quiet ∧ s.path.mode = .active ∧ due s.lookup.agingTimer s.now = true := by
  unfold State.quiet; decide +kernel

/-- The first step of a sweep, and the last. -/
theorem witness_SweepStepTreatsEntries :
    ∀ c ∈ [0, 4032], Table.sorted (stationed (some c) none).lookup.stations = true ∧
      (stationed (some c) none).lookup.sweep = some c := by decide +kernel

/-- The first step of a flush walk, and the last. -/
theorem witness_FlushStepOutcome :
    ∀ c ∈ [0, 4032], Table.sorted (stationed none (some ⟨⟨.byPort 5, [3]⟩, c, 0⟩)).lookup.stations = true ∧
      (stationed none (some ⟨⟨.byPort 5, [3]⟩, c, 0⟩)).lookup.flushWalk = some ⟨⟨.byPort 5, [3]⟩, c, 0⟩ := by
  decide +kernel

/-- R52, R181: the last step ends slots 3 and 9 DONE, the result 8 the 7 removed before and the one of the last sets; their
status words are written in that order. -/
theorem test_flushWalkStep_last :
    let s := stationed none (some ⟨⟨.byPort 5, [9, 3]⟩, 4032, 7⟩)
    let s : State := { s with lookup := { s.lookup with stations := [(16383, learnedEntry true)] } }
    (after (exec .flushWalkStep s) active).bus.sent = [s.doneWrite 9 0 8, s.doneWrite 3 0 8] ∧
      (after (exec .flushWalkStep s) active).readBytes (0x1800000 + 0x40 * 9 + 52) 8 =
        [some 8, some 0, some 0, some 0, some 0, some 0, some 0, some 2] := by decide +kernel

/-- The first step of an export walk, the last but one, and the last. -/
theorem witness_ExportStepWritesAndCarries :
    ∀ n ∈ [0, 224, 240], (exporting n).quiet ∧ (exporting n).acct.walk.map (·.nextTenant) = some n ∧
      n + 16 ≤ 256 ∧ (exporting n).acct.walk.map (·.bank) = some 1 ∧ (exporting n).acct.live = 0 := by
  unfold State.quiet; decide +kernel

theorem witness_LastExportStepEndsWalk :
    (exporting 240).quiet ∧ (exporting 240).acct.walk.map (fun w => (w.nextTenant, w.bank)) = some (240, 1) ∧
      (exporting 240).acct.live = 0 := by
  unfold State.quiet; decide +kernel

/-- Bytes staged for port entry 3. -/
def stagedElsewhere : State := { active with path := { active.path with staging := some ⟨1, 3, [(13, 1)]⟩ } }

/-- A granule whose four entries of 16 bytes from `first` on each carry the commit word, the last byte of each. -/
def commitsAll : Lanes := (List.replicate 4 (lanesAt (lanes 60 [0, 0, 0, 0xA5]) 48 16)).flatten

/-- The share of write 1 of 10.7.1; nothing staged, and bytes staged for port entry 3; a gap behind the global entry, and a
write of it without a strobe; the last granules of the queue profiles and of the segments. -/
theorem witness_TableWriteStages :
    let g : Lanes := [none, some 4, none, none, none, some 47] ++ List.replicate 58 none
    entryWrites group6 g = [⟨2, 6, 64, 0, g⟩] ∧ EntryWrite.commits ⟨2, 6, 64, 0, g⟩ = false ∧ active.quiet ∧
      active.path.staging = none ∧ stagedElsewhere.quiet ∧ stagedElsewhere.abandonAsks ⟨2, 6, 64, 0, g⟩ ≠ [] ∧
      areaAt (64 * 1) = none ∧ anyStrobe (List.replicate 64 none) = false ∧
      (∀ i ∈ [131, 1535], (areaAt (64 * i)).map (fun a => a.size) = some 16) ∧ commitsAll.length = 64 := by
  unfold State.quiet; decide +kernel

/-- R165, R169, R171: four segment entries committed in one granule are forwarded once and all install, behind one
TABLE_ABANDONED of port entry 3; a write of a gap leaves what is staged. -/
theorem test_tableCommit_four :
    let g : Lanes := commitsAll.zipIdx.map fun x => if x.2 % 16 = 0 then some 1 else x.1
    let t := after (exec (.tableCommit 1535 g) stagedElsewhere) active
    t.bus.sent.length = 2 ∧ t.readBytes 0x1810004 2 = [some 12, some 0] ∧ t.path.staging = none ∧
      (∀ k ∈ [4092, 4093, 4094, 4095], (t.segmentEntry k).enabled = true) ∧
      (after (exec (.tableCommit 1 g) stagedElsewhere) active).path.staging = some ⟨1, 3, [(13, 1)]⟩ := by
  decide +kernel

/-- The commit word alone, at the last entry of each table, in its granule of the control tables. -/
theorem witness_TenantCommitInstalls :
    active.quiet ∧ State.reset.quiet ∧ active.path.mode = .active ∧ State.reset.path.mode = .passive ∧
      active.path.staging = none ∧ stagedElsewhere.quiet ∧
      ∀ x ∈ [((0 : Nat), (0 : Nat), (0 : Nat), 64, 0), (51, 1, 47, 64, 0), (127, 2, 63, 64, 0), (131, 3, 15, 16, 0),
          (139, 4, 3, 128, 64), (147, 5, 3, 64, 0), (447, 6, 255, 64, 0), (1535, 7, 4095, 16, 0),
          (3583, 8, 1023, 128, 64)],
        let g : Lanes := lanes 60 [0, 0, 0, 0xA5]
        let e : EntryWrite := ⟨x.2.1, x.2.2.1, x.2.2.2.1, x.2.2.2.2, if x.2.2.2.1 = 16 then lanesAt g 48 16 else g⟩
        x.1 < 3584 ∧ entryWrites x.1 g = [e] ∧ e.commits = true ∧
          entryReasons e.table
            (overlay (active.installedBytes e.table e.index)
              (stageBytes e.base e.lanes (active.stagedBytes e.table e.index))) = [] := by
  unfold State.quiet; decide +kernel

/-- R169: a commit of another entry installs it, and TABLE_ABANDONED of port entry 3 is posted. -/
theorem test_tableCommit_abandons :
    let t := after (exec (.tableCommit group6 (strobed ([1, 1, 9] ++ List.replicate 57 0 ++ [0, 0, 0, 0xA5])))
      stagedElsewhere) active
    (t.groupEntry 6).ports = [9] ∧ t.path.staging = none ∧ t.readBytes 0x1810004 2 = [some 12, some 0] ∧
      t.readBytes 0x181000C 6 = [some 3, some 0, some 0, some 0, some 0, some 1] := by decide +kernel

/-- Table 10-3, R98: a port entry naming another schedule profile is adopted on empty queues. -/
theorem test_tableCommit_port :
    ((after (exec (.tableCommit 51 (lanes 4 [0x10] |>.zipWith (fun a b => b.or a) (lanes 60 [0, 0, 0, 0xA5]))) active)
        active).portEntry 47).schedProfile = 1 := by decide +kernel

/-- A group entry with member 45 twice: DUPLICATE alone applies. -/
theorem witness_RefusedCommitKeepsInstalledCopy :
    let g : Lanes := strobed ([1, 4, 44, 45, 46, 45] ++ List.replicate 54 0 ++ [0, 0, 0, 0xA5])
    active.quiet ∧ entryWrites group6 g = [⟨2, 6, 64, 0, g⟩] ∧ EntryWrite.commits ⟨2, 6, 64, 0, g⟩ = true ∧
      active.path.staging = none ∧ stagedElsewhere.quiet ∧
      (entryReasons 2 (overlay (active.installedBytes 2 6) (stageBytes 0 g (active.stagedBytes 2 6)))).eraseDups =
        [.duplicate] := by
  unfold State.quiet; decide +kernel

theorem witness_ArgumentWriteUpdatesCopy : active.quiet ∧ allStrobes (lanes 40 [1, 2]) 60 4 = false := by
  unfold State.quiet; decide +kernel

theorem witness_CommandWordIsItsRow : (cmd 15 [1, 2]).ok = true := by decide +kernel

/-- Slot 15 BUSY with a FLUSH. -/
theorem witness_BusySlotIgnoresCommands :
    (let s := active.setSlot 15 { status := .busy, kind := 4, tag := 0x11 };
      s.quiet ∧ (s.slot (cmd 15 []).slot).status = .busy) := by
  unfold State.quiet; decide +kernel

/-- The kinds next to the table's ends, both modes, a free slot. -/
theorem witness_KindAndModeFailures :
    State.reset.quiet ∧ active.quiet ∧ State.reset.free 15 ∧ active.free 15 ∧ knownKind 0 = false ∧ knownKind 11 = false ∧
      knownKind 2 = true ∧ knownKind 10 = true ∧ State.reset.path.mode = .passive ∧ active.path.mode = .active := by
  unfold State.quiet State.free; decide +kernel

theorem witness_StartMakesPartActive : State.reset.free 15 ∧ State.reset.path.mode = .passive := by
  unfold State.free; decide +kernel

theorem witness_StartIssuesCellsInPortOrder :
    State.reset.free 15 ∧ State.reset.path.mode = .passive ∧ State.reset.installedOk ∧
      (∀ p : Port, (State.reset.cellPort p).issued = []) ∧ State.reset.quiet ∧
      ∃ first : Port → Nat,
        ∀ p : Port, first p = ((allPorts.take p.val).map fun q => (State.reset.portEntry q).issueTarget).sum :=
  ⟨by unfold State.free; decide +kernel, rfl, by unfold State.installedOk; decide +kernel, by decide +kernel,
    ⟨rfl, rfl, rfl⟩, _, fun _ => rfl⟩

/-- R4, R18: the last free-cell entry of port 47 after START is cell 6,143, position 127, lap 1. -/
theorem test_start_entry :
    (after (exec (.start (cmd 0 [])) State.reset) active).readBytes (0x1200000 + 0x800 * 47 + 4 * 127) 4 =
      [some 0xFF, some 0x17, some 0, some 0x80] := by decide +kernel

/-- R82, R166, R168: with the tight floor at 60,000 the 59,392 free cells make the level TIGHT; the last writes
of START are SHED_LEVEL and the status word. -/
theorem test_start_shed :
    let s := { State.reset with
      tables := { State.reset.tables with
        globalEntry := { State.reset.tables.globalEntry with tightFloor := 60000 } } }
    let t := after (exec (.start (cmd 0 [])) s) active
    t.admission.shed = .tight ∧ t.bus.sent.head? = some (s.endWrite 0 .done 7) ∧
      (t.bus.sent.take 2).map (·.addr) = [0x1800034, 0x1810000] := by
  decide +kernel

/-- What the commands of a slot ask for: nothing gathered, a free slot, ACTIVE. One witness serves STATION_ADD,
STATION_REMOVE, FLUSH, EPOCH_CLOSE and TIME_MARK. -/
theorem witness_commands : active.quiet ∧ active.free 15 ∧ active.path.mode = .active ∧
    (active.lookup.flushWalk = none → active.lookup.flushQueue = []) := by
  unfold State.quiet State.free; decide +kernel

theorem witness_StationAddOutcome : arriving.quiet ∧ arriving.free 15 ∧ arriving.path.mode = .active := by
  unfold State.quiet State.free; decide +kernel

theorem witness_StationRemoveOutcome : arriving.quiet ∧ arriving.free 15 ∧ arriving.path.mode = .active := by
  unfold State.quiet State.free; decide +kernel

/-- A full flush queue behind a running walk. -/
theorem witness_FlushOutcome : filled.quiet ∧ filled.free 15 ∧ filled.path.mode = .active ∧
    (filled.lookup.flushWalk = none → filled.lookup.flushQueue = []) := by
  unfold State.quiet State.free; decide +kernel

theorem witness_EpochCloseOutcome : (exporting 0).quiet ∧ (exporting 0).free 15 ∧ (exporting 0).path.mode = .active := by
  unfold State.quiet State.free; decide +kernel

/-- Ports 48 and 47. -/
theorem witness_PortAdminDownOutcome :
    active.quiet ∧ active.free 15 ∧ active.path.mode = .active ∧ 47 < argPort (active.argsWith (cmd 15 [48])) ∧
      argPort (active.argsWith (cmd 15 [47])) = (47 : Port) := by
  unfold State.quiet State.free; decide +kernel

/-- Ports 48 and 47, the latter DOWN and ADMIN_DOWN. -/
theorem witness_PortAdminReleaseOutcome :
    let s := withLive active 47 .adminDown none none none
    active.quiet ∧ active.free 15 ∧ active.path.mode = .active ∧ 47 < argPort (active.argsWith (cmd 15 [48])) ∧
      argPort (active.argsWith (cmd 15 [47])) = (47 : Port) ∧ active.liveness 47 ≠ .adminDown ∧ s.quiet ∧ s.free 15 ∧
      s.path.mode = .active ∧ argPort (s.argsWith (cmd 15 [47])) = (47 : Port) ∧ s.liveness 47 = .adminDown := by
  unfold State.quiet State.free; decide +kernel

/-- Port 48; a port with nothing posted, with a direct copy posted, and with a via-group copy posted, while work waits and
with none. -/
theorem witness_PortResetOutcome :
    active.quiet ∧ 47 < argPort (active.argsWith (cmd 15 [48])) ∧
      (∀ s ∈ [active, posted frame2 none, (posted frame2 (some 0)).setWork [(6, .drain)],
          withLive (posted frame1 (some 0)) 40 .up none none none],
        s.quiet ∧ s.free 15 ∧ s.path.mode = .active ∧ argPort (s.argsWith (cmd 15 [5])) = (5 : Port) ∧
          Table.sorted s.failover.hold = true ∧ s.positionsOk ∧ (s.portEntry 5).issueTarget < 512 ∧
          ((s.egressPort 5).postedInOrder.flatMap (s.resetFreed 5 (s.egressPort 5).postedInOrder)).Nodup) ∧
      (active.egressPort 5).postedInOrder = [] ∧ ((posted frame2 none).egressPort 5).postedInOrder = [40] ∧
      (posted frame2 none).isVia 40 = false ∧ (posted frame2 (some 0)).isVia 40 = true ∧
      (posted frame2 (some 0)).holdCount + 1 ≤ 4096 ∧ (posted frame2 none).frame 100 = some frame2 ∧
      (posted frame2 none).copy 40 = some (copyOf .posted 0 none) ∧
      (posted frame2 none).resetFateOf 5 [] 40 = some .returns ∧
      ((posted frame2 (some 0)).setWork [(6, .drain)]).resetFateOf 5 [40] 40 = some (.held 0) ∧
      (withLive (posted frame1 (some 0)) 40 .up none none none).resetFateOf 5 [40] 40 = some (.joins 40) ∧
      (posted frame1 (some 0)).resetFateOf 5 [40] 40 = some (.retired .noPath) := by
  unfold State.quiet State.free State.positionsOk; decide +kernel

/-- R144, first case: with no work the via-group copy is re-chosen at once, before the port goes down. -/
theorem test_portReset_rechoice :
    (after (exec (.portReset (cmd 1 [5])) (withLive (posted frame1 (some 0)) 40 .up none none none)) active).queue 40 0 =
      [40] := by decide +kernel

/-- R144: while work waits, the via-group copy is held under its group. -/
theorem test_portReset_via :
    (after (exec (.portReset (cmd 1 [5])) ((posted frame2 (some 0)).setWork [(6, .drain)])) active).heldCopies 0 =
      [40] := by decide +kernel

/-- PASSIVE; tenants 256 and 255. -/
theorem witness_MeterRefillFillsBucket :
    State.reset.quiet ∧ State.reset.free 15 ∧ State.reset.path.mode = .passive ∧ active.quiet ∧ active.free 15 ∧
      active.path.mode = .active ∧ 255 < argTenant (active.argsWith (cmd 15 [0, 1])) ∧
      argTenant (active.argsWith (cmd 15 [255, 0])) = (255 : Tenant) := by
  unfold State.quiet State.free; decide +kernel

theorem witness_TimeMarkReturnsTimebase : active.quiet ∧ active.free 15 ∧ active.path.mode = .active := by
  unfold State.quiet State.free; decide +kernel

/-- The rows of R80 at their bounds, on the power-on global entry; a report that changes nothing, a fall and a rise. -/
theorem witness_ShedLevelTable :
    2047 < GlobalEntry.powerOn.criticalFloor ∧ GlobalEntry.powerOn.criticalFloor ≤ 2048 ∧
      8191 < GlobalEntry.powerOn.tightFloor ∧ GlobalEntry.powerOn.tightFloor ≤ 8192 ∧
      GlobalEntry.powerOn.tightFloor + GlobalEntry.powerOn.hysteresis ≤ 9216 ∧
      9215 < GlobalEntry.powerOn.tightFloor + GlobalEntry.powerOn.hysteresis ∧
      GlobalEntry.powerOn.criticalFloor + GlobalEntry.powerOn.hysteresis ≤ 3072 ∧
      3071 < GlobalEntry.powerOn.criticalFloor + GlobalEntry.powerOn.hysteresis ∧
      evaluateShed active.tables.globalEntry active.admission.shed active.freeCount = .normal ∧
      ShedLevel.rises .normal .tight = false ∧ ShedLevel.rises .tight .normal = true := by decide +kernel

/-- The largest and smallest codes and counts, and the codes where the two shifts meet. -/
theorem witness_ThresholdFormula : ∀ a ∈ [0, 3, 4, 7], a ≤ 7 ∧ 65536 ≤ 65536 ∧ 0 ≤ 65536 := by decide

/-- A step under the cell law; and a run that fills port 5 across the end of its ring. -/
theorem witness_RefillRunConservesCells :
    ((∃ t, step lawful = .next t) ∧ lawful.cellLaw) ∧
      let s := lawful.setCellPort 5 { CellPort.powerOn with pos := 511 }
      s.positionsOk ∧ s.quiet ∧ s.refillRun.issuedCount 5 - s.issuedCount 5 = 128 :=
  ⟨⟨⟨_, rfl⟩, witness_cellLaw⟩, by unfold State.quiet State.positionsOk; decide +kernel⟩

theorem witness_LoopBoundsSuffice :
    (∀ m : ListId, (active.repList m).count ≤ 16) ∧ [(65535 : Nat), 0, 7] ≠ [] ∧ [(65535 : Nat), 0, 7].Nodup ∧
      Table.sorted active.cells.links = true := by decide +kernel

end Sys2Proof.Tests
end

section
/-! The shed level: its table (R80), the report of a free count that evaluates it (R6, R81), and the thresholds of an alpha
code (R88). -/
namespace Sys2Proof.Machine

/-! ## What a report reads after a change of level and a refill run -/

@[simp] theorem State.ask_admission (s : State) (k : NoticeKind) (a b c : Nat) :
    (s.ask k a b c).admission = s.admission := by
  unfold State.ask; split <;> rfl

@[simp] theorem State.ask_cells (s : State) (k : NoticeKind) (a b c : Nat) : (s.ask k a b c).cells = s.cells := by
  unfold State.ask; split <;> rfl

@[simp] theorem State.setShed_shed (s : State) (l : ShedLevel) : (s.setShed l).admission.shed = l := by
  simp [State.setShed]

@[simp] theorem State.setShed_freeCount (s : State) (l : ShedLevel) : (s.setShed l).freeCount = s.freeCount := by
  simp [State.setShed, State.freeCount]

@[simp] theorem State.refillPort_admission (s : State) (p : Port) : (s.refillPort p).admission = s.admission := by
  unfold State.refillPort; split <;> rfl

@[simp] theorem State.refillRun_admission (s : State) : s.refillRun.admission = s.admission := by
  have foldl_admission (l : List Port) (t : State) : (l.foldl State.refillPort t).admission = t.admission := by
    induction l generalizing t with
    | nil => rfl
    | cons p l ih => rw [List.foldl_cons, ih, State.refillPort_admission]
  unfold State.refillRun
  split
  · exact foldl_admission _ _
  · rfl

/-! ## The rows of the table -/

theorem evaluateShed_of_lt_criticalFloor {e : GlobalEntry} {l : ShedLevel} {f : Nat} (hl : l ≠ .critical)
    (h : f < e.criticalFloor) : evaluateShed e l f = .critical := by
  cases l with
  | normal => exact if_pos h
  | tight => exact if_pos h
  | critical => exact absurd rfl hl

theorem evaluateShed_normal {e : GlobalEntry} {f : Nat} (h : e.criticalFloor ≤ f) :
    evaluateShed e .normal f = if f < e.tightFloor then .tight else .normal := if_neg (not_lt.2 h)

theorem evaluateShed_tight {e : GlobalEntry} {f : Nat} (h : e.criticalFloor ≤ f) :
    evaluateShed e .tight f = if e.tightFloor + e.hysteresis ≤ f then .normal else .tight := if_neg (not_lt.2 h)

theorem evaluateShed_critical (e : GlobalEntry) (f : Nat) :
    evaluateShed e .critical f = if e.criticalFloor + e.hysteresis ≤ f then .tight else .critical := rfl

/-! ## A report -/

/-- Table 11-2 numbers the levels away from NORMAL, so a rise lowers the number: the measure of the reports to come. -/
theorem ShedLevel.rises_iff {l m : ShedLevel} : l.rises m = true ↔ m.code < l.code := by
  cases l <;> cases m <;> decide

theorem ShedLevel.code_lt (l : ShedLevel) : l.code < 3 := by cases l <;> decide

theorem ShedLevel.ne_of_rises {l m : ShedLevel} (h : l.rises m = true) : m ≠ l := by
  rintro rfl
  exact lt_irrefl _ (ShedLevel.rises_iff.1 h)

section report
variable {s : State} {l : ShedLevel} (hl : evaluateShed s.tables.globalEntry s.admission.shed s.freeCount = l)
include hl

theorem State.reportFree_of_same (n : Nat) (h : l = s.admission.shed) : s.reportFree n = s := by
  cases n with
  | zero => rfl
  | succ n => exact if_pos (hl.trans h)

theorem State.reportFree_of_fall (n : Nat) (h : l ≠ s.admission.shed) (hr : s.admission.shed.rises l = false) :
    s.reportFree (n + 1) = s.setShed l := by
  simp [State.reportFree, hl, h, hr]

theorem State.reportFree_of_rise (n : Nat) (hr : s.admission.shed.rises l = true) :
    s.reportFree (n + 1) =
      if (s.setShed l).refillRun.freeCount = s.freeCount then s.setShed l else (s.setShed l).refillRun.reportFree n := by
  simp [State.reportFree, hl, ShedLevel.ne_of_rises hr, hr]

end report

/-- Every further report follows a rise, so a bound above the level's number is never used up. -/
theorem State.reportFree_eq_of_code_lt {s : State} {n m : Nat} (hn : s.admission.shed.code < n)
    (hm : s.admission.shed.code < m) : s.reportFree n = s.reportFree m := by
  induction n generalizing s m with
  | zero => exact absurd hn (Nat.not_lt_zero _)
  | succ n ih =>
    obtain ⟨m, rfl⟩ := Nat.exists_eq_add_one_of_ne_zero (Nat.ne_zero_of_lt hm)
    obtain ⟨l, hl⟩ : ∃ l, evaluateShed s.tables.globalEntry s.admission.shed s.freeCount = l := ⟨_, rfl⟩
    by_cases hr : s.admission.shed.rises l = true
    case pos =>
      have hlt : l.code < s.admission.shed.code := ShedLevel.rises_iff.1 hr
      have further : (s.setShed l).refillRun.reportFree n = (s.setShed l).refillRun.reportFree m :=
        ih (by simp; omega) (by simp; omega)
      rw [reportFree_of_rise hl n hr, reportFree_of_rise hl m hr, further]
    case neg =>
      by_cases h : l = s.admission.shed
      · rw [reportFree_of_same hl _ h, reportFree_of_same hl _ h]
      · have hf : s.admission.shed.rises l = false := Bool.eq_false_of_not_eq_true hr
        rw [reportFree_of_fall hl n h hf, reportFree_of_fall hl m h hf]

/-- A report whose evaluation raises the level: the refill run's new free count is reported in full (R6, R81). -/
theorem State.report_of_rise {s : State} {l : ShedLevel}
    (hl : evaluateShed s.tables.globalEntry s.admission.shed s.freeCount = l) (hr : s.admission.shed.rises l = true) :
    s.report =
      if (s.setShed l).refillRun.freeCount = s.freeCount then s.setShed l else (s.setShed l).refillRun.report := by
  have hlt : l.code < s.admission.shed.code := ShedLevel.rises_iff.1 hr
  have h3 := s.admission.shed.code_lt
  have second : (s.setShed l).refillRun.reportFree 2 = (s.setShed l).refillRun.reportFree 3 :=
    reportFree_eq_of_code_lt (by simp; omega) (by simp; omega)
  rw [State.report, State.report, reportFree_of_rise hl 2 hr, second]

/-- Settles O57: the table row by row, and a report by whether the evaluation keeps, lowers or raises the level. -/
theorem shedLevelTable : Obligations.ShedLevelTable := by
  refine ⟨fun e f => ⟨fun h => ?fallCritical, fun h ht => ?fallTight, fun h ht => ?stayNormal, fun h ht => ?riseNormal,
    fun h ht => ?stayTight, fun h => ?riseTight, fun h => ?stayCritical⟩, fun s l hl => ?report⟩
  case fallCritical =>
    exact ⟨evaluateShed_of_lt_criticalFloor nofun h, evaluateShed_of_lt_criticalFloor nofun h⟩
  case fallTight => rw [evaluateShed_normal h, if_pos ht]
  case stayNormal => rw [evaluateShed_normal h, if_neg (not_lt.2 ht)]
  case riseNormal => rw [evaluateShed_tight h, if_pos ht]
  case stayTight => rw [evaluateShed_tight h, if_neg (not_le.2 ht)]
  case riseTight => rw [evaluateShed_critical, if_pos h]
  case stayCritical => rw [evaluateShed_critical, if_neg (not_le.2 h)]
  case report =>
    exact ⟨State.reportFree_of_same hl 3, State.reportFree_of_fall hl 2, State.report_of_rise hl⟩

/-! ## Thresholds -/

theorem threshold_eq_shift (a free : Nat) :
    threshold a free = min 65536 (if 4 ≤ a then free <<< (a - 4) else free >>> (4 - a)) := by
  rw [threshold, min_comm, Nat.shiftLeft_eq, Nat.shiftRight_eq_div_pow]

theorem excessThreshold_eq_shift (a free : Nat) : excessThreshold a free = threshold a free >>> 1 :=
  (Nat.shiftRight_eq_div_pow _ 1).symm

/-- Up to code 4 the multiple is at most 1 (Table 5-5). -/
theorem threshold_le_free {a : Nat} (ha : a ≤ 4) (free : Nat) : threshold a free ≤ free := by
  refine (min_le_left _ _).trans ?_
  split
  case isTrue h4 => rw [le_antisymm ha h4]; simp
  case isFalse => exact Nat.div_le_self _ _

@[simp] theorem threshold_zero (a : Nat) : threshold a 0 = 0 := by simp [threshold]

@[simp] theorem excessThreshold_zero (a : Nat) : excessThreshold a 0 = 0 := by simp [excessThreshold]

/-- Settles O58: each clause is a fact about the two formulas, for every code and free count. -/
theorem thresholdFormula : Obligations.ThresholdFormula := fun a free _ _ =>
  ⟨threshold_eq_shift a free, excessThreshold_eq_shift a free, fun h => threshold_le_free h free, threshold_zero a,
    excessThreshold_zero a⟩

end Sys2Proof.Machine
end

section
/-! Power-on reset (R174): what each accessor reads after it, and that neither START nor PORT_RESET changes an installed
copy. -/
namespace Sys2Proof.Machine

/-! ## What is read after power-on reset -/

section powerOn
variable (s : State) (straps : BitVec 4)

/-- Memory is not written. -/
@[simp] theorem State.powerOn_bus : (s.powerOn straps).bus = s.bus := rfl

@[simp] theorem State.powerOn_tables : (s.powerOn straps).tables = Installed.powerOn := rfl

@[simp] theorem State.powerOn_slot (k : SlotId) : (s.powerOn straps).slot k = CommandSlot.powerOn := rfl

@[simp] theorem State.powerOn_args (k : SlotId) : (s.powerOn straps).args k = zeroArgs := rfl

@[simp] theorem State.powerOn_egressPort (p : Port) : (s.powerOn straps).egressPort p = EgressPort.powerOn := rfl

@[simp] theorem State.powerOn_meter (n : Tenant) : (s.powerOn straps).meter n = ⟨0, 0⟩ := rfl

@[simp] theorem State.powerOn_portEntry (p : Port) : (s.powerOn straps).portEntry p = PortEntry.powerOn := rfl

@[simp] theorem State.powerOn_groupEntry (g : GroupId) :
    (s.powerOn straps).groupEntry g = GroupEntry.powerOn g := rfl

@[simp] theorem State.powerOn_profileOf (p : Port) (c : Cls) :
    (s.powerOn straps).profileOf p c = QueueProfile.powerOn := rfl

@[simp] theorem State.powerOn_scheduleProfile (k : Nat) : (s.powerOn straps).scheduleProfile k = allSkip := rfl

@[simp] theorem State.powerOn_tariffSet (k : Nat) : (s.powerOn straps).tariffSet k = tariffsPowerOn := rfl

@[simp] theorem State.powerOn_tenantEntry (n : Tenant) : (s.powerOn straps).tenantEntry n = TenantEntry.powerOn := rfl

@[simp] theorem State.powerOn_segmentEntry (g : Nat) : (s.powerOn straps).segmentEntry g = SegmentEntry.powerOn := rfl

@[simp] theorem State.powerOn_repList (l : ListId) : (s.powerOn straps).repList l = RepList.powerOn := rfl

@[simp] theorem State.powerOn_memByte (a : Nat) : (s.powerOn straps).memByte a = s.memByte a := by
  simp only [State.memByte, State.powerOn_bus]

/-- The priority map 1555h (R174): code 7 maps to class 0, every other code to class 1. -/
theorem State.powerOn_classOfPriority (code : Fin 8) :
    (s.powerOn straps).classOfPriority code = if code = 7 then 0 else 1 := by
  have map : ∀ c : Fin 8, GlobalEntry.powerOn.prioMap.toNat / 2 ^ (2 * (c : Nat)) % 4 = if c = 7 then 0 else 1 := by
    decide
  refine Fin.ext ((map code).trans ?_)
  split <;> rfl

end powerOn

/-- The one member of a power-on group entry is a port of the part (R130). -/
theorem GroupEntry.powerOn_ports (g : Nat) : (GroupEntry.powerOn g).ports.map Fin.val = [40 + g % 8] := by
  have hbyte : (BitVec.ofNat 8 (40 + g % 8)).toNat = 40 + g % 8 := by
    rw [BitVec.toNat_ofNat]
    omega
  have hport : 40 + g % 8 < 48 := by omega
  simp [GroupEntry.ports, GroupEntry.powerOn, hbyte, portOf, hport]

/-- Between two actions nothing is gathered, so power-on reset sends nothing. -/
theorem exec_powerOnReset {s : State} (straps : BitVec 4) (h : s.quiet) :
    exec (.powerOnReset straps) s = .next (s.powerOn straps) :=
  congrArg Host.Outcome.next (finish_of_quiet (s.powerOn straps) h)

/-! ## START and PORT_RESET leave the installed tables -/

/-- Steps 1 to 4 of R168 act inside the blocks they restart. -/
theorem Keeps.startBlocks {r s : State} (h : Keeps r s) : Keeps r s.startCells.startIntake.startEgress.startLive := by
  have hcells : Keeps r s.startCells := foldl _ (fun _ _ k => k.cells _) _ (h.cells _)
  have hegress : Keeps r s.startCells.startIntake.startEgress :=
    foldl _ (fun _ _ k => k.queues _) _ (hcells.intake _)
  exact foldl _ (fun _ p k => k.setLivePort p _) _ hegress

@[simp] theorem State.startRest_tables (s : State) : s.startRest.tables = s.tables := rfl

theorem State.startPart_tables (s : State) (k : SlotId) : (s.startPart k).tables = s.tables :=
  calc (s.startPart k).tables
    _ = s.startCells.startIntake.startEgress.startLive.startRest.tables :=
      ((Keeps.refl _).refillRun.report.done k .none 0).tables
    _ = s.startCells.startIntake.startEgress.startLive.tables := State.startRest_tables _
    _ = s.tables := (Keeps.refl s).startBlocks.tables

theorem State.startBody_tables (s : State) (k : SlotId) : (s.startBody k).tables = s.tables := by
  unfold State.startBody
  split
  case isTrue => exact ((Keeps.refl s).fail k .state).tables
  case isFalse => exact s.startPart_tables k

theorem State.portResetBody_tables (s : State) (k : SlotId) : (s.portResetBody k).tables = s.tables :=
  ((Keeps.refl s).portResetBody k).tables

/-- A command write, ignored or started, leaves the installed tables where its body does. -/
theorem State.commandWrite_tables (s : State) (kind : Byte) (w : SlotWrite) {body : State → State}
    (hbody : ∀ u, (body u).tables = u.tables) : (s.commandWrite kind w body).tables = s.tables := by
  have hargs : Keeps s ((s.forward (s.windowAddr (slotOffset w.slot)) (slotGranule kind w)).takeArgs w.slot w.low) :=
    ((Keeps.refl s).forward _ _).takeArgs _ _
  unfold State.commandWrite State.commandWord
  split
  case isTrue => exact (hargs.ignoreCommand w.slot kind w.tag).tables
  case isFalse => exact (hbody _).trans (hargs.startSlot w.slot kind w.tag).tables

theorem exec_start_tables {w : SlotWrite} {s t : State} (h : exec (.start w) s = .next t) : t.tables = s.tables := by
  obtain rfl : (s.commandWrite 1 w fun u => u.startBody w.slot).finish = t := Host.Outcome.next.inj h
  rw [State.finish_tables, s.commandWrite_tables 1 w fun u => u.startBody_tables w.slot]

theorem exec_portReset_tables {w : SlotWrite} {s t : State} (h : exec (.portReset w) s = .next t) :
    t.tables = s.tables := by
  obtain rfl : (s.commandWrite 8 w fun u => u.portResetBody w.slot).finish = t := Host.Outcome.next.inj h
  rw [State.finish_tables, s.commandWrite_tables 8 w fun u => u.portResetBody_tables w.slot]

/-- Settles O11: `State.powerOn` is the state reached, and each clause reads one of its blocks. -/
theorem powerOnContents : Obligations.PowerOnContents := by
  refine ⟨fun straps s hs => ⟨s.powerOn straps, exec_powerOnReset straps hs, ?_⟩, fun _ _ _ => exec_start_tables,
    fun _ _ _ => exec_portReset_tables⟩
  refine ⟨rfl, rfl, rfl, s.powerOn_args straps, s.powerOn_memByte straps, rfl, rfl, rfl, rfl, rfl, rfl, rfl, rfl, ?slots,
    rfl, ?egress, rfl, rfl, rfl, rfl, rfl, s.powerOn_classOfPriority straps, s.powerOn_portEntry straps, ?groups,
    ?profiles, s.powerOn_profileOf straps, s.powerOn_scheduleProfile straps, s.powerOn_tariffSet straps, ?tenants,
    s.powerOn_segmentEntry straps, ?lists⟩
  case slots => simp [CommandSlot.powerOn]
  case egress => simp [EgressPort.powerOn, allSkip]
  case groups =>
    intro g
    rw [s.powerOn_groupEntry straps g]
    exact ⟨rfl, rfl, GroupEntry.powerOn_ports g⟩
  case profiles => simp [Installed.powerOn, QueueProfile.powerOn]
  case tenants => exact fun n => ⟨s.powerOn_tenantEntry straps n, s.powerOn_meter straps n⟩
  case lists => simp [RepList.powerOn]

end Sys2Proof.Machine
end

section
/-! What a notice asked for leaves alone, block by block (R175). -/
namespace Sys2Proof.Machine

section ask
variable (s : State) (k : NoticeKind) (a b c : Nat)

/-- A notice asked for changes the notice writer and gathers at most a notice. -/
theorem State.ask_eq : s.ask k a b c =
    { s with notices := (s.ask k a b c).notices, bus := { s.bus with notices := (s.ask k a b c).bus.notices } } := by
  unfold State.ask; split <;> rfl

@[simp] theorem State.ask_path : (s.ask k a b c).path = s.path := by rw [State.ask_eq]
@[simp] theorem State.ask_tables : (s.ask k a b c).tables = s.tables := by rw [State.ask_eq]
@[simp] theorem State.ask_intake : (s.ask k a b c).intake = s.intake := by rw [State.ask_eq]
@[simp] theorem State.ask_lookup : (s.ask k a b c).lookup = s.lookup := by rw [State.ask_eq]
@[simp] theorem State.ask_queues : (s.ask k a b c).queues = s.queues := by rw [State.ask_eq]
@[simp] theorem State.ask_live : (s.ask k a b c).live = s.live := by rw [State.ask_eq]
@[simp] theorem State.ask_failover : (s.ask k a b c).failover = s.failover := by rw [State.ask_eq]
@[simp] theorem State.ask_acct : (s.ask k a b c).acct = s.acct := by rw [State.ask_eq]
@[simp] theorem State.ask_slots : (s.ask k a b c).slots = s.slots := by rw [State.ask_eq]
@[simp] theorem State.ask_freeDraws : (s.ask k a b c).freeDraws = s.freeDraws := by rw [State.ask_eq]
@[simp] theorem State.ask_pending : (s.ask k a b c).pending = s.pending := by rw [State.ask_eq]
@[simp] theorem State.ask_bus_sent : (s.ask k a b c).bus.sent = s.bus.sent := by rw [State.ask_eq]
@[simp] theorem State.ask_bus_writes : (s.ask k a b c).bus.writes = s.bus.writes := by rw [State.ask_eq]
@[simp] theorem State.ask_bus_statuses : (s.ask k a b c).bus.statuses = s.bus.statuses := by rw [State.ask_eq]

end ask

end Sys2Proof.Machine
end

section
/-! What one action is made of. `Act` lists the elementary effects inside an action, each with what is known where the
model brings it about; `Run` is a chain of them. Every operation of the model is such a chain, so that a law of the state
is proved once for each elementary effect. -/
namespace Sys2Proof.Machine

/-! ## What the elementary effects of one block respect -/

/-- The ring positions and the slot order of an egress port stay as the queue manager needs them (R97, R99). -/
structure EgressPort.Turns (e v : EgressPort) : Prop where
  nextWrite : e.nextWrite < 256 → v.nextWrite < 256
  phase : e.phase < 64 → v.phase < 64
  slots : Table.sorted e.slots = true → Table.sorted v.slots = true

/-- The counters stay within their widths and the tables of the accounting unit in rising order (R150, R156). -/
structure AccountingUnit.Counts (a v : AccountingUnit) : Prop where
  inWidth : (∀ k, (a.records.getD k TenantRecord.zero).inWidth) → ∀ k, (v.records.getD k TenantRecord.zero).inWidth
  sorted : Table.sorted a.records = true → Table.sorted v.records = true
  drops : (∀ e ∈ a.records, Table.sorted e.2.drops = true) → ∀ e ∈ v.records, Table.sorted e.2.drops = true

/-- How many LEARNED entries of tenant `n` a station table lists. -/
def learnedCount (m : Table Station) (n : Tenant) : Nat :=
  (m.filter fun x => !x.2.isStatic && decide (x.2.tenant = n)).length

/-- The learned law as a fact of the lookup unit alone (R38). -/
def LookupUnit.lawful (u : LookupUnit) : Prop :=
  Table.sorted u.stations = true ∧ ∀ n : Tenant, u.learned.getD n 0 = learnedCount u.stations n

/-- The bounds of the flush queue (R51). -/
def LookupUnit.queueOk (u : LookupUnit) : Prop :=
  u.flushQueue.length ≤ Config.flushRoom ∧ (u.flushQueue.map (·.req)).Nodup

/-- What every effect on the lookup unit respects. -/
structure LookupUnit.Moves (u v : LookupUnit) : Prop where
  stations : Table.sorted u.stations = true → Table.sorted v.stations = true
  learned : Table.sorted u.learned = true → Table.sorted v.learned = true
  lawful : u.lawful → v.lawful
  queueOk : u.queueOk → v.queueOk

/-- The staged bytes stand in rising order (log entry 25). -/
def stagedSorted (v : Option Staging) : Prop := ∀ x, v = some x → Table.sorted x.bytes = true

/-! ## Effects -/

/-- The commands that bring about effects of their own. -/
inductive Special where
  | taking
  | tables
  | consumer
  | start
  | records
  deriving DecidableEq

/-- The part of an install that changes the installed copy: all of it but what its owner does with a new global, port,
group or schedule entry (R170, Table 10-3). -/
def State.installCopy (s : State) (table i : Nat) (b : List Byte) : State :=
  match table with
  | 0 => s.setTables { s.tables with globalEntry := readGlobal b }
  | 1 =>
    match portOf i with
    | some p => s.setTables { s.tables with ports := s.tables.ports.setD p (readPort b) PortEntry.powerOn }
    | none => s
  | 2 =>
    match groupOf i with
    | some g => s.setTables { s.tables with groups := s.tables.groups.setD g (readGroup b) (GroupEntry.powerOn g) }
    | none => s
  | 4 => s.setTables { s.tables with schedules := s.tables.schedules.setD i (readSchedule b) allSkip }
  | n => s.install n i b

/-- Steps 1 to 8 of START, ahead of its refill run (R168). -/
def State.startBlocks (s : State) : State := s.startCells.startIntake.startEgress.startLive.startRest

/-- One elementary effect inside an action; `ok` are the special commands whose own effects are among them. -/
inductive Act (ok : Special → Prop) : State → State → Prop where
  | issueCells (s : State) (p : Port) (n : Nat) (h : s.isActive = true) : Act ok s (s.issueCells p n)
  | resetCells (s : State) (p : Port) : Act ok s (s.resetCells p)
  | freeFrame (s : State) (hrec : ok .records) (n : Nat) (f : Frame) (h : s.frame n = some f) : Act ok s (s.freeFrame n f)
  | setFrame (s : State) (hrec : ok .records) (n : Nat) (f v : Frame) (h : s.frame n = some f) (hc : v.cellCount = f.cellCount) :
      Act ok s (s.setFrame n v)
  | setCopy (s : State) (hrec : ok .records) (n : Nat) (v : Copy) : Act ok s (s.setCopy n v)
  | releaseRecord (s : State) (hrec : ok .records) (n : Nat) : Act ok s (s.releaseRecord n)
  | takeRecord (s : State) (hrec : ok .records) :
      Act ok s { s with cells := { s.cells with freeCopies := Runs.drop 1 s.cells.freeCopies } }
  | stageIngress (s : State) (p : Port) (g : Lanes) : Act ok s (s.stageIngress p g)
  | advanceIntake (s : State) (p : Port) : Act ok s (s.setIntakePort p (s.intakePort p).advance)
  | resetIntake (s : State) (p : Port) : Act ok s (s.resetIntake p)
  | setMeter (s : State) (n : Tenant) (v : Meter)
      (h : v.tokens ≤ (s.tenantEntry n).depth ∨ v.tokens ≤ (s.meter n).tokens) : Act ok s (s.setMeter n v)
  | setHeldCells (s : State) (n : Tenant) (v : Nat) : Act ok s (s.setHeldCells n v)
  | shed (s : State) (l : ShedLevel) : Act ok s { s with admission := { s.admission with shed := l } }
  | acct (s : State) (v : AccountingUnit) (h : s.acct.Counts v) : Act ok s { s with acct := v }
  | setQueue (s : State) (hrec : ok .records) (p : Port) (c : Cls) (q : List Nat) : Act ok s (s.setQueue p c q)
  | setEgressPort (s : State) (p : Port) (v : EgressPort) (h : (s.egressPort p).Turns v)
      (hs : ok .records ∨ v.slots = (s.egressPort p).slots) : Act ok s (s.setEgressPort p v)
  | setLivePort (s : State) (p : Port) (v : LivePort) : Act ok s (s.setLivePort p v)
  | setGroupState (s : State) (g : GroupId) (v : GroupState) : Act ok s (s.setGroupState g v)
  | addHeld (s : State) (hrec : ok .records) (g : GroupId) (n : Nat) (h : s.holdCount < Config.holdRoom) :
      Act ok s (s.setHeldCopies g (s.heldCopies g ++ [n]))
  | clearHeld (s : State) (hrec : ok .records) (g : GroupId) : Act ok s (s.setHeldCopies g [])
  | setDrained (s : State) (p : Port) (v : Bool) : Act ok s (s.setDrained p v)
  | setWalk (s : State) (w : Option Walk) : Act ok s (s.setWalk w)
  | setWork (s : State) (l : List (Port × WorkKind)) (h : s.failover.work.Nodup → l.Nodup) : Act ok s (s.setWork l)
  | lookup (s : State) (v : LookupUnit) (h : s.lookup.Moves v) : Act ok s { s with lookup := v }
  | ask (s : State) (k : NoticeKind) (a b c : Nat) : Act ok s (s.ask k a b c)
  | forward (s : State) (a : Nat) (g : Lanes) : Act ok s (s.forward a g)
  | emit (s : State) (o : Nat) (b : List Byte) : Act ok s (s.emit o b)
  | emitStatus (s : State) (o : Nat) (b : List Byte) : Act ok s (s.emitStatus o b)
  | setSlot (s : State) (k : SlotId) (v : CommandSlot) : Act ok s (s.setSlot k v)
  | setArgs (s : State) (k : SlotId) (v : List Byte) : Act ok s (s.setArgs k v)
  | freeDraws (s : State) (n : Nat) : Act ok s { s with freeDraws := n }
  | claim (s : State) (p : Port) (n : Nat) (h : ok .taking) : Act ok s (s.claim p n)
  | link (s : State) (c : Nat) (v : Option Nat) (h : ok .taking) :
      Act ok s { s with cells := { s.cells with links := s.cells.links.put c v } }
  | newFrame (s : State) (n : Nat) (v : Frame) (h : ok .taking) : Act ok s (s.setFrame n v)
  | freeCells (s : State) (l : List Nat) (h : ok .taking) : Act ok s (s.freeCells l)
  | setStaging (s : State) (v : Option Staging) (h : ok .tables) (hs : stagedSorted s.path.staging → stagedSorted v) :
      Act ok s (s.setStaging v)
  | installCopy (s : State) (table i : Nat) (b : List Byte) (h : ok .tables) (ht : table ≤ 8)
      (hr : entryReasons table b = []) (hl : table = 2 ∨ table = 4 → 64 ≤ b.length) : Act ok s (s.installCopy table i b)
  | consume (s : State) (v : Word32) (h : ok .consumer) : Act ok s { s with notices := s.notices.consume v }
  | startBlocks (s : State) (h : ok .start) (hp : s.isActive = false) : Act ok s s.startBlocks

/-- A chain of elementary effects. -/
def Run (ok : Special → Prop) : State → State → Prop := Relation.ReflTransGen (Act ok)

namespace Run

variable {ok : Special → Prop} {r s t : State}

theorem refl (s : State) : Run ok s s := Relation.ReflTransGen.refl

/-- One more elementary effect. -/
theorem act (h : Run ok r s) (a : Act ok s t) : Run ok r t := Relation.ReflTransGen.tail h a

/-- A law that every elementary effect keeps is kept by a chain of them. -/
theorem keeps {P : State → Prop} (hP : ∀ s t, Act ok s t → P s → P t) (h : Run ok s t) (hs : P s) : P t := by
  induction (h : Relation.ReflTransGen (Act ok) s t) with
  | refl => exact hs
  | tail _ ha ih => exact hP _ _ ha ih

theorem foldl {β : Type} (f : State → β → State) (hf : ∀ (u : State) (b : β), Run ok r u → Run ok r (f u b))
    (l : List β) (h : Run ok r s) : Run ok r (l.foldl f s) := by
  induction l generalizing s with
  | nil => exact h
  | cons b l ih => exact ih (hf s b h)

theorem foldlFst {β γ : Type} (f : State × γ → β → State × γ)
    (hf : ∀ (u : State × γ) (b : β), Run ok r u.1 → Run ok r (f u b).1) (l : List β) {x : State × γ}
    (h : Run ok r x.1) : Run ok r (l.foldl f x).1 := by
  induction l generalizing x with
  | nil => exact h
  | cons b l ih => exact ih (hf x b h)

/-! ## Counters -/

theorem inWidth_zero : TenantRecord.zero.inWidth := by
  simp [TenantRecord.inWidth, TenantRecord.zero]

theorem satAdd_le (top a n : Nat) : satAdd top a n ≤ top := by
  unfold satAdd; split <;> omega

end Run

/-- A change of a tenant record that keeps the widths and the order of its drops. -/
def TenantRecord.Counting (f : TenantRecord → TenantRecord) : Prop :=
  ∀ r : TenantRecord, (r.inWidth → (f r).inWidth) ∧ (Table.sorted r.drops = true → Table.sorted (f r).drops = true)

theorem Table.mem_put_value {α : Type} {m : Table α} {k : Nat} {v : α} {e : Nat × α} (h : e ∈ Table.put m k v) :
    e = (k, v) ∨ e ∈ m := by
  induction m with
  | nil => simpa [Table.put] using h
  | cons x m ih =>
    obtain ⟨j, w⟩ := x
    unfold Table.put at h
    split at h
    · simpa using h
    · split at h
      · rcases List.mem_cons.1 h with h | h
        exacts [.inl h, .inr (List.mem_cons_of_mem _ h)]
      · rcases List.mem_cons.1 h with h | h
        · exact .inr (h ▸ List.mem_cons_self)
        · exact (ih h).imp id (List.mem_cons_of_mem _)

theorem Table.mem_of_mem_setD {α : Type} [DecidableEq α] {m : Table α} {k : Nat} {v d : α} {e : Nat × α}
    (h : e ∈ Table.setD m k v d) : e = (k, v) ∨ e ∈ m := by
  unfold Table.setD at h
  split at h
  · exact .inr (List.mem_filter.1 h).1
  · exact Table.mem_put_value h

theorem Table.find_mem {α : Type} {m : Table α} {k : Nat} {v : α} (h : m.find k = some v) : (k, v) ∈ m := by
  induction m with
  | nil => simp at h
  | cons e m ih =>
    obtain ⟨j, w⟩ := e
    rw [Table.find_cons] at h
    split at h
    · subst_vars; cases h; exact List.mem_cons_self
    · exact List.mem_cons_of_mem _ (ih h)

theorem AccountingUnit.Counts.refl (a : AccountingUnit) : a.Counts a := ⟨id, id, id⟩

/-- Writing one record that is within its widths, with its drops in order. -/
theorem AccountingUnit.Counts.record (a : AccountingUnit) (k : Nat) (v : TenantRecord)
    (hw : (a.records.getD k TenantRecord.zero).inWidth → v.inWidth)
    (hd : Table.sorted (a.records.getD k TenantRecord.zero).drops = true → Table.sorted v.drops = true) :
    a.Counts { a with records := a.records.setD k v TenantRecord.zero } where
  inWidth h j := by
    rw [Table.getD_setD]
    split
    exacts [hw (h k), h j]
  sorted := Table.sorted_setD _ _ _ _
  drops h e he := by
    rcases Table.mem_of_mem_setD he with rfl | he
    · refine hd ?_
      unfold Table.getD
      cases hf : Table.find a.records k with
      | none => rfl
      | some w => exact h _ (Table.find_mem hf)
    · exact h e he

theorem TenantRecord.counting_addDrop (c : DropCause) : TenantRecord.Counting (TenantRecord.addDrop c) := by
  intro r
  refine ⟨fun ⟨h1, h2, h3, h4, h5, h6, h7, h8, h9⟩ => ⟨h1, h2, h3, h4, h5, h6, fun i => ?_, h8, h9⟩,
    Table.sorted_setD _ _ _ _⟩
  rw [TenantRecord.addDrop, Table.getD_setD]
  split
  exacts [Run.satAdd_le _ _ _, h7 i]

theorem TenantRecord.counting_addMerged :
    TenantRecord.Counting fun r => { r with merged := satAdd max32 r.merged 1 } := fun _ =>
  ⟨fun ⟨h1, h2, h3, h4, h5, h6, h7, _, h9⟩ => ⟨h1, h2, h3, h4, h5, h6, h7, Run.satAdd_le _ _ _, h9⟩, id⟩

theorem TenantRecord.counting_addRefusal :
    TenantRecord.Counting fun r => { r with learnRefusals := satAdd max32 r.learnRefusals 1 } := fun _ =>
  ⟨fun ⟨h1, h2, h3, h4, h5, h6, h7, h8, _⟩ => ⟨h1, h2, h3, h4, h5, h6, h7, h8, Run.satAdd_le _ _ _⟩, id⟩

theorem TenantRecord.counting_addAdmitted (c : Colour) : TenantRecord.Counting (TenantRecord.addAdmitted c) := by
  intro r
  cases c
  · exact ⟨fun ⟨_, h2, h3, h4, h5, h6, h7, h8, h9⟩ => ⟨Run.satAdd_le _ _ _, h2, h3, h4, h5, h6, h7, h8, h9⟩, id⟩
  · exact ⟨fun ⟨h1, _, h3, h4, h5, h6, h7, h8, h9⟩ => ⟨h1, Run.satAdd_le _ _ _, h3, h4, h5, h6, h7, h8, h9⟩, id⟩

theorem TenantRecord.counting_addCharge (n : Nat) : TenantRecord.Counting (TenantRecord.addCharge n) := fun _ =>
  ⟨fun ⟨h1, h2, h3, h4, _, h6, h7, h8, h9⟩ => ⟨h1, h2, h3, h4, Run.satAdd_le _ _ _, h6, h7, h8, h9⟩, id⟩

theorem TenantRecord.counting_addDelivered (lw n : Nat) (mark : Bool) :
    TenantRecord.Counting (TenantRecord.addDelivered lw n mark) := by
  intro r
  have hsat := Run.satAdd_le
  cases mark
  · exact ⟨fun ⟨h1, h2, _, _, _, h6, h7, h8, h9⟩ =>
      ⟨h1, h2, hsat _ _ _, hsat _ _ _, hsat _ _ _, h6, h7, h8, h9⟩, id⟩
  · exact ⟨fun ⟨h1, h2, _, _, _, _, h7, h8, h9⟩ =>
      ⟨h1, h2, hsat _ _ _, hsat _ _ _, hsat _ _ _, hsat _ _ _, h7, h8, h9⟩, id⟩

namespace Run

variable {ok : Special → Prop} {r s t : State}

theorem setTenantRecord (h : Run ok r s) (b : Fin 2) (n : Nat) (v : TenantRecord)
    (hw : (s.tenantRecord b n).inWidth → v.inWidth)
    (hd : Table.sorted (s.tenantRecord b n).drops = true → Table.sorted v.drops = true) :
    Run ok r (s.setTenantRecord b n v) :=
  h.act (.acct s _ (.record s.acct _ v hw hd))

theorem updateLive (h : Run ok r s) (n : Tenant) (f : TenantRecord → TenantRecord) (hf : TenantRecord.Counting f) :
    Run ok r (s.updateLive n f) := h.setTenantRecord _ _ _ (hf _).1 (hf _).2

theorem countDrop (h : Run ok r s) (c : DropCause) (n : Tenant) : Run ok r (s.countDrop c n) :=
  h.updateLive _ _ (TenantRecord.counting_addDrop c)
theorem countMerged (h : Run ok r s) (n : Tenant) : Run ok r (s.countMerged n) :=
  h.updateLive _ _ TenantRecord.counting_addMerged
theorem countRefusal (h : Run ok r s) (n : Tenant) : Run ok r (s.countRefusal n) :=
  h.updateLive _ _ TenantRecord.counting_addRefusal
theorem countAdmitted (h : Run ok r s) (c : Colour) (n : Tenant) : Run ok r (s.countAdmitted c n) :=
  h.updateLive _ _ (TenantRecord.counting_addAdmitted c)

theorem countRetired (h : Run ok r s) (c : RetireCause) (f : Frame) (k : Copy) : Run ok r (s.countRetired c f k) := by
  cases c
  case sent => exact h.updateLive _ _ (TenantRecord.counting_addDelivered _ _ _)
  case merged => exact h.countMerged _
  all_goals exact h.countDrop _ _

/-! ## Cells -/

theorem setLivePort (h : Run ok r s) (p : Port) (v : LivePort) : Run ok r (s.setLivePort p v) := h.act (.setLivePort _ _ _)
theorem setCopy (hrec : ok .records) (h : Run ok r s) (n : Nat) (v : Copy) : Run ok r (s.setCopy n v) := h.act (.setCopy _ hrec _ _)
theorem setQueue (hrec : ok .records) (h : Run ok r s) (p : Port) (c : Cls) (q : List Nat) : Run ok r (s.setQueue p c q) :=
  h.act (.setQueue _ hrec _ _ _)
theorem setWalk (h : Run ok r s) (w : Option Walk) : Run ok r (s.setWalk w) := h.act (.setWalk _ _)
theorem setDrained (h : Run ok r s) (p : Port) (v : Bool) : Run ok r (s.setDrained p v) := h.act (.setDrained _ _ _)
theorem setHeldCells (h : Run ok r s) (n : Tenant) (v : Nat) : Run ok r (s.setHeldCells n v) := h.act (.setHeldCells _ _ _)
theorem ask (h : Run ok r s) (k : NoticeKind) (a b c : Nat) : Run ok r (s.ask k a b c) := h.act (.ask _ _ _ _ _)
theorem emit (h : Run ok r s) (o : Nat) (b : List Byte) : Run ok r (s.emit o b) := h.act (.emit _ _ _)
theorem emitStatus (h : Run ok r s) (o : Nat) (b : List Byte) : Run ok r (s.emitStatus o b) := h.act (.emitStatus _ _ _)
theorem forward (h : Run ok r s) (a : Nat) (g : Lanes) : Run ok r (s.forward a g) := h.act (.forward _ _ _)
theorem setSlot (h : Run ok r s) (k : SlotId) (v : CommandSlot) : Run ok r (s.setSlot k v) := h.act (.setSlot _ _ _)
theorem lookup (h : Run ok r s) (v : LookupUnit) (hv : s.lookup.Moves v) : Run ok r { s with lookup := v } :=
  h.act (.lookup _ _ hv)
theorem setEgressPort (h : Run ok r s) (p : Port) (v : EgressPort) (hv : (s.egressPort p).Turns v)
    (hs : ok .records ∨ v.slots = (s.egressPort p).slots) : Run ok r (s.setEgressPort p v) := h.act (.setEgressPort _ _ _ hv hs)
theorem setFrame (hrec : ok .records) (h : Run ok r s) (n : Nat) (f v : Frame) (hf : s.frame n = some f) (hc : v.cellCount = f.cellCount) :
    Run ok r (s.setFrame n v) := h.act (.setFrame _ hrec _ f _ hf hc)
theorem acct (h : Run ok r s) (v : AccountingUnit) (hv : s.acct.Counts v) : Run ok r { s with acct := v } :=
  h.act (.acct _ _ hv)

theorem refillPort (h : Run ok r s) (p : Port) (ha : s.isActive = true) : Run ok r (s.refillPort p) := by
  unfold State.refillPort; split; exacts [h, h.act (.issueCells _ _ _ ha)]

theorem refillRun (h : Run ok r s) : Run ok r s.refillRun := by
  unfold State.refillRun
  split
  case isFalse => exact h
  case isTrue ha =>
    have key : ∀ (l : List Port) (u : State), u.isActive = true → Run ok r u → Run ok r (l.foldl State.refillPort u) := by
      intro l
      induction l with
      | nil => intro u _ hu; exact hu
      | cons p l ih =>
        intro u hua hu
        exact ih _ (((Keeps.refl u).refillPort p).isActive.trans hua) (hu.refillPort p hua)
    exact key _ _ ha h

theorem setShed (h : Run ok r s) (l : ShedLevel) : Run ok r (s.setShed l) := (h.act (.shed _ l)).ask _ _ _ _

theorem reportFree (h : Run ok r s) (n : Nat) : Run ok r (s.reportFree n) := by
  induction n generalizing s with
  | zero => exact h
  | succ n ih =>
    unfold State.reportFree
    dsimp only
    split
    · exact h
    · split
      · split
        exacts [h.setShed _, ih (h.setShed _).refillRun]
      · exact h.setShed _

theorem report (h : Run ok r s) : Run ok r s.report := h.reportFree 3

theorem refill (h : Run ok r s) : Run ok r s.refill := by
  unfold State.refill; split; exacts [h, h.refillRun.report]

theorem settle (h : Run ok r s) (n : Nat) : Run ok r (s.settle n) := by
  unfold State.settle; split; exacts [h, h.report.refill]

theorem writeLinks (hk : ok .taking) (l : List Nat) (h : Run ok r s) : Run ok r (State.writeLinks l s) := by
  induction l generalizing s with
  | nil => exact h
  | cons c l ih =>
    cases l with
    | nil => exact (h.act (.link s c none hk)).emit _ _
    | cons d l => exact ih ((h.act (.link s c (some d) hk)).emit _ _)

/-- What the debit of a COMMITTED frame leaves, and what a refill gives, lies within the bucket (R74, R77). -/
theorem setMeter (h : Run ok r s) (n : Tenant) (v : Meter)
    (hv : v.tokens ≤ (s.tenantEntry n).depth ∨ v.tokens ≤ (s.meter n).tokens) : Run ok r (s.setMeter n v) :=
  h.act (.setMeter _ _ _ hv)

theorem enterFrame (hk : ok .taking) (h : Run ok r s) (f : Forming) : Run ok r (s.enterFrame f) := by
  unfold State.enterFrame
  dsimp only
  refine countAdmitted (setHeldCells ?_ _ _) _ _
  split
  · exact (h.act (.newFrame _ _ _ hk)).setMeter _ _ (.inr (Nat.sub_le _ _))
  · exact h.act (.newFrame _ _ _ hk)

theorem raiseCopies (hrec : ok .records) (h : Run ok r s) (n : Nat) : Run ok r (s.raiseCopies n) := by
  unfold State.raiseCopies
  split
  · exact h
  · rename_i f e; exact h.setFrame hrec n f _ e rfl
theorem joinPort (hrec : ok .records) (h : Run ok r s) (n : Nat) (p : Port) : Run ok r (s.joinPort n p) := by
  unfold State.joinPort
  split
  · exact h
  · rename_i f e; exact h.setFrame hrec n f _ e rfl
theorem leavePort (hrec : ok .records) (h : Run ok r s) (n : Nat) (p : Port) : Run ok r (s.leavePort n p) := by
  unfold State.leavePort
  split
  · exact h
  · rename_i f e; exact h.setFrame hrec n f _ e rfl

theorem owe (h : Run ok r s) (p : Port) : Run ok r (s.owe p) := h.setEgressPort _ _ ⟨id, id, id⟩ (.inr rfl)

theorem addHeld (hrec : ok .records) (h : Run ok r s) (g : GroupId) (n : Nat) (hr : s.holdCount < Config.holdRoom) :
    Run ok r (s.setHeldCopies g (s.heldCopies g ++ [n])) := h.act (.addHeld _ hrec _ _ hr)

end Run

/-! ## The hold pool inside a creation -/

/-- What leaves the hold pool as it is. -/
theorem State.holdCount_congr {s t : State} (h : t.failover.hold = s.failover.hold) : t.holdCount = s.holdCount := by
  unfold State.holdCount; rw [h]

@[simp] theorem State.enterFrame_failover (s : State) (f : Forming) : (s.enterFrame f).failover = s.failover := by
  unfold State.enterFrame
  dsimp only
  split <;> rfl

@[simp] theorem State.raiseCopies_failover (s : State) (n : Nat) : (s.raiseCopies n).failover = s.failover := by
  unfold State.raiseCopies; split <;> rfl

@[simp] theorem State.joinPort_failover (s : State) (n : Nat) (p : Port) : (s.joinPort n p).failover = s.failover := by
  unfold State.joinPort; split <;> rfl

@[simp] theorem State.leavePort_failover (s : State) (n : Nat) (p : Port) : (s.leavePort n p).failover = s.failover := by
  unfold State.leavePort; split <;> rfl

namespace Run

variable {ok : Special → Prop} {r s t : State}

theorem createCopy (hrec : ok .records) (hk : ok .taking) (h : Run ok r s) (f : Forming) (pl : Place) (v : Option GroupId) (m : Bool)
    (hr : ∀ g, pl = .hold g → s.holdCount < Config.holdRoom) : Run ok r (s.createCopy f pl v m) := by
  unfold State.createCopy
  dsimp only
  split
  case isFalse => exact h.countDrop _ _
  case isTrue =>
    set tag := (Runs.toList (Runs.take 1 s.cells.freeCopies)).headD 0
    set s1 : State := { s with cells := { s.cells with freeCopies := Runs.drop 1 s.cells.freeCopies } } with e1
    have h2 : Run ok r (s1.setCopy tag (s1.newCopy f pl v m)) := (h.act (.takeRecord s hrec)).setCopy hrec _ _
    have hf2 : (s1.setCopy tag (s1.newCopy f pl v m)).failover = s.failover := rfl
    generalize s1.setCopy tag (s1.newCopy f pl v m) = s2 at h2 hf2 ⊢
    have h3 : Run ok r (if (s2.frame f.first).isNone = true then s2.enterFrame f else s2) := by
      split; exacts [enterFrame hk h2 f, h2]
    have hf3 : (if (s2.frame f.first).isNone = true then s2.enterFrame f else s2).failover = s.failover := by
      split <;> simp [hf2]
    generalize (if (s2.frame f.first).isNone = true then s2.enterFrame f else s2) = s3 at h3 hf3 ⊢
    have h4 := h3.raiseCopies hrec f.first
    cases pl with
    | queue p => exact ((h4.setQueue hrec _ _ _).joinPort hrec _ _).owe _
    | hold g =>
      refine h4.addHeld hrec _ _ ?_
      rw [State.holdCount_congr (s := s) (by rw [State.raiseCopies_failover, hf3])]
      exact hr g rfl

theorem releaseRecord (hrec : ok .records) (h : Run ok r s) (n : Nat) : Run ok r (s.releaseRecord n) := h.act (.releaseRecord _ hrec _)


end Run

end Sys2Proof.Machine
end

section
/-! The lookup unit as a block of its own: what writing, dropping and flushing station entries does to its laws (R38, R51). -/

namespace Sys2Proof

variable {α : Type}

theorem Table.erase_of_find_none {m : Table α} {k : Nat} (h : m.find k = none) : Table.erase m k = m := by
  induction m with
  | nil => rfl
  | cons e m ih =>
    obtain ⟨j, v⟩ := e
    rw [Table.find_cons] at h
    split at h
    · cases h
    · rename_i hj
      have : Table.erase ((j, v) :: m) k = (j, v) :: Table.erase m k := by simp [Table.erase, hj]
      rw [this, ih h]

/-- In a table in rising order nothing behind the head has the head's number. -/
theorem Table.find_tail_of_sorted {m : Table α} {j : Nat} {v : α} (h : Table.sorted ((j, v) :: m) = true) {k : Nat}
    (hk : k ≤ j) : m.find k = none := by
  rw [Table.sorted_iff] at h
  have hj : ∀ a ∈ Table.keys m, j < a := (List.pairwise_cons.1 h).1
  cases hf : Table.find m k with
  | none => rfl
  | some w =>
    have := hj k (List.mem_map_of_mem (f := Prod.fst) (Machine.Table.find_mem hf))
    omega

theorem Table.sorted_tail {e : Nat × α} {m : Table α} (h : Table.sorted (e :: m) = true) : Table.sorted m = true := by
  rw [Table.sorted_iff] at h ⊢
  exact (List.pairwise_cons.1 h).2

/-- A table after a write holds the entry written and everything listed for other numbers. -/
theorem Table.put_perm {m : Table α} (h : m.sorted = true) (k : Nat) (v : α) :
    (Table.put m k v).Perm ((k, v) :: Table.erase m k) := by
  induction m with
  | nil => exact .refl _
  | cons e m ih =>
    obtain ⟨j, w⟩ := e
    unfold Table.put
    split
    · rename_i hlt
      have hf : Table.find ((j, w) :: m) k = none := by
        rw [Table.find_cons, if_neg (by omega), Table.find_tail_of_sorted h (by omega)]
      rw [Table.erase_of_find_none hf]
    · split
      · subst_vars
        have : Table.erase ((j, w) :: m) j = m := by
          have := Table.erase_of_find_none (Table.find_tail_of_sorted h le_rfl)
          simpa [Table.erase] using this
        rw [this]
      · have hne : j ≠ k := fun e => by simp_all
        have : Table.erase ((j, w) :: m) k = (j, w) :: Table.erase m k := by simp [Table.erase, hne]
        rw [this]
        exact ((ih (Table.sorted_tail h)).cons _).trans (.swap _ _ _)

/-- A table that lists an entry holds it and everything listed for other numbers. -/
theorem Table.perm_of_find {m : Table α} (h : m.sorted = true) {k : Nat} {v : α} (hf : m.find k = some v) :
    m.Perm ((k, v) :: Table.erase m k) := by
  induction m with
  | nil => simp at hf
  | cons e m ih =>
    obtain ⟨j, w⟩ := e
    rw [Table.find_cons] at hf
    split at hf
    · subst_vars
      cases hf
      have : Table.erase ((j, v) :: m) j = m := by
        have := Table.erase_of_find_none (Table.find_tail_of_sorted h le_rfl)
        simpa [Table.erase] using this
      rw [this]
    · rename_i hne
      have : Table.erase ((j, w) :: m) k = (j, w) :: Table.erase m k := by simp [Table.erase, hne]
      rw [this]
      exact ((ih (Table.sorted_tail h) hf).cons _).trans (.swap _ _ _)

theorem Table.nodup_keys {m : Table α} (h : m.sorted = true) : (m.map (·.1)).Nodup := by
  rw [Table.sorted_iff] at h
  exact h.imp (fun h => Nat.ne_of_lt h)

end Sys2Proof

namespace Sys2Proof.Machine

/-! ## Counting LEARNED entries -/

/-- One LEARNED entry of tenant `n`, or none. -/
def Station.countsFor (e : Station) (n : Tenant) : Nat := if e.isStatic = false ∧ e.tenant = n then 1 else 0

theorem learnedCount_cons (x : Nat × Station) (m : Table Station) (n : Tenant) :
    learnedCount (x :: m) n = x.2.countsFor n + learnedCount m n := by
  unfold learnedCount Station.countsFor
  rw [List.filter_cons]
  by_cases hx : x.2.isStatic = false ∧ x.2.tenant = n
  · simp [hx]; omega
  · rw [if_neg hx, if_neg (by simpa using hx)]; simp

theorem learnedCount_perm {l m : Table Station} (h : l.Perm m) (n : Tenant) : learnedCount l n = learnedCount m n :=
  (h.filter _).length_eq

theorem learnedCount_put {m : Table Station} (h : Table.sorted m = true) (w : Nat) (e : Station) (n : Tenant) :
    learnedCount (m.put w e) n = e.countsFor n + learnedCount (m.erase w) n := by
  rw [learnedCount_perm (Table.put_perm h w e), learnedCount_cons]

theorem learnedCount_of_find {m : Table Station} (h : Table.sorted m = true) {w : Nat} {e : Station}
    (hf : m.find w = some e) (n : Tenant) : learnedCount m n = e.countsFor n + learnedCount (m.erase w) n := by
  rw [learnedCount_perm (Table.perm_of_find h hf), learnedCount_cons]

/-! ## The lookup unit's effects -/

namespace LookupUnit

/-- A LEARNED entry is gone: its tenant's learned count falls. -/
def lower (u : LookupUnit) (n : Tenant) : LookupUnit := { u with learned := u.learned.setD n (u.learned.getD n 0 - 1) 0 }

/-- A LEARNED entry is removed from its way, as `State.dropLearned` does. -/
def drop (u : LookupUnit) (w : Nat) (e : Station) : LookupUnit := ({ u with stations := u.stations.erase w }).lower e.tenant

/-- An entry is written into a way. -/
def write (u : LookupUnit) (w : Nat) (e : Station) : LookupUnit := { u with stations := u.stations.put w e }

theorem lower_learned (u : LookupUnit) (n m : Tenant) :
    (u.lower n).learned.getD m 0 = if m = n then u.learned.getD n 0 - 1 else u.learned.getD m 0 := by
  simp only [lower, Table.getD_setD, fin_val_eq_iff]

/-- Writing an entry of the same kind and tenant over one keeps the learned law. -/
theorem lawful_write_same {u : LookupUnit} (h : u.lawful) {w : Nat} {e e' : Station} (hf : u.stations.find w = some e)
    (hs : e'.isStatic = e.isStatic) (ht : e'.tenant = e.tenant) : (u.write w e').lawful := by
  obtain ⟨hso, hc⟩ := h
  refine ⟨Table.sorted_put _ _ _ hso, fun n => ?_⟩
  show u.learned.getD n 0 = learnedCount (u.stations.put w e') n
  rw [hc, learnedCount_put hso, learnedCount_of_find hso hf, Station.countsFor, Station.countsFor, hs, ht]

/-- A new STATIC entry changes no learned count. -/
theorem lawful_write_static {u : LookupUnit} (h : u.lawful) {w : Nat} {e : Station} (hf : u.stations.find w = none)
    (hs : e.isStatic = true) : (u.write w e).lawful := by
  obtain ⟨hso, hc⟩ := h
  refine ⟨Table.sorted_put _ _ _ hso, fun n => ?_⟩
  show u.learned.getD n 0 = learnedCount (u.stations.put w e) n
  rw [hc, learnedCount_put hso, Table.erase_of_find_none hf, Station.countsFor, if_neg (by simp [hs]), Nat.zero_add]

/-- A new LEARNED entry with its tenant's count raised. -/
theorem lawful_write_learned {u : LookupUnit} (h : u.lawful) {w : Nat} {e : Station} (hf : u.stations.find w = none)
    (hs : e.isStatic = false) :
    ({ u.write w e with learned := u.learned.setD e.tenant (u.learned.getD e.tenant 0 + 1) 0 } : LookupUnit).lawful := by
  obtain ⟨hso, hc⟩ := h
  refine ⟨Table.sorted_put _ _ _ hso, fun n => ?_⟩
  show (u.learned.setD e.tenant (u.learned.getD e.tenant 0 + 1) 0).getD n 0 = learnedCount (u.stations.put w e) n
  rw [Table.getD_setD, learnedCount_put hso, Table.erase_of_find_none hf, Station.countsFor, hc, hc]
  simp only [fin_val_eq_iff]
  by_cases hn : n = e.tenant
  · subst hn; simp [hs]; omega
  · simp [hn, hs, Ne.symm hn]

/-- A LEARNED entry removed with its tenant's count lowered. -/
theorem lawful_drop {u : LookupUnit} (h : u.lawful) {w : Nat} {e : Station} (hf : u.stations.find w = some e)
    (hs : e.isStatic = false) : (u.drop w e).lawful := by
  obtain ⟨hso, hc⟩ := h
  refine ⟨Table.sorted_erase _ _ hso, fun n => ?_⟩
  show (lower { u with stations := u.stations.erase w } e.tenant).learned.getD n 0 = learnedCount (u.stations.erase w) n
  rw [lower_learned]
  have h1 := learnedCount_of_find hso hf
  have hone : ∀ n, e.countsFor n = if e.tenant = n then 1 else 0 := fun n => by simp [Station.countsFor, hs]
  split
  · subst_vars
    rw [hc, h1, hone, if_pos rfl]; omega
  · rename_i hn
    rw [hc, h1, hone, if_neg (Ne.symm hn), Nat.zero_add]

/-- A STATIC entry removed. -/
theorem lawful_erase_static {u : LookupUnit} (h : u.lawful) {w : Nat} {e : Station} (hf : u.stations.find w = some e)
    (hs : e.isStatic = true) : ({ u with stations := u.stations.erase w } : LookupUnit).lawful := by
  obtain ⟨hso, hc⟩ := h
  refine ⟨Table.sorted_erase _ _ hso, fun n => ?_⟩
  show u.learned.getD n 0 = learnedCount (u.stations.erase w) n
  rw [hc, learnedCount_of_find hso hf, Station.countsFor, if_neg (by simp [hs]), Nat.zero_add]

/-- A LEARNED entry converted to a STATIC one, its tenant's count lowered. -/
theorem lawful_convert {u : LookupUnit} (h : u.lawful) {w : Nat} {e e' : Station} (hf : u.stations.find w = some e)
    (hs : e.isStatic = false) (hs' : e'.isStatic = true) : ((u.write w e').lower e.tenant).lawful := by
  obtain ⟨hso, hc⟩ := h
  refine ⟨Table.sorted_put _ _ _ hso, fun n => ?_⟩
  show ((u.write w e').lower e.tenant).learned.getD n 0 = learnedCount (u.stations.put w e') n
  rw [lower_learned, learnedCount_put hso]
  show (if n = e.tenant then u.learned.getD e.tenant 0 - 1 else u.learned.getD n 0) = _
  have h1 := learnedCount_of_find hso hf
  have hone : ∀ n, e.countsFor n = if e.tenant = n then 1 else 0 := fun n => by simp [Station.countsFor, hs]
  have hzero : e'.countsFor n = 0 := by simp [Station.countsFor, hs']
  rw [hzero, Nat.zero_add]
  split
  · subst_vars
    rw [hc, h1, hone, if_pos rfl]; omega
  · rename_i hn
    rw [hc, h1, hone, if_neg (Ne.symm hn), Nat.zero_add]

namespace Moves

theorem refl (u : LookupUnit) : u.Moves u := ⟨id, id, id, id⟩

theorem trans {u v w : LookupUnit} (h : u.Moves v) (k : v.Moves w) : u.Moves w :=
  ⟨k.1 ∘ h.1, k.2 ∘ h.2, k.3 ∘ h.3, k.4 ∘ h.4⟩

/-- Effects on the sweep, the aging timer or the flush walk alone. -/
theorem of_eq {u v : LookupUnit} (h1 : v.stations = u.stations) (h2 : v.learned = u.learned)
    (h3 : v.flushQueue = u.flushQueue) : u.Moves v := by
  obtain ⟨su, lu, _, _, qu, _⟩ := u
  obtain ⟨sv, lv, _, _, qv, _⟩ := v
  obtain ⟨rfl, rfl, rfl⟩ : sv = su ∧ lv = lu ∧ qv = qu := ⟨h1, h2, h3⟩
  exact ⟨id, id, id, id⟩

theorem write_same {u : LookupUnit} {w : Nat} {e e' : Station} (hf : u.stations.find w = some e)
    (hs : e'.isStatic = e.isStatic) (ht : e'.tenant = e.tenant) : u.Moves (u.write w e') :=
  ⟨Table.sorted_put _ _ _, id, fun h => lawful_write_same h hf hs ht, id⟩

theorem write_static {u : LookupUnit} {w : Nat} {e : Station} (hf : u.stations.find w = none) (hs : e.isStatic = true) :
    u.Moves (u.write w e) :=
  ⟨Table.sorted_put _ _ _, id, fun h => lawful_write_static h hf hs, id⟩

theorem write_learned {u : LookupUnit} {w : Nat} {e : Station} (hf : u.stations.find w = none) (hs : e.isStatic = false) :
    u.Moves { u.write w e with learned := u.learned.setD e.tenant (u.learned.getD e.tenant 0 + 1) 0 } :=
  ⟨Table.sorted_put _ _ _, fun h =>
    show Table.sorted (u.learned.setD e.tenant (u.learned.getD e.tenant 0 + 1) 0) = true from Table.sorted_setD _ _ _ _ h,
    fun h => lawful_write_learned h hf hs, id⟩

theorem drop {u : LookupUnit} {w : Nat} {e : Station} (hf : u.stations.find w = some e) (hs : e.isStatic = false) :
    u.Moves (u.drop w e) :=
  ⟨Table.sorted_erase _ _, Table.sorted_setD _ _ _ _, fun h => lawful_drop h hf hs, id⟩

theorem erase_static {u : LookupUnit} {w : Nat} {e : Station} (hf : u.stations.find w = some e) (hs : e.isStatic = true) :
    u.Moves { u with stations := u.stations.erase w } :=
  ⟨Table.sorted_erase _ _, id, fun h => lawful_erase_static h hf hs, id⟩

theorem convert {u : LookupUnit} {w : Nat} {e e' : Station} (hf : u.stations.find w = some e) (hs : e.isStatic = false)
    (hs' : e'.isStatic = true) : u.Moves ((u.write w e').lower e.tenant) :=
  ⟨Table.sorted_put _ _ _, Table.sorted_setD _ _ _ _, fun h => lawful_convert h hf hs hs', id⟩

end Moves

/-! ## Steps over several sets -/

/-- What a step over several sets does to the entries it meets, one after another: `f` touches the way of its entry alone
and keeps the laws where the entry stands there. -/
theorem moves_foldl (f : LookupUnit → Nat × Station → LookupUnit)
    (hsort : ∀ u x, (Table.sorted u.stations = true → Table.sorted (f u x).stations = true) ∧
      (Table.sorted u.learned = true → Table.sorted (f u x).learned = true) ∧ (f u x).flushQueue = u.flushQueue)
    (hlaw : ∀ (u : LookupUnit) x, u.stations.find x.1 = some x.2 → u.lawful → (f u x).lawful)
    (hfind : ∀ u x j, j ≠ x.1 → (f u x).stations.find j = u.stations.find j)
    (u : LookupUnit) (l : List (Nat × Station)) (hnd : Table.sorted u.stations = true → (l.map (·.1)).Nodup)
    (hl : Table.sorted u.stations = true → ∀ x ∈ l, u.stations.find x.1 = some x.2) : u.Moves (l.foldl f u) := by
  induction l generalizing u with
  | nil => exact .refl u
  | cons x l ih =>
    have hstep : Table.sorted u.stations = true → u.stations.find x.1 = some x.2 := fun h => hl h x List.mem_cons_self
    have hnext : Table.sorted u.stations = true → (f u x).Moves (l.foldl f (f u x)) := by
      intro hs
      have hnd' := List.nodup_cons.1 (hnd hs)
      refine ih _ (fun _ => hnd'.2) fun _ y hy => ?_
      have hne : y.1 ≠ x.1 := fun e => hnd'.1 (List.mem_map.2 ⟨y, hy, e⟩)
      rw [hfind u x _ hne]
      exact hl hs y (List.mem_cons_of_mem _ hy)
    have hothers : ∀ (l : List (Nat × Station)) (u : LookupUnit),
        (Table.sorted u.learned = true → Table.sorted (l.foldl f u).learned = true) ∧
          (l.foldl f u).flushQueue = u.flushQueue := by
      intro l
      induction l with
      | nil => exact fun u => ⟨id, rfl⟩
      | cons y l ih' =>
        exact fun u => ⟨fun h => (ih' _).1 ((hsort u y).2.1 h), (ih' _).2.trans (hsort u y).2.2⟩
    obtain ⟨hlearned, hqueue⟩ := hothers (x :: l) u
    refine ⟨fun hs => (hnext hs).stations ((hsort u x).1 hs), hlearned,
      fun h => (hnext h.1).lawful (hlaw u x (hstep h.1) h), fun h => ?_⟩
    unfold queueOk at h ⊢
    rw [hqueue]
    exact h

/-- The visit of one entry by the aging sweep, as `State.sweepEntry` does it. -/
def sweepEntry (u : LookupUnit) (x : Nat × Station) : LookupUnit :=
  if x.2.isStatic then u.write x.1 { x.2 with conflict := false }
  else if x.2.hit then u.write x.1 { x.2 with hit := false, moves := 0, locked := false }
  else u.drop x.1 x.2

theorem lawful_sweepEntry (u : LookupUnit) (x : Nat × Station) (hf : u.stations.find x.1 = some x.2) (h : u.lawful) :
    (u.sweepEntry x).lawful := by
  unfold sweepEntry
  split
  · exact lawful_write_same h hf rfl rfl
  · split
    · exact lawful_write_same h hf rfl rfl
    · exact lawful_drop h hf (by simpa using ‹¬x.2.isStatic = true›)

theorem sweepEntry_find_ne (u : LookupUnit) (x : Nat × Station) (j : Nat) (h : j ≠ x.1) :
    (u.sweepEntry x).stations.find j = u.stations.find j := by
  unfold sweepEntry
  split
  · exact Table.find_put_ne _ _ h
  · split
    · exact Table.find_put_ne _ _ h
    · exact (Table.find_erase _ _ _).trans (if_neg h)

theorem sweepEntry_sorted (u : LookupUnit) (x : Nat × Station) :
    (Table.sorted u.stations = true → Table.sorted (u.sweepEntry x).stations = true) ∧
      (Table.sorted u.learned = true → Table.sorted (u.sweepEntry x).learned = true) ∧
      (u.sweepEntry x).flushQueue = u.flushQueue := by
  unfold sweepEntry
  split
  · exact ⟨Table.sorted_put _ _ _, id, rfl⟩
  · split
    · exact ⟨Table.sorted_put _ _ _, id, rfl⟩
    · exact ⟨Table.sorted_erase _ _, Table.sorted_setD _ _ _ _, rfl⟩

/-- The entries a filter picks from a station table in rising order stand in their ways. -/
theorem find_of_mem_filter {m : Table Station} {P : Nat × Station → Bool} (hs : Table.sorted m = true)
    {x : Nat × Station} (hx : x ∈ m.filter P) : m.find x.1 = some x.2 :=
  (Table.mem_iff_find m hs _ _).1 (List.mem_filter.1 hx).1

theorem nodup_keys_filter {m : Table Station} {P : Nat × Station → Bool} (hs : Table.sorted m = true) :
    ((m.filter P).map (·.1)).Nodup :=
  (Table.nodup_keys hs).sublist ((List.filter_sublist).map _)

theorem moves_sweep (u : LookupUnit) (P : Nat × Station → Bool) :
    u.Moves ((u.stations.filter P).foldl sweepEntry u) :=
  moves_foldl sweepEntry sweepEntry_sorted lawful_sweepEntry sweepEntry_find_ne u _ nodup_keys_filter
    fun hs _ hx => find_of_mem_filter hs hx

/-- The removal of LEARNED entries that a flush step has found. -/
theorem moves_drops (u : LookupUnit) (l : List (Nat × Station)) (hl : ∀ x ∈ l, x.2.isStatic = false)
    (hnd : Table.sorted u.stations = true → (l.map (·.1)).Nodup)
    (hf : Table.sorted u.stations = true → ∀ x ∈ l, u.stations.find x.1 = some x.2) :
    u.Moves (l.foldl (fun v x => v.drop x.1 x.2) u) := by
  have hmem : ∀ (l' : List (Nat × Station)) (v : LookupUnit), (∀ x ∈ l', x.2.isStatic = false) →
      l'.foldl (fun v x => v.drop x.1 x.2) v = l'.foldl (fun v x => if x.2.isStatic then v else v.drop x.1 x.2) v := by
    intro l'
    induction l' with
    | nil => exact fun _ _ => rfl
    | cons x l' ih =>
      intro v h
      simp only [List.foldl_cons, h x List.mem_cons_self, Bool.false_eq_true, if_false]
      exact ih _ fun y hy => h y (List.mem_cons_of_mem _ hy)
  rw [hmem l u hl]
  refine moves_foldl _ (fun v x => ?_) (fun v x hx h => ?_) (fun v x j hj => ?_) u l hnd hf
  · split
    exacts [⟨id, id, rfl⟩, ⟨Table.sorted_erase _ _, Table.sorted_setD _ _ _ _, rfl⟩]
  · split
    exacts [h, lawful_drop h hx (by simpa using ‹¬x.2.isStatic = true›)]
  · split
    exacts [rfl, (Table.find_erase _ _ _).trans (if_neg hj)]

end LookupUnit

/-! ## The state's lookup operations as effects on the block -/

theorem State.sweepFold_eq (s : State) (l : List (Nat × Station)) :
    l.foldl State.sweepEntry s = { s with lookup := l.foldl LookupUnit.sweepEntry s.lookup } := by
  induction l generalizing s with
  | nil => rfl
  | cons x l ih =>
    have hx : s.sweepEntry x = { s with lookup := s.lookup.sweepEntry x } := by
      unfold State.sweepEntry LookupUnit.sweepEntry
      split
      · rfl
      · split <;> rfl
    simp only [List.foldl_cons, hx, ih]

theorem State.dropFold_eq (s : State) (l : List (Nat × Station)) :
    l.foldl (fun s x => s.dropLearned x.1 x.2) s =
      { s with lookup := l.foldl (fun u x => u.drop x.1 x.2) s.lookup } := by
  induction l generalizing s with
  | nil => rfl
  | cons x l ih =>
    have hx : s.dropLearned x.1 x.2 = { s with lookup := s.lookup.drop x.1 x.2 } := rfl
    simp only [List.foldl_cons, hx, ih]

/-- What the lookup answers stands in the way it names, under the key asked for. -/
theorem State.lookup?_some {s : State} {segment : Nat} {a : StationAddr} {w : Nat} {e : Station}
    (h : s.lookup? segment a = some (w, e)) :
    s.lookup.stations.find w = some e ∧ e.segment = segment ∧ e.addr = a ∧ w ∈ waysOf (stationSet segment a) := by
  unfold State.lookup? at h
  obtain ⟨_, w', _, heq, hw, _⟩ := List.findSome?_eq_some_iff.1 h
  have hmem : w' ∈ waysOf (stationSet segment a) := by rw [heq]; simp
  split at hw
  · rename_i e' hf
    split at hw
    · rename_i hk
      cases hw
      exact ⟨hf, hk.1, hk.2, hmem⟩
    · cases hw
  · cases hw

/-- A free way of a key's set lists nothing. -/
theorem State.freeWay?_some {s : State} {segment : Nat} {a : StationAddr} {w : Nat} (h : s.freeWay? segment a = some w) :
    s.lookup.stations.find w = none := by
  have := List.find?_some h
  simpa using this

theorem State.startFlush_eq (s : State) : s.startFlush = { s with lookup := s.startFlush.lookup } := by
  unfold State.startFlush; split <;> rfl

theorem State.startFlush_moves (s : State) : s.lookup.Moves s.startFlush.lookup := by
  unfold State.startFlush
  split
  · rename_i item rest _ hq
    refine ⟨id, id, id, fun h => ?_⟩
    obtain ⟨hlen, hnd⟩ := h
    rw [hq, List.length_cons] at hlen
    rw [hq, List.map_cons] at hnd
    exact ⟨show rest.length ≤ _ by omega, (List.nodup_cons.1 hnd).2⟩
  · exact .refl _

theorem map_req_mergeFlush (r : FlushReq) (slots : List SlotId) (q : List FlushItem) :
    (mergeFlush r slots q).map (·.req) = q.map (·.req) := by
  unfold mergeFlush
  rw [List.map_map]
  refine List.map_congr_left fun i _ => ?_
  simp only [Function.comp_apply]
  split <;> rfl

/-- Offering a request merges it, appends it or refuses it (R51). -/
theorem State.offerFlush_cases (s : State) (r : FlushReq) (slots : List SlotId) :
    (s.flushQueued r = true ∧ s.offerFlush r slots =
        ({ s with lookup := { s.lookup with flushQueue := mergeFlush r slots s.lookup.flushQueue } }, true)) ∨
      (s.flushQueued r = false ∧ s.lookup.flushQueue.length < Config.flushRoom ∧ s.offerFlush r slots =
        (({ s with
            lookup := { s.lookup with flushQueue := s.lookup.flushQueue ++ [{ req := r, slots := slots }] } } :
            State).startFlush, true)) ∨
      (s.flushQueued r = false ∧ Config.flushRoom ≤ s.lookup.flushQueue.length ∧ s.offerFlush r slots = (s, false)) := by
  unfold State.offerFlush
  by_cases h : s.flushQueued r = true
  · exact .inl ⟨h, if_pos h⟩
  · rw [if_neg h]
    by_cases hl : s.lookup.flushQueue.length < Config.flushRoom
    · exact .inr (.inl ⟨by simpa using h, hl, if_pos hl⟩)
    · exact .inr (.inr ⟨by simpa using h, Nat.le_of_not_lt hl, if_neg hl⟩)

theorem State.offerFlush_eq (s : State) (r : FlushReq) (slots : List SlotId) :
    (s.offerFlush r slots).1 = { s with lookup := (s.offerFlush r slots).1.lookup } := by
  rcases s.offerFlush_cases r slots with ⟨_, h⟩ | ⟨_, _, h⟩ | ⟨_, _, h⟩
  · rw [h]
  · rw [h, State.startFlush_eq]
  · rw [h]

theorem State.offerFlush_moves (s : State) (r : FlushReq) (slots : List SlotId) :
    s.lookup.Moves (s.offerFlush r slots).1.lookup := by
  rcases s.offerFlush_cases r slots with ⟨_, h⟩ | ⟨hq, hl, h⟩ | ⟨_, _, h⟩
  · rw [h]
    refine ⟨id, id, id, fun hk => ?_⟩
    unfold LookupUnit.queueOk at hk ⊢
    rw [map_req_mergeFlush]
    exact ⟨by simpa [mergeFlush] using hk.1, hk.2⟩
  · rw [h]
    refine LookupUnit.Moves.trans (v := { s.lookup with flushQueue := s.lookup.flushQueue ++ [{ req := r, slots := slots }] })
      ⟨id, id, id, fun hk => ?_⟩
      (State.startFlush_moves
        { s with lookup := { s.lookup with flushQueue := s.lookup.flushQueue ++ [{ req := r, slots := slots }] } })
    refine ⟨by simpa using hl, ?_⟩
    rw [List.map_append, List.nodup_append]
    refine ⟨hk.2, by simp, fun a ha b hb => ?_⟩
    have hb : b = r := by simpa using hb
    intro hab
    obtain ⟨i, hi, hir⟩ := List.mem_map.1 ha
    have : s.flushQueued r = true := List.any_eq_true.2 ⟨i, hi, decide_eq_true (hir.trans (hab.trans hb))⟩
    simp [hq] at this
  · rw [h]; exact .refl _

end Sys2Proof.Machine
end

section
/-! Every operation inside an action, and every command, is a chain of elementary effects. -/
namespace Sys2Proof.Machine

/-- The port of a copy leaves its frame's target-port set (R16 step 1). -/
def State.leaveCopyPort (s : State) (k : Copy) : State :=
  match k.port with
  | some p => s.leavePort k.frame p
  | none => s

/-- What a retirement does (R16, R17): nothing without a record; a record alone without its frame; else the count, the
record, and with the last copy the frame. -/
theorem State.retire_cases (s : State) (n : Nat) (c : RetireCause) :
    (s.copy n = none ∧ s.retire n c = s) ∨
      ∃ k, s.copy n = some k ∧
        (((s.leaveCopyPort k).frame k.frame = none ∧ s.retire n c = (s.leaveCopyPort k).releaseRecord n) ∨
          ∃ f, (((s.leaveCopyPort k).countRetired c f k).releaseRecord n).frame k.frame = some f ∧
            ((f.copyCount ≤ 1 ∧
                s.retire n c = (((s.leaveCopyPort k).countRetired c f k).releaseRecord n).freeFrame k.frame f) ∨
              (¬f.copyCount ≤ 1 ∧
                s.retire n c =
                  (((s.leaveCopyPort k).countRetired c f k).releaseRecord n).setFrame k.frame
                    { f with copyCount := f.copyCount - 1 }))) := by
  cases hk : s.copy n with
  | none => exact .inl ⟨rfl, by simp [State.retire, hk]⟩
  | some k =>
    refine .inr ⟨k, rfl, ?_⟩
    have he : s.retire n c =
        match (s.leaveCopyPort k).frame k.frame with
        | none => (s.leaveCopyPort k).releaseRecord n
        | some f =>
          if f.copyCount ≤ 1 then (((s.leaveCopyPort k).countRetired c f k).releaseRecord n).freeFrame k.frame f
          else
            (((s.leaveCopyPort k).countRetired c f k).releaseRecord n).setFrame k.frame
              { f with copyCount := f.copyCount - 1 } := by
      simp only [State.retire, hk]
      rfl
    cases hf : (s.leaveCopyPort k).frame k.frame with
    | none => exact .inl ⟨rfl, by rw [he, hf]⟩
    | some f =>
      refine .inr ⟨f, ?_, ?_⟩
      · rw [← hf]; cases c <;> rfl
      · rw [he, hf]
        by_cases h1 : f.copyCount ≤ 1
        · exact .inl ⟨h1, if_pos h1⟩
        · exact .inr ⟨h1, if_neg h1⟩

namespace Run

variable {ok : Special → Prop} {r s t : State}

/-! ## Retirement, queues, groups -/

theorem leaveCopyPort (hrec : ok .records) (h : Run ok r s) (k : Copy) : Run ok r (s.leaveCopyPort k) := by
  unfold State.leaveCopyPort; split; exacts [h.leavePort hrec _ _, h]

theorem retire (hrec : ok .records) (h : Run ok r s) (n : Nat) (c : RetireCause) : Run ok r (s.retire n c) := by
  rcases s.retire_cases n c with ⟨_, e⟩ | ⟨k, _, ⟨_, e⟩ | ⟨f, hf, he⟩⟩
  · rw [e]; exact h
  · rw [e]; exact (h.leaveCopyPort hrec k).releaseRecord hrec n
  · have h2 := ((h.leaveCopyPort hrec k).countRetired c f k).releaseRecord hrec n
    rcases he with ⟨_, e⟩ | ⟨_, e⟩
    · rw [e]; exact h2.act (.freeFrame _ hrec _ f hf)
    · rw [e]; exact h2.setFrame hrec _ f _ hf rfl

theorem adopt (h : Run ok r s) (p : Port) : Run ok r (s.adopt p) := h.setEgressPort _ _ ⟨id, id, id⟩ (.inr rfl)

theorem adoptIfEmpty (h : Run ok r s) (p : Port) : Run ok r (s.adoptIfEmpty p) := by
  unfold State.adoptIfEmpty
  split
  exacts [(h.adopt p).setEgressPort _ _ ⟨id, fun _ => Nat.zero_lt_succ _, id⟩ (.inr rfl), h]

theorem advancePhase (h : Run ok r s) (p : Port) : Run ok r (s.advancePhase p) := by
  unfold State.advancePhase
  dsimp only
  split
  · have h1 : Run ok r (s.setEgressPort p { s.egressPort p with phase := 0 }) :=
      h.setEgressPort _ _ ⟨id, fun _ => Nat.zero_lt_succ _, id⟩ (.inr rfl)
    split; exacts [h1.adopt _, h1]
  · exact h.setEgressPort _ _ ⟨id, fun hp => show _ + 1 < 64 by omega, id⟩ (.inr rfl)

theorem dequeue (hrec : ok .records) (h : Run ok r s) (p : Port) (c : Cls) (n : Nat) : Run ok r (s.dequeue p c n) := h.setQueue hrec _ _ _
theorem forgetInWalk (h : Run ok r s) (p : Port) (c : Cls) (n : Nat) : Run ok r (s.forgetInWalk p c n) := h.setWalk _
theorem appendQueued (hrec : ok .records) (h : Run ok r s) (n : Nat) (k : Copy) (q : Port) : Run ok r (s.appendQueued n k q) :=
  ((h.setCopy hrec _ _).setQueue hrec _ _ _).joinPort hrec _ _
theorem emptySlot (hrec : ok .records) (h : Run ok r s) (p : Port) (n : Nat) : Run ok r (s.emptySlot p n) :=
  h.setEgressPort _ _ ⟨id, id, Table.sorted_erase _ _⟩ (.inl hrec)

theorem recomputeGroup (h : Run ok r s) (g : GroupId) : Run ok r (s.recomputeGroup g) := by
  unfold State.recomputeGroup; split; exacts [h, (h.act (.setGroupState _ _ _)).ask _ _ _ _]

theorem recomputeGroupsOf (h : Run ok r s) (p : Port) : Run ok r (s.recomputeGroupsOf p) :=
  foldl _ (fun _ g k => k.recomputeGroup g) _ h

theorem setWork (h : Run ok r s) (l : List (Port × WorkKind)) (hl : s.failover.work.Nodup → l.Nodup) :
    Run ok r (s.setWork l) := h.act (.setWork _ _ hl)

theorem appendWork (h : Run ok r s) (p : Port) (k : WorkKind) : Run ok r (s.appendWork p k) := by
  unfold State.appendWork
  split
  · exact h
  · refine h.setWork _ fun hn => List.nodup_append.2 ⟨hn, by simp, fun a ha b hb => ?_⟩
    rintro rfl
    obtain rfl : a = (p, k) := by simpa using hb
    contradiction

theorem removeWork (h : Run ok r s) (p : Port) : Run ok r (s.removeWork p) := h.setWork _ fun hn => hn.filter _

theorem hold (hrec : ok .records) (h : Run ok r s) (n : Nat) (k : Copy) (g : GroupId) (hr : s.holdCount < Config.holdRoom) :
    Run ok r (s.hold n k g) := (h.setCopy hrec _ _).addHeld hrec g n hr

theorem rechoose (hrec : ok .records) (h : Run ok r s) (n : Nat) (k : Copy) (g : GroupId) : Run ok r (s.rechoose n k g).1 := by
  unfold State.rechoose
  split
  · exact h
  · split
    · exact h.retire hrec _ _
    · split; exacts [h.retire hrec _ _, h.appendQueued hrec _ _ _]

theorem lateAbort (hrec : ok .records) (h : Run ok r s) (n : Nat) (k : Copy) (g : GroupId) : Run ok r (s.lateAbort n k g).1 := by
  obtain ⟨s2, h2, hc⟩ := s.lateAbort_cases n k g
  have hs2 : Run ok r s2 := by
    rw [h2]
    cases k.port with
    | none => exact h.setCopy hrec _ _
    | some p => exact (h.leavePort hrec _ _).setCopy hrec _ _
  rcases hc with ⟨_, hr, he⟩ | ⟨_, _, he⟩ | ⟨_, he⟩
  · rw [he]; exact hs2.hold hrec _ _ _ hr
  · rw [he]; exact hs2.retire hrec _ _
  · rw [he]; exact hs2.rechoose hrec _ _ _

theorem releaseOne (hrec : ok .records) (g : GroupId) (x : State × List Port) (n : Nat) (h : Run ok r x.1) :
    Run ok r (State.releaseOne g x n).1 := by
  unfold State.releaseOne
  split
  · exact h
  · split; exacts [h.retire hrec _ _, h.rechoose hrec _ _ _]

theorem calmPoint (hrec : ok .records) (h : Run ok r s) : Run ok r s.calmPoint.1 := by
  unfold State.calmPoint
  have h1 : Run ok r (allGroups.foldl State.recomputeGroup s) := foldl _ (fun _ g k => k.recomputeGroup g) _ h
  generalize allGroups.foldl State.recomputeGroup s = u at h1 ⊢
  refine foldlFst _ (fun u g k => ?_) allGroups (x := (u, [])) h1
  exact foldlFst _ (fun v n k => releaseOne hrec g v n k) _ (x := (_, _)) (k.act (.clearHeld _ hrec _))

theorem oweEach (h : Run ok r s) (l : List Port) : Run ok r (s.oweEach l) := foldl _ (fun _ p k => k.owe p) _ h

theorem startWalk (h : Run ok r s) : Run ok r s.startWalk := by
  unfold State.startWalk
  split
  · exact h
  · rename_i p k rest e
    dsimp only
    refine recomputeGroupsOf ?_ _
    have h1 : Run ok r (s.setWork rest) := h.setWork _ fun hn => by rw [e] at hn; exact (List.nodup_cons.1 hn).2
    split
    · exact (h1.setWalk _).setDrained _ _
    · exact h1.setWalk _

theorem moveCopy (hrec : ok .records) (h : Run ok r s) (n : Nat) (k : Copy) (p q : Port) : Run ok r (s.moveCopy n k p q) :=
  ((h.dequeue hrec _ _ _).leavePort hrec _ _).appendQueued hrec _ _ _

theorem visit (hrec : ok .records) (kind : WorkKind) (p : Port) (c : Cls) (n : Nat) (x : StepState) (h : Run ok r x.st) :
    Run ok r (x.visit kind p c n).st := by
  unfold StepState.visit
  split
  · exact h
  · split
    · exact h
    · exact (h.dequeue hrec _ _ _).retire hrec _ _
    · exact h.moveCopy hrec _ _ _ _

theorem walkVisits (hrec : ok .records) (kind : WorkKind) (p : Port) (tails : List (Option Nat)) (n v : Nat) (x : StepState)
    (h : Run ok r x.st) : Run ok r (Machine.walkVisits kind p tails n v x).st := by
  induction n generalizing v x with
  | zero => exact h
  | succ n ih =>
    unfold Machine.walkVisits
    split
    · dsimp only
      split
      · exact ih _ _ h
      · split
        · exact h
        · split
          · exact ih _ _ (visit hrec _ _ _ _ _ h)
          · exact ih _ _ (visit hrec _ _ _ _ _ h)
    · exact h

theorem endWalk (hrec : ok .records) (h : Run ok r s) (p : Port) : Run ok r (s.endWalk p).1 := by
  unfold State.endWalk
  dsimp only
  split
  · exact ((h.setWalk _).recomputeGroupsOf _).calmPoint hrec
  · exact ((h.setWalk _).recomputeGroupsOf _).startWalk

theorem walkStep (hrec : ok .records) (h : Run ok r s) (w : Walk) : Run ok r (s.walkStep w) := by
  unfold State.walkStep
  dsimp only
  refine settle (oweEach ?_ _) _
  have h1 : ∀ x : StepState, Run ok r x.st →
      Run ok r (if s.queuesEmpty w.port = true then x.st else x.st.adoptIfEmpty w.port) := by
    intro x hx
    split; exacts [hx, hx.adoptIfEmpty _]
  split
  · exact (h1 _ (walkVisits hrec _ _ _ _ _ _ h)).setWalk _
  · exact (h1 _ (walkVisits hrec _ _ _ _ _ _ h)).endWalk hrec _

theorem walkStartEvent (h : Run ok r s) : Run ok r s.walkStartEvent := by
  unfold State.walkStartEvent; split; exacts [h, h.startWalk]

/-! ## Slots and stations -/

theorem endSlot (h : Run ok r s) (k : SlotId) (st : SlotStatus) (c : ResultCode) (n : Nat) : Run ok r (s.endSlot k st c n) :=
  (h.setSlot _ _).emitStatus _ _
theorem done (h : Run ok r s) (k : SlotId) (c : ResultCode) (n : Nat) : Run ok r (s.done k c n) := h.endSlot _ _ _ _
theorem fail (h : Run ok r s) (k : SlotId) (c : ResultCode) : Run ok r (s.fail k c) := h.endSlot _ _ _ _
theorem stayBusy (h : Run ok r s) (k : SlotId) : Run ok r (s.stayBusy k) := h.emitStatus _ _
theorem takeArgs (h : Run ok r s) (k : SlotId) (g : Lanes) : Run ok r (s.takeArgs k g) := h.act (.setArgs _ _ _)
theorem startSlot (h : Run ok r s) (k : SlotId) (b : Byte) (t : BitVec 16) : Run ok r (s.startSlot k b t) := h.setSlot _ _

theorem requireActive (h : Run ok r s) (k : SlotId) (u : State) (hu : Run ok r u) : Run ok r (s.requireActive k u) := by
  unfold State.requireActive; split; exacts [hu, h.fail _ _]

theorem setStation (h : Run ok r s) {w : Nat} {e e' : Station} (hf : s.lookup.stations.find w = some e)
    (hs : e'.isStatic = e.isStatic) (ht : e'.tenant = e.tenant) : Run ok r (s.setStation w e') :=
  h.lookup _ (.write_same hf hs ht)

theorem dropLearned (h : Run ok r s) {w : Nat} {e : Station} (hf : s.lookup.stations.find w = some e)
    (hs : e.isStatic = false) : Run ok r (s.dropLearned w e) := h.lookup _ (.drop hf hs)

theorem askStation (h : Run ok r s) (k : NoticeKind) (n : Nat) (a : StationAddr) (t : Target) :
    Run ok r (s.askStation k n a t) := h.ask _ _ _ _

theorem moveStation (h : Run ok r s) {w : Nat} {e : Station} (hf : s.lookup.stations.find w = some e) (t : Target) :
    Run ok r (s.moveStation w e t) := by
  unfold State.moveStation
  split
  · exact h.setStation hf rfl rfl
  · refine askStation ?_ _ _ _ _
    exact h.setStation hf rfl rfl

theorem learnHit (h : Run ok r s) {w : Nat} {e : Station} (hf : s.lookup.stations.find w = some e) (t : Target) :
    Run ok r (s.learnHit w e t) := by
  unfold State.learnHit
  split
  · split
    · exact h
    · refine (h.askStation .staticConflict e.segment e.addr t).setStation (e := e) ?_ rfl rfl
      rw [State.askStation, State.ask_lookup]; exact hf
  · split
    · exact h
    · split; exacts [h.setStation hf rfl rfl, h.moveStation hf _]

theorem learnMiss (h : Run ok r s) (f : Forming) (t : Target) : Run ok r (s.learnMiss f t) := by
  unfold State.learnMiss
  split
  · exact h.countRefusal _
  · rename_i w hw
    split
    · exact h.lookup _ (.write_learned (State.freeWay?_some hw) rfl)
    · exact h.countRefusal _

theorem learn (h : Run ok r s) (f : Forming) : Run ok r (s.learn f) := by
  unfold State.learn
  split
  · split
    · rename_i w e hl
      exact h.learnHit (State.lookup?_some hl).1 _
    · exact h.learnMiss _ _
  · exact h

theorem sweepStep (h : Run ok r s) (c : Nat) : Run ok r (s.sweepStep c) := by
  unfold State.sweepStep
  rw [State.sweepFold_eq]
  exact h.lookup _ ((LookupUnit.moves_sweep s.lookup _).trans (.of_eq rfl rfl rfl))

theorem startFlush (h : Run ok r s) : Run ok r s.startFlush := by
  rw [State.startFlush_eq]; exact h.lookup _ s.startFlush_moves

theorem offerFlush (h : Run ok r s) (q : FlushReq) (l : List SlotId) : Run ok r (s.offerFlush q l).1 := by
  rw [State.offerFlush_eq]; exact h.lookup _ (s.offerFlush_moves q l)

theorem flushByPort (h : Run ok r s) (p : Port) : Run ok r (s.flushByPort p) := by
  unfold State.flushByPort
  dsimp only
  split; exacts [h.offerFlush _ _, h.ask _ _ _ _]

theorem endFlushSlots (h : Run ok r s) (l : List SlotId) (n : Nat) : Run ok r (s.endFlushSlots l n) :=
  foldl _ (fun _ j k => k.done j _ _) _ h

theorem flushHits_moves (s : State) (w : FlushWalk) :
    s.lookup.Moves ((s.flushHits w).foldl (fun u x => u.drop x.1 x.2) s.lookup) := by
  have hsub : (s.flushHits w).Sublist s.lookup.stations := (List.filter_sublist).trans List.filter_sublist
  refine LookupUnit.moves_drops _ _ (fun x hx => ?_) (fun hs => ?_) fun hs x hx => ?_
  · have := (List.mem_filter.1 hx).2
    simp only [Bool.and_eq_true, Bool.not_eq_true'] at this
    exact this.1
  · exact (Table.nodup_keys hs).sublist (hsub.map _)
  · exact (Table.mem_iff_find _ hs _ _).1 (hsub.subset hx)

theorem flushStep (h : Run ok r s) (w : FlushWalk) : Run ok r (s.flushStep w) := by
  have hm := flushHits_moves s w
  unfold State.flushStep
  dsimp only
  rw [State.dropFold_eq]
  split
  · refine lookup h _ ?_
    exact hm.trans (.of_eq rfl rfl rfl)
  · refine startFlush (endFlushSlots (lookup h _ ?_) _ _)
    exact hm.trans (.of_eq rfl rfl rfl)

theorem addStation (h : Run ok r s) (k : SlotId) (n : Nat) (a : StationAddr) (t : Target) :
    Run ok r (s.addStation k n a t) := by
  unfold State.addStation
  split
  · rename_i w e hl
    have hf := (State.lookup?_some hl).1
    split
    · exact h.fail _ _
    · rename_i he
      exact (h.lookup _ (LookupUnit.Moves.convert hf (by simpa using he) rfl)).done _ _ _
  · split
    · rename_i w hw
      exact (h.lookup _ (LookupUnit.Moves.write_static (State.freeWay?_some hw) rfl)).done _ _ _
    · exact h.fail _ _

theorem stationAddBody (h : Run ok r s) (k : SlotId) : Run ok r (s.stationAddBody k) := by
  unfold State.stationAddBody
  refine h.requireActive _ _ ?_
  split; exacts [h.addStation _ _ _ _, h.fail _ _]

theorem stationRemoveBody (h : Run ok r s) (k : SlotId) : Run ok r (s.stationRemoveBody k) := by
  unfold State.stationRemoveBody
  refine h.requireActive _ _ ?_
  split
  · exact h.fail _ _
  · split
    · exact h.fail _ _
    · rename_i w e hl
      have hf := (State.lookup?_some hl).1
      split
      · exact (h.lookup _ (.erase_static hf ‹_›)).done _ _ _
      · exact (h.dropLearned hf (by simpa using ‹¬e.isStatic = true›)).done _ _ _

theorem flushBody (h : Run ok r s) (k : SlotId) : Run ok r (s.flushBody k) := by
  unfold State.flushBody
  refine h.requireActive _ _ ?_
  split
  · exact h.fail _ _
  · split; exacts [(h.offerFlush _ _).stayBusy _, h.fail _ _]

theorem agingExpiry (h : Run ok r s) : Run ok r s.agingExpiry := by
  unfold State.agingExpiry
  dsimp only
  have h1 (v : Option Word32) := h.lookup { s.lookup with agingTimer := v } (.of_eq rfl rfl rfl)
  split; exacts [(h1 _).lookup _ (.of_eq rfl rfl rfl), (h1 _).ask _ _ _ _]

/-! ## Liveness -/

theorem askPortState (h : Run ok r s) (p : Port) (l : Liveness) (c : StateCause) : Run ok r (s.askPortState p l c) :=
  h.ask _ _ _ _

theorem leaveUp (h : Run ok r s) (p : Port) (l : Liveness) (c : StateCause) : Run ok r (s.leaveUp p l c) := by
  unfold State.leaveUp
  dsimp only
  refine recomputeGroupsOf (askPortState ?_ _ _ _) _
  have h1 := ((((h.setLivePort p _).setLivePort p _).appendWork p .evacuate).setLivePort p _ :
    Run ok r ((((s.setLiveness p l).stopStall p).appendWork p .evacuate).startDrain p))
  split; exacts [h1.flushByPort _, h1]

theorem moveState (h : Run ok r s) (p : Port) (l : Liveness) (c : StateCause) (b : Bool) :
    Run ok r (s.moveState p l c b) := by
  unfold State.moveState
  dsimp only
  refine recomputeGroupsOf (askPortState ?_ _ _ _) _
  split
  · exact ((h.setLivePort _ _).setLivePort _ _).flushByPort _
  · exact (h.setLivePort _ _).setLivePort _ _

theorem takeDown (h : Run ok r s) (p : Port) (l : Liveness) (c : StateCause) : Run ok r (s.takeDown p l c) := by
  unfold State.takeDown
  split
  · exact h.leaveUp _ _ _
  · exact h.moveState _ _ _ _
  · exact h.moveState _ _ _ _
  · split; exacts [h, h.moveState _ _ _ _]

theorem enterTrial (h : Run ok r s) (p : Port) (c : StateCause) : Run ok r (s.enterTrial p c) :=
  (((h.setLivePort _ _).setLivePort _ _).askPortState _ _ _).recomputeGroupsOf _

theorem enterUp (hrec : ok .records) (h : Run ok r s) (p : Port) : Run ok r (s.enterUp p) := by
  have h3 : Run ok r ((((s.setLiveness p .up).stopTrial p).removeWork p).stopDrain p) :=
    (((h.setLivePort _ _).setLivePort _ _).removeWork _).setLivePort _ _
  unfold State.enterUp
  dsimp only
  refine oweEach (settle ?_ _) _
  generalize (((s.setLiveness p .up).stopTrial p).removeWork p).stopDrain p = u3 at h3 ⊢
  have h4 : Run ok r (if u3.drainWalkOf p = true then u3 else u3.setDrained p false) := by
    split; exacts [h3, h3.setDrained _ _]
  generalize (if u3.drainWalkOf p = true then u3 else u3.setDrained p false) = u4 at h4 ⊢
  have h5 : Run ok r (if 0 < u4.postedCount p then u4.startStall p else u4) := by
    split; exacts [h4.setLivePort _ _, h4]
  have h6 := (h5.askPortState p (s.liveness p) .trialExpiry).recomputeGroupsOf p
  split; exacts [h6.calmPoint hrec, h6]

theorem completionReport (h : Run ok r s) (p : Port) : Run ok r (s.completionReport p) := by
  unfold State.completionReport
  split
  · split <;> exact h.setLivePort _ _
  · exact h.enterTrial _ _
  · exact h

theorem statusWrite (h : Run ok r s) (p : Port) (g : Lanes) : Run ok r (s.statusWrite p g) := by
  unfold State.statusWrite
  split
  · unfold State.statusTaken
    dsimp only
    split
    · split; exacts [(h.setLivePort _ _).enterTrial _ _, h.setLivePort _ _]
    · exact (h.setLivePort _ _).takeDown _ _ _
  · exact h

theorem drainExpiry (h : Run ok r s) (p : Port) : Run ok r (s.drainExpiry p) := (h.setLivePort _ _).appendWork _ _

theorem withPortArg (h : Run ok r s) (k : SlotId) (f : Port → State) (hf : ∀ p, Run ok r (f p)) :
    Run ok r (s.withPortArg k f) := by
  unfold State.withPortArg
  refine h.requireActive _ _ ?_
  split; exacts [hf _, h.fail _ _]

theorem portAdminDownBody (h : Run ok r s) (k : SlotId) : Run ok r (s.portAdminDownBody k) :=
  h.withPortArg _ _ fun _ => (h.takeDown _ _ _).done _ _ _

theorem portAdminReleaseBody (h : Run ok r s) (k : SlotId) : Run ok r (s.portAdminReleaseBody k) := by
  refine h.withPortArg _ _ fun _ => ?_
  split; exacts [(h.moveState _ _ _ _).done _ _ _, h.fail _ _]

theorem resetLiveness (h : Run ok r s) (p : Port) : Run ok r (s.resetLiveness p) := by
  unfold State.resetLiveness
  split; exacts [h.setLivePort _ _, (h.setLivePort _ _ : Run ok r (s.stopStall p)).takeDown _ _ _]

/-! ## Egress -/

theorem discard (hrec : ok .records) (h : Run ok r s) (p : Port) (c : Cls) (n : Nat) : Run ok r (s.discard p c n) :=
  (((h.dequeue hrec _ _ _).forgetInWalk _ _ _).adoptIfEmpty _).retire hrec _ _

theorem strictPick (hrec : ok .records) (p : Port) (n : Nat) (h : Run ok r s) : Run ok r (s.strictPick p n).2 := by
  induction n generalizing s with
  | zero => exact h
  | succ n ih =>
    unfold State.strictPick
    split
    · exact h
    · split; exacts [ih (h.discard hrec _ _ _), h]

theorem scanPick (hrec : ok .records) (p : Port) (n k : Nat) (h : Run ok r s) : Run ok r (s.scanPick p n k).2 := by
  induction n generalizing s k with
  | zero => exact h
  | succ n ih =>
    unfold State.scanPick
    split
    · exact h
    · split
      · exact ih _ (h.advancePhase _)
      · split
        · exact ih _ (h.advancePhase _)
        · split; exacts [ih _ (h.discard hrec _ _ _), h.advancePhase _]

theorem pick (hrec : ok .records) (h : Run ok r s) (p : Port) : Run ok r (s.pick p).2 := by
  have h1 := strictPick hrec p (s.waiting p + 1) h
  unfold State.pick
  split
  · rename_i e; rw [e] at h1; exact h1
  · rename_i e; rw [e] at h1; exact scanPick hrec p _ _ h1

theorem fill_turns (e : EgressPort) (tag : Nat) : e.Turns (e.fill tag) := by
  refine ⟨fun h => ?_, id, Table.sorted_put _ _ _⟩
  unfold EgressPort.fill nextEgressSlot
  dsimp only
  split <;> simp only <;> omega

theorem post (hrec : ok .records) (h : Run ok r s) (p : Port) (n : Nat) (k : Copy) (f : Frame) : Run ok r (s.post p n k f) := by
  unfold State.post
  dsimp only
  refine owe (adoptIfEmpty ?_ _) _
  have h3 := (((h.dequeue hrec p k.cls n).forgetInWalk p k.cls n).setCopy hrec n { k with state := .posted }).emit
    (egressOffset p (s.egressPort p).nextWrite) (descriptorBytes n k f (s.egressPort p).lap)
  have h4 := h3.setEgressPort p _ (fill_turns _ n) (.inl hrec)
  split
  · exact h4.setLivePort _ _
  · exact h4

theorem postChosen (hrec : ok .records) (h : Run ok r s) (p : Port) (c : Option Nat) : Run ok r (s.postChosen p c) := by
  unfold State.postChosen
  split
  · exact h
  · split
    · exact h
    · split; exacts [h, h.post hrec _ _ _ _]

theorem attempt (hrec : ok .records) (h : Run ok r s) (p : Port) : Run ok r (s.attempt p) := by
  unfold State.attempt; split; exacts [((h.pick hrec p).settle _).postChosen hrec _ _, h]

theorem directReturn (hrec : ok .records) (h : Run ok r s) (p : Port) (n : Nat) (k : Copy) : Run ok r (s.directReturn p n k) := by
  unfold State.directReturn; split; exacts [h.retire hrec _ _, (h.setCopy hrec _ _).setQueue hrec _ _ _]

theorem aborted (hrec : ok .records) (h : Run ok r s) (p : Port) (n : Nat) (k : Copy) : Run ok r (s.aborted p n k).1 := by
  unfold State.aborted; split; exacts [h.lateAbort hrec _ _ _, h.directReturn hrec _ _ _]

theorem completeCopy (hrec : ok .records) (h : Run ok r s) (p : Port) (n st : Nat) : Run ok r (s.completeCopy p n st).1 := by
  unfold State.completeCopy
  split
  · exact h
  · split
    · exact h.retire hrec _ _
    · split; exacts [h.aborted hrec _ _ _, h.retire hrec _ _]

theorem takeCompletion (hrec : ok .records) (h : Run ok r s) (p : Port) (n : Nat) (rec : SlotRecord) (w : CompletionWord) :
    Run ok r (s.takeCompletion p n rec w) := by
  unfold State.takeCompletion
  dsimp only
  split
  · exact h.ask _ _ _ _
  · exact ((((h.emptySlot hrec _ _).completeCopy hrec _ _ _).settle _).completionReport _).oweEach _

theorem egressWrite (hrec : ok .records) (h : Run ok r s) (p : Port) (n : Nat) (g : Lanes) : Run ok r (s.egressWrite p n g) := by
  unfold State.egressWrite; split; exacts [h.takeCompletion hrec _ _ _ _, h]

theorem resetAbort (hrec : ok .records) (p : Port) (x : State × List Port) (n : Nat) (h : Run ok r x.1) :
    Run ok r (State.resetAbort p x n).1 := by
  unfold State.resetAbort
  split
  · exact h
  · exact h.aborted hrec _ _ _

theorem resetEgress (hrec : ok .records) (h : Run ok r s) (p : Port) : Run ok r (s.resetEgress p) := by
  unfold State.resetEgress
  refine (foldlFst _ (fun x n k => resetAbort hrec p x n k) _ (x := (_, _)) ?_).oweEach _
  exact h.setEgressPort _ _ ⟨fun _ => Nat.zero_lt_succ _, id, fun _ => rfl⟩ (.inl hrec)

/-! ## Admission, replication, intake -/

theorem refillMeter (h : Run ok r s) (n : Tenant) : Run ok r (s.refillMeter n) := h.setMeter _ _ (.inl (min_le_left _ _))

theorem meterRefillBody (h : Run ok r s) (k : SlotId) : Run ok r (s.meterRefillBody k) := by
  unfold State.meterRefillBody
  refine h.requireActive _ _ ?_
  split; exacts [h.fail _ _, (h.setMeter _ _ (.inl le_rfl)).done _ _ _]

section taking

variable (hk : ok .taking) (hrec : ok .records)

include hk hrec

theorem offerCopy (h : Run ok r s) (f : Forming) (p : Port) (v : Option GroupId) : Run ok r (s.offerCopy f p v) := by
  unfold State.offerCopy; split; exacts [h.createCopy hrec hk _ _ _ _ nofun, h.countDrop _ _]

theorem offerHeld (h : Run ok r s) (f : Forming) (g : GroupId) : Run ok r (s.offerHeld f g) := by
  unfold State.offerHeld; split; exacts [h.createCopy hrec hk _ _ _ _ fun _ _ => ‹_›, h.countDrop _ _]

theorem repCandidate (f : Forming) (p : Port) (v : Option GroupId) (x : RepWalk × State) (h : Run ok r x.2) :
    Run ok r (Machine.repCandidate f p v x).2 := by
  unfold Machine.repCandidate; split; exacts [h, h.offerCopy hk hrec _ _ _]

theorem repGroup (f : Forming) (g : GroupId) (x : RepWalk × State) (h : Run ok r x.2) :
    Run ok r (Machine.repGroup f g x).2 := by
  unfold Machine.repGroup
  split
  · split; exacts [h, h.offerHeld hk hrec _ _]
  · split; exacts [h, repCandidate hk hrec _ _ _ _ h]

theorem repEntry (f : Forming) (l : ListId) (i : Nat) (x : RepWalk × State) (h : Run ok r x.2) :
    Run ok r (Machine.repEntry f l i x).2 := by
  unfold Machine.repEntry
  dsimp only
  split
  · split; exacts [repCandidate hk hrec _ _ _ _ h, h]
  · split; exacts [repGroup hk hrec _ _ _ h, h]
  · split
    · unfold Machine.repSublist
      split
      · exact h
      · split; exacts [h, h.ask _ _ _ _]
    · exact h
  · exact h

theorem repWalk (f : Forming) (n : Nat) (x : RepWalk × State) (h : Run ok r x.2) :
    Run ok r (Machine.repWalk f n x) := by
  induction n generalizing x with
  | zero => exact h
  | succ n ih =>
    unfold Machine.repWalk
    split
    · exact h
    · rename_i y e
      refine ih y ?_
      unfold Machine.repPass at e
      dsimp only at e
      split at e
      · split at e
        · cases e
        · cases e; exact h
      · cases e
        exact repEntry hk hrec _ _ _ _ h

theorem replicate (h : Run ok r s) (f : Forming) (t : Target) : Run ok r (s.replicate f t) := by
  cases t with
  | port p =>
    show Run ok r (s.directPort f p)
    unfold State.directPort
    split; exacts [h, h.offerCopy hk hrec _ _ _]
  | group g =>
    show Run ok r (s.directGroup f g)
    unfold State.directGroup
    split
    · exact h.offerHeld hk hrec _ _
    · split
      · exact h.countDrop _ _
      · split; exacts [h, h.offerCopy hk hrec _ _ _]
  | list l => exact repWalk hk hrec _ _ _ h

theorem admitFrame (h : Run ok r s) (f : Forming) (t : Target) : Run ok r (s.admitFrame f t) := by
  unfold State.admitFrame
  dsimp only
  split; exacts [(h.refillMeter _).countDrop _ _, (h.refillMeter _).replicate hk hrec _ _]

theorem forwardFrame (h : Run ok r s) (f : Forming) : Run ok r (s.forwardFrame f) := by
  have h1 := (writeLinks hk f.cells h).learn f
  unfold State.forwardFrame
  dsimp only
  split; exacts [h1.countDrop _ _, h1.admitFrame hk hrec _ _]

theorem takeStages (h : Run ok r s) (p : Port) (d : Descriptor) (l : List Nat) : Run ok r (s.takeStages p d l) := by
  unfold State.takeStages
  split
  · exact h.countDrop _ _
  · dsimp only
    split; exacts [h.countDrop _ _, h.forwardFrame hk hrec _]

omit hrec in
theorem closeTaking (h : Run ok r s) (l : List Nat) : Run ok r (s.closeTaking l) := by
  unfold State.closeTaking
  split
  · exact h
  · have h1 : ∀ m, Run ok r (s.freeCells m) := fun m => h.act (.freeCells s m hk)
    split; exacts [h.refill, (h1 _).report.refill]

theorem takeDescriptor (h : Run ok r s) (p : Port) : Run ok r (s.takeDescriptor p) := by
  have h1 := h.act (.advanceIntake s p)
  unfold State.takeDescriptor
  dsimp only
  split
  · exact h1.ask _ _ _ _
  · exact ((h1.act (.claim _ _ _ hk)).takeStages hk hrec _ _ _).closeTaking hk _

omit hk hrec in
theorem stageIngress (h : Run ok r s) (p : Port) (g : Lanes) : Run ok r (s.stageIngress p g) := h.act (.stageIngress _ _ _)

theorem ingressWrite (h : Run ok r s) (p : Port) (n : Nat) (g : Lanes) : Run ok r (s.ingressWrite p n g) := by
  unfold State.ingressWrite
  split
  · exact h
  · split
    · split
      · split; exacts [(h.stageIngress _ _).takeDescriptor hk hrec _, (h.stageIngress _ _).ask _ _ _ _]
      · exact h.stageIngress _ _
    · split; exacts [h.ask _ _ _ _, h]

end taking

/-! ## Accounting and commands -/

theorem epochCloseBody (h : Run ok r s) (k : SlotId) : Run ok r (s.epochCloseBody k) := by
  unfold State.epochCloseBody
  refine h.requireActive _ _ ?_
  split
  · exact h.fail _ _
  · unfold State.closeEpoch
    refine stayBusy (emit (acct h _ ?_) _ _) _
    exact ⟨id, id, id⟩

theorem exportTenant (w : ExportWalk) (h : Run ok r s) (n : Nat) : Run ok r (s.exportTenant w n) := by
  unfold State.exportTenant
  dsimp only
  refine setTenantRecord ?_ _ _ _ (fun _ => inWidth_zero) fun _ => rfl
  split
  · exact h.emit _ _
  · exact (h.emit _ _).setTenantRecord _ _ _ (TenantRecord.counting_addCharge _ _).1 (TenantRecord.counting_addCharge _ _).2

theorem exportStep (h : Run ok r s) (w : ExportWalk) : Run ok r (s.exportStep w) := by
  have h1 : Run ok r ((stepTenants w.nextTenant).foldl (State.exportTenant w) s) :=
    foldl _ (fun _ n k => exportTenant w k n) _ h
  unfold State.exportStep
  generalize (stepTenants w.nextTenant).foldl (State.exportTenant w) s = u at h1 ⊢
  dsimp only
  split
  · refine acct h1 _ ?_
    exact ⟨id, id, id⟩
  · refine acct (done (ask (emit h1 _ _) _ _ _ _) _ _ _) _ ?_
    exact ⟨id, id, id⟩

theorem portReset (hrec : ok .records) (h : Run ok r s) (p : Port) : Run ok r (s.portReset p) := by
  have h1 := ((h.act (.resetCells s p)).act (.resetIntake _ p)).resetEgress hrec p
  unfold State.portReset
  dsimp only
  refine resetLiveness ?_ _
  split; exacts [h1.refill, h1.report.refill]

theorem portResetBody (hrec : ok .records) (h : Run ok r s) (k : SlotId) : Run ok r (s.portResetBody k) :=
  h.withPortArg _ _ fun _ => (h.portReset hrec _).done _ _ _

theorem timeMarkBody (h : Run ok r s) (k : SlotId) : Run ok r (s.timeMarkBody k) :=
  h.requireActive _ _ (h.done _ _ _)

theorem startBody (hk : ok .start) (h : Run ok r s) (k : SlotId) : Run ok r (s.startBody k) := by
  unfold State.startBody
  split
  · exact h.fail _ _
  · exact ((h.act (.startBlocks s hk (by simpa using ‹¬s.isActive = true›))).refillRun.report).done _ _ _

/-- The body of a command kind; START and PORT_RESET alone have effects of their own. -/
theorem commandBody (h : Run ok r s) (kind : Byte) (k : SlotId) (hk : kind = 1 → ok .start) (hrec : kind = 8 → ok .records) :
    Run ok r (s.commandBody kind k) := by
  unfold State.commandBody
  split
  · exact h.startBody (hk (BitVec.eq_of_toNat_eq (by simpa using ‹_›))) k
  · exact h.stationAddBody k
  · exact h.stationRemoveBody k
  · exact h.flushBody k
  · exact h.epochCloseBody k
  · exact h.portAdminDownBody k
  · exact h.portAdminReleaseBody k
  · exact h.portResetBody (hrec (BitVec.eq_of_toNat_eq (by simpa using ‹_›))) k
  · exact h.meterRefillBody k
  · exact h.timeMarkBody k
  · exact h.fail _ _

theorem commandWord (h : Run ok r s) (k : SlotId) (b : Byte) (t : BitVec 16) (f : State → State)
    (hf : ∀ u, Run ok r u → Run ok r (f u)) : Run ok r (s.commandWord k b t f) := by
  unfold State.commandWord; split; exacts [h.ask _ _ _ _, hf _ (h.startSlot _ _ _)]

theorem commandWrite (h : Run ok r s) (b : Byte) (w : SlotWrite) (f : State → State)
    (hf : ∀ u, Run ok r u → Run ok r (f u)) : Run ok r (s.commandWrite b w f) :=
  ((h.forward _ _).takeArgs _ _).commandWord _ _ _ _ hf

theorem slotWrite (hk : ok .start) (hrec : ok .records) (h : Run ok r s) (k : SlotId) (g : Lanes) : Run ok r (s.slotWrite k g) := by
  unfold State.slotWrite
  dsimp only
  split
  · exact (h.takeArgs k g).commandWord _ _ _ _ fun u hu => hu.commandBody _ _ (fun _ => hk) fun _ => hrec
  · exact h.takeArgs k g

end Run

/-! ## Control tables -/

theorem State.installedBytes_length (s : State) (table i : Nat) (h : table = 2 ∨ table = 4) :
    64 ≤ (s.installedBytes table i).length := by
  have hrec : ∀ n pieces, n ≤ (record n pieces).length := by
    intro n pieces
    unfold record padTo
    rw [List.length_append, List.length_replicate]
    omega
  rcases h with rfl | rfl
  · exact hrec 64 _
  · exact (by omega : 64 ≤ 128).trans (hrec 128 _)

/-- What an install brings behind the change of the installed copy: nothing; a report of the free count behind a global
entry; a new schedule, a refill run and an attempt behind a port entry; a recompute behind a group entry; a pending flag
behind a schedule (R170, Table 10-3). -/
theorem State.install_cases (s : State) (table i : Nat) (b : List Byte) :
    s.install table i b = s.installCopy table i b ∨
      (s.install table i b =
        if (s.installCopy table i b).isActive then (s.installCopy table i b).report else s.installCopy table i b) ∨
      (∃ p u, u = (if (readPort b).schedProfile = (s.portEntry p).schedProfile then s.installCopy table i b
            else (s.installCopy table i b).setPendingSched p) ∧
          s.install table i b = if u.isActive then u.refill.owe p else u) ∨
      (∃ g, s.install table i b = (s.installCopy table i b).recomputeGroup g) ∨
      s.install table i b =
        (allPorts.filter fun p => decide ((s.portEntry p).schedProfile = i)).foldl State.setPendingSched
          (s.installCopy table i b) := by
  match table with
  | 0 => exact .inr (.inl rfl)
  | 1 =>
    cases hp : portOf i with
    | none => exact .inl (by simp only [State.install, State.installCopy, hp])
    | some p => exact .inr (.inr (.inl ⟨p, _, rfl, by simp only [State.install, State.installCopy, hp]; rfl⟩))
  | 2 =>
    cases hg : groupOf i with
    | none => exact .inl (by simp only [State.install, State.installCopy, hg])
    | some g => exact .inr (.inr (.inr (.inl ⟨g, by simp only [State.install, State.installCopy, hg]; rfl⟩)))
  | 4 => exact .inr (.inr (.inr (.inr rfl)))
  | 3 => exact .inl rfl
  | n + 5 => exact .inl rfl

/-- The tables of Table 10-4 are numbered 0 to 8. -/
theorem entryWrites_table_le {i : Nat} {g : Lanes} {e : EntryWrite} (h : e ∈ entryWrites i g) : e.table ≤ 8 := by
  unfold entryWrites at h
  cases ha : areaAt (64 * i) with
  | none => rw [ha] at h; nomatch h
  | some t =>
    have ht : t.number ≤ 8 := by
      have hall : ∀ t ∈ tableAreas, t.number ≤ 8 := by decide
      exact hall t (List.mem_of_find?_eq_some ha)
    rw [ha] at h
    have hm := (List.mem_filter.1 h).1
    split at hm
    · obtain ⟨j, _, rfl⟩ := List.mem_map.1 hm
      exact ht
    · obtain rfl := List.mem_singleton.1 hm
      exact ht

theorem overlay_length (b : List Byte) (m : Table Byte) : (overlay b m).length = b.length := by simp [overlay]

theorem Table.sorted_stageBytes (off : Nat) (g : Lanes) (m : Table Byte) (h : Table.sorted m = true) :
    Table.sorted (stageBytes off g m) = true := by
  induction g generalizing off m with
  | nil => exact h
  | cons l g ih =>
    cases l with
    | none => exact ih _ _ h
    | some b => exact ih _ _ (Table.sorted_put _ _ _ h)

theorem State.stagedBytes_sorted (s : State) (table i : Nat) (h : stagedSorted s.path.staging) :
    Table.sorted (s.stagedBytes table i) = true := by
  unfold State.stagedBytes
  split
  · split
    exacts [h _ ‹_›, rfl]
  · rfl

namespace Run

variable {ok : Special → Prop} {r s t : State}

theorem setPendingSched (h : Run ok r s) (p : Port) : Run ok r (s.setPendingSched p) :=
  (h.setEgressPort p { s.egressPort p with pendingSched := true } ⟨id, id, id⟩ (.inr rfl)).adoptIfEmpty p

section tables

variable (hk : ok .tables)

include hk

/-- An install changes the installed copy, and then its owner acts on it. -/
theorem install (h : Run ok r s) (table i : Nat) (b : List Byte) (ht : table ≤ 8) (hr : entryReasons table b = [])
    (hl : table = 2 ∨ table = 4 → 64 ≤ b.length) : Run ok r (s.install table i b) := by
  have hc : Run ok r (s.installCopy table i b) := h.act (.installCopy s table i b hk ht hr hl)
  rcases State.install_cases s table i b with
    e | e | ⟨p, u, hu, e⟩ | ⟨g, e⟩ | e
  · rw [e]; exact hc
  · rw [e]; split; exacts [report hc, hc]
  · have hu' : Run ok r u := by
      rw [hu]
      split; exacts [hc, hc.setPendingSched p]
    rw [e]
    split; exacts [hu'.refill.owe p, hu']
  · rw [e]; exact hc.recomputeGroup g
  · rw [e]; exact foldl _ (fun _ p k => k.setPendingSched p) _ hc

theorem setStaging (h : Run ok r s) (v : Option Staging) (hs : stagedSorted s.path.staging → stagedSorted v) :
    Run ok r (s.setStaging v) := h.act (.setStaging _ _ hk hs)

theorem abandon (h : Run ok r s) (a b : Nat) : Run ok r (s.abandon a b) := by
  unfold State.abandon
  split
  · exact h
  · split
    · exact h
    · have h1 : Run ok r (s.setStaging none) := h.setStaging hk none fun _ _ h => nomatch h
      dsimp only
      split; exacts [h1, h1.ask _ _ _ _]

theorem stageEntry (h : Run ok r s) (e : EntryWrite) : Run ok r (s.stageEntry e) := by
  refine (h.abandon hk _ _).setStaging hk _ fun hs x hx => ?_
  cases hx
  exact Table.sorted_stageBytes _ _ _ (State.stagedBytes_sorted _ _ _ hs)

theorem entryWrite (h : Run ok r s) (e : EntryWrite) (he : e.table ≤ 8) : Run ok r (s.entryWrite e) := by
  unfold State.entryWrite
  have h1 := h.stageEntry hk e
  generalize s.stageEntry e = u at h1 ⊢
  split
  · unfold State.commit
    have h2 : Run ok r (u.setStaging none) := h1.setStaging hk none fun _ _ h => nomatch h
    dsimp only
    split
    · rename_i hr
      refine h2.install hk _ _ _ he hr fun ht => ?_
      rw [overlay_length]
      exact State.installedBytes_length _ _ _ ht
    · exact (h2.act (.freeDraws _ _)).ask _ _ _ _
  · exact h1

theorem tableWrite (h : Run ok r s) (i : Nat) (g : Lanes) : Run ok r (s.tableWrite i g) := by
  have key : ∀ (l : List EntryWrite) (u : State), (∀ e ∈ l, e.table ≤ 8) → Run ok r u →
      Run ok r (l.foldl State.entryWrite u) := by
    intro l
    induction l with
    | nil => exact fun _ _ hu => hu
    | cons e l ih =>
      exact fun u hl hu => ih _ (fun x hx => hl x (List.mem_cons_of_mem _ hx)) (hu.entryWrite hk e (hl e List.mem_cons_self))
  exact key _ _ (fun _ he => entryWrites_table_le he) h

end tables

theorem consumerWrite (hk : ok .consumer) (h : Run ok r s) (g : Lanes) : Run ok r (s.consumerWrite g) := by
  unfold State.consumerWrite; split; exacts [h.act (.consume _ _ hk), h]

theorem areaWrite (hk : ∀ x, ok x) (h : Run ok r s) (a : Area) (g : Lanes) : Run ok r (s.areaWrite a g) := by
  cases a with
  | ingress p n => exact h.ingressWrite (hk _) (hk _) p n g
  | egress p n => exact h.egressWrite (hk _) p n g
  | status p => exact h.statusWrite p g
  | tables i => exact h.tableWrite (hk _) i g
  | commandSlot k => exact h.slotWrite (hk _) (hk _) k g
  | consumer => exact h.consumerWrite (hk _) g
  | other => exact h

end Run

/-- A write outside the window is forwarded alone; one inside is handed to the owner of its area (R163, R164). The
definition is opened as an equation of functions: opened at its arguments, the kernel would evaluate the window's bounds
against a free address. -/
theorem State.presentWrite_elim {s : State} {a : Nat} {g : Lanes} {P : State → Prop}
    (hout : s.offsetOf a = none → P (s.forward a g))
    (hin : ∀ off, s.offsetOf a = some off → P ((s.forward a g).areaWrite (areaOf off) g)) : P (s.presentWrite a g) := by
  have key : ∀ F, F = @State.presentWrite → P (F s a g) := by
    intro F hF
    delta State.presentWrite at hF
    subst hF
    beta_reduce
    extract_lets s1
    generalize areaOf = area at *
    generalize ho : s.offsetOf a = o at *
    cases o with
    | none => exact hout rfl
    | some off => exact hin off rfl
  exact key _ rfl

theorem Run.presentWrite {ok : Special → Prop} {r s : State} (hk : ∀ x, ok x) (h : Run ok r s) (a : Nat) (g : Lanes) :
    Run ok r (s.presentWrite a g) :=
  State.presentWrite_elim (fun _ => h.forward a g) fun off _ => (h.forward a g).areaWrite hk (areaOf off) g

/-! ## The commands -/

/-- The special effects a command may bring about. -/
def special : Instr → Special → Prop
  | .ingressSlotWrite _ _ _, x => x = .taking ∨ x = .records
  | .takingOfDescriptor _ _ _, x => x = .taking ∨ x = .records
  | .postAttempt _, x => x = .records
  | .completion _ _ _, x => x = .records
  | .trialExpiry _, x => x = .records
  | .evacuationWalkStep, x => x = .records
  | .drainWalkStep, x => x = .records
  | .tableStagingWrite _ _, x => x = .tables
  | .tableCommit _ _, x => x = .tables
  | .commandArgumentWrite _ _, x => x = .start ∨ x = .records
  | .consumerWord _, x => x = .consumer
  | .unknownCommand _ _, x => x = .start ∨ x = .records
  | .start _, x => x = .start
  | .portReset _, x => x = .records
  | .windowWriteNoEffect _ _, _ => True
  | _, _ => False

/-- A command does nothing, or runs a chain of effects and ends its action. -/
def Ends (c : Instr) (s : State) : Prop :=
  exec c s = .next s ∨ ∃ u, Run (special c) s u ∧ exec c s = .next u.finish

namespace Ends

variable {s : State}

theorem of_run {c : Instr} (u : State) (h : Run (special c) s u) (e : exec c s = .next u.finish) : Ends c s :=
  .inr ⟨u, h, e⟩

theorem ingressSlotWrite (p : Port) (n : RingSlot) (g : Lanes) : Ends (.ingressSlotWrite p n g) s :=
  of_run _ (((Run.refl s).forward (s.windowAddr (ingressOffset p n)) g).ingressWrite
    (show special (.ingressSlotWrite p n g) .taking from .inl rfl)
    (show special (.ingressSlotWrite p n g) .records from .inr rfl) p n g) rfl

theorem takingOfDescriptor (p : Port) (n : RingSlot) (g : Lanes) : Ends (.takingOfDescriptor p n g) s := by
  have hk : special (.takingOfDescriptor p n g) .taking := .inl rfl
  have hrec : special (.takingOfDescriptor p n g) .records := .inr rfl
  have h1 := (Run.refl (ok := special (.takingOfDescriptor p n g)) s).forward (s.windowAddr (ingressOffset p n)) g
  by_cases ht : s.takes p n g = true
  · exact of_run _ ((h1.stageIngress p g).takeDescriptor hk hrec p) (by simp only [exec, execTakingOfDescriptor, ht]; rfl)
  · exact of_run _ (h1.ingressWrite hk hrec p n g) (by simp only [exec, execTakingOfDescriptor, ht]; rfl)

theorem postAttempt (p : Port) : Ends (.postAttempt p) s := by
  by_cases ho : (s.egressPort p).owed = 0
  · exact .inl (by simp [exec, execPostAttempt, ho])
  · exact of_run _ (((Run.refl s).setEgressPort p { s.egressPort p with owed := (s.egressPort p).owed - 1 }
      ⟨id, id, id⟩ (.inr rfl)).attempt (show special (.postAttempt p) .records from rfl) p) (by simp [exec, execPostAttempt, ho])

theorem trialExpiry (p : Port) : Ends (.trialExpiry p) s := by
  by_cases hc : s.liveness p = .trial ∧ due (s.livePort p).trial s.now
  · exact of_run _ ((Run.refl s).enterUp (show special (.trialExpiry p) .records from rfl) p) (by simp [exec, execTrialExpiry, hc])
  · exact .inl (by simp only [exec, execTrialExpiry, if_neg hc])

theorem stallExpiry (p : Port) : Ends (.stallExpiry p) s := by
  by_cases hc : s.liveness p = .up ∧ due (s.livePort p).stall s.now
  · exact of_run _ ((Run.refl s).leaveUp p .stalled .stallExpiry) (by simp [exec, execStallExpiry, hc])
  · exact .inl (by simp only [exec, execStallExpiry, if_neg hc])

theorem drainExpiry (p : Port) : Ends (.drainExpiry p) s := by
  by_cases hc : s.liveness p ≠ .up ∧ due (s.livePort p).drain s.now
  · exact of_run _ ((Run.refl s).drainExpiry p) (by simp only [exec, execDrainExpiry, if_pos hc])
  · exact .inl (by simp only [exec, execDrainExpiry, if_neg hc])

theorem agingPeriodExpiry : Ends .agingPeriodExpiry s := by
  by_cases hc : (s.isActive && due s.lookup.agingTimer s.now) = true
  · exact of_run _ (Run.refl s).agingExpiry (by simp only [exec, execAgingPeriodExpiry, if_pos hc])
  · exact .inl (by simp only [exec, execAgingPeriodExpiry, if_neg hc])

theorem agingSweepStep : Ends .agingSweepStep s := by
  cases hc : s.lookup.sweep with
  | none => exact .inl (by simp only [exec, execAgingSweepStep, hc])
  | some c => exact of_run _ ((Run.refl s).sweepStep c) (by simp only [exec, execAgingSweepStep, hc])

theorem flushWalkStep : Ends .flushWalkStep s := by
  cases hc : s.lookup.flushWalk with
  | none => exact .inl (by simp only [exec, execFlushWalkStep, hc])
  | some w => exact of_run _ ((Run.refl s).flushStep w) (by simp only [exec, execFlushWalkStep, hc])

theorem exportWalkStep : Ends .exportWalkStep s := by
  cases hc : s.acct.walk with
  | none => exact .inl (by simp only [exec, execExportWalkStep, hc])
  | some w => exact of_run _ ((Run.refl s).exportStep w) (by simp only [exec, execExportWalkStep, hc])

theorem evacuationWalkStep : Ends .evacuationWalkStep s := by
  cases hc : s.failover.walk with
  | none => exact .inl (by simp only [exec, execEvacuationWalkStep, hc])
  | some w =>
    by_cases hw : w.kind = .evacuate
    · exact of_run _ ((Run.refl s).walkStep (show special .evacuationWalkStep .records from rfl) w) (by simp only [exec, execEvacuationWalkStep, hc, if_pos hw])
    · exact .inl (by simp only [exec, execEvacuationWalkStep, hc, if_neg hw])

theorem drainWalkStep : Ends .drainWalkStep s := by
  cases hc : s.failover.walk with
  | none => exact .inl (by simp only [exec, execDrainWalkStep, hc])
  | some w =>
    by_cases hw : w.kind = .drain
    · exact of_run _ ((Run.refl s).walkStep (show special .drainWalkStep .records from rfl) w) (by simp only [exec, execDrainWalkStep, hc, if_pos hw])
    · exact .inl (by simp only [exec, execDrainWalkStep, hc, if_neg hw])

/-- A command write of a kind whose body is a chain of effects. -/
theorem commandWrite {c : Instr} (kind : Byte) (w : SlotWrite) (body : State → State)
    (hb : ∀ r u, Run (special c) r u → Run (special c) r (body u))
    (e : exec c s = .next (s.commandWrite kind w body).finish) : Ends c s :=
  of_run _ ((Run.refl s).commandWrite kind w body fun u hu => hb _ u hu) e

end Ends

/-- Every command but power-on reset and the passing of a microsecond. -/
theorem exec_ends (c : Instr) (s : State) (hp : ∀ straps, c ≠ .powerOnReset straps) (ht : c ≠ .timebaseAdvance) :
    Ends c s := by
  cases c with
  | powerOnReset straps => exact absurd rfl (hp straps)
  | timebaseAdvance => exact absurd rfl ht
  | ingressSlotWrite p n g => exact .ingressSlotWrite p n g
  | takingOfDescriptor p n g => exact .takingOfDescriptor p n g
  | postAttempt p => exact .postAttempt p
  | completion p n g => 
    exact .of_run _ (((Run.refl s).forward (s.windowAddr (egressOffset p n)) g).egressWrite
      (show special (.completion p n g) .records from rfl) p n g) rfl
  | statusWord p g => exact .of_run _ (((Run.refl s).forward (s.windowAddr (statusOffset p)) g).statusWrite p g) rfl
  | trialExpiry p => exact .trialExpiry p
  | stallExpiry p => exact .stallExpiry p
  | drainExpiry p => exact .drainExpiry p
  | agingPeriodExpiry => exact .agingPeriodExpiry
  | agingSweepStep => exact .agingSweepStep
  | flushWalkStep => exact .flushWalkStep
  | walkStart => exact .of_run _ (Run.refl s).walkStartEvent rfl
  | evacuationWalkStep => exact .evacuationWalkStep
  | drainWalkStep => exact .drainWalkStep
  | exportWalkStep => exact .exportWalkStep
  | tableStagingWrite i g =>
    exact .of_run _ (((Run.refl s).forward (s.windowAddr (tableOffset i)) g).tableWrite
      (show special (.tableStagingWrite i g) .tables from rfl) i g) rfl
  | tableCommit i g =>
    exact .of_run _ (((Run.refl s).forward (s.windowAddr (tableOffset i)) g).tableWrite
      (show special (.tableCommit i g) .tables from rfl) i g) rfl
  | commandArgumentWrite k g =>
    exact .of_run _ (((Run.refl s).forward (s.windowAddr (slotOffset k)) g).slotWrite
      (show special (.commandArgumentWrite k g) .start from .inl rfl)
      (show special (.commandArgumentWrite k g) .records from .inr rfl) k g) rfl
  | consumerWord g =>
    exact .of_run _ (((Run.refl s).forward (s.windowAddr Config.consumerWord) g).consumerWrite
      (show special (.consumerWord g) .consumer from rfl) g) rfl
  | unknownCommand kind w => exact .commandWrite kind w _ (fun _ _ hu => hu.commandBody kind w.slot (fun _ => .inl rfl) fun _ => .inr rfl) rfl
  | start w => exact .commandWrite 1 w _ (fun _ _ hu => hu.startBody (show special (.start w) .start from rfl) w.slot) rfl
  | stationAdd w => exact .commandWrite 2 w _ (fun _ _ hu => hu.stationAddBody w.slot) rfl
  | stationRemove w => exact .commandWrite 3 w _ (fun _ _ hu => hu.stationRemoveBody w.slot) rfl
  | flush w => exact .commandWrite 4 w _ (fun _ _ hu => hu.flushBody w.slot) rfl
  | epochClose w => exact .commandWrite 5 w _ (fun _ _ hu => hu.epochCloseBody w.slot) rfl
  | portAdminDown w => exact .commandWrite 6 w _ (fun _ _ hu => hu.portAdminDownBody w.slot) rfl
  | portAdminRelease w => exact .commandWrite 7 w _ (fun _ _ hu => hu.portAdminReleaseBody w.slot) rfl
  | portReset w => exact .commandWrite 8 w _ (fun _ _ hu => hu.portResetBody (show special (.portReset w) .records from rfl) w.slot) rfl
  | meterRefill w => exact .commandWrite 9 w _ (fun _ _ hu => hu.meterRefillBody w.slot) rfl
  | timeMark w => exact .commandWrite 10 w _ (fun _ _ hu => hu.timeMarkBody w.slot) rfl
  | windowWriteNoEffect a g => exact .of_run _ ((Run.refl s).presentWrite (fun _ => trivial) a g) rfl

end Sys2Proof.Machine
end

section
/-! The whole machine: what a step is, what every command answers, and which commands write the mode, the window base, the
clock, the installed tables and the consumer copy (O1 to O4, O12). -/
namespace Sys2Proof.Machine

/-! ## What every effect inside an action leaves alone -/

/-- What not even a write of the control tables, a consumer word or START changes. -/
structure Within (r s : State) : Prop where
  winbase : s.path.winbase = r.path.winbase
  mode : r.path.mode = .active → s.path.mode = .active
  timebase : s.live.timebase = r.live.timebase
  div100us : s.live.div100us = r.live.div100us
  div10ms : s.live.div10ms = r.live.div10ms
  pending : s.pending = r.pending
  sent : s.bus.sent = r.bus.sent
  room : r.ringRoom → s.ringRoom

theorem Keeps.within {r s : State} (h : Keeps r s) : Within r s :=
  ⟨h.winbase, fun hm => h.mode.trans hm, h.timebase, h.div100us, h.div10ms, h.pending, h.sent, h.room⟩

theorem Within.refl (s : State) : Within s s := (Keeps.refl s).within

theorem Within.trans {r s t : State} (h : Within r s) (k : Within s t) : Within r t :=
  ⟨k.1.trans h.1, k.2 ∘ h.2, k.3.trans h.3, k.4.trans h.4, k.5.trans h.5, k.6.trans h.6, k.7.trans h.7, k.8 ∘ h.8⟩

/-- The change of an installed copy touches the installed tables and the meters alone. -/
theorem State.installCopy_eq (s : State) (table i : Nat) (b : List Byte) :
    s.installCopy table i b =
      { s with tables := (s.installCopy table i b).tables, admission := (s.installCopy table i b).admission } := by
  match table with
  | 0 => rfl
  | 1 => cases hp : portOf i <;> simp [State.installCopy, hp, State.setTables]
  | 2 => cases hg : groupOf i <;> simp [State.installCopy, hg, State.setTables]
  | 3 => rfl
  | 4 => rfl
  | 5 => rfl
  | 6 => cases hn : tenantOf i <;> simp [State.installCopy, State.install, hn, State.installTenant, State.setTables, State.setMeter]
  | 7 => rfl
  | _ + 8 => rfl

/-- A consumer copy is never left more than a ring behind the producer (R176). -/
theorem NoticeWriter.consume_room (w : NoticeWriter) (v : Word32) :
    ((w.consume v).producer - (w.consume v).consumer).toNat ≤ Config.noticeRoom := by
  unfold NoticeWriter.consume
  by_cases h : (w.producer - v).toNat ≤ Config.noticeRoom
  · simpa only [if_pos h] using h
  · simp only [if_neg h, BitVec.sub_self]
    exact Nat.zero_le _

/-- Step 1 of START touches the cell manager alone. -/
theorem State.startCells_eq (s : State) : s.startCells = { s with cells := s.startCells.cells } := by
  suffices key : ∀ (l : List Port) (u : State),
      l.foldl (fun s p => s.setCellPort p { s.cellPort p with pos := 0, lap := true }) u =
        { u with cells := (l.foldl (fun s p => s.setCellPort p { s.cellPort p with pos := 0, lap := true }) u).cells } from
    key _ _
  intro l
  induction l with
  | nil => exact fun _ => rfl
  | cons p l ih => exact fun u => ih _

/-- Step 3 of START touches the queue manager alone. -/
theorem State.startEgress_eq (s : State) : s.startEgress = { s with queues := s.startEgress.queues } := by
  unfold State.startEgress
  generalize allPorts = l
  induction l generalizing s with
  | nil => rfl
  | cons p l ih => exact ih _

/-- Step 4 of START touches the ports of the liveness monitor alone. -/
theorem State.startLive_eq (s : State) :
    s.startLive = { s with live := { s.live with ports := s.startLive.live.ports } } := by
  unfold State.startLive
  generalize allPorts = l
  induction l generalizing s with
  | nil => rfl
  | cons p l ih => exact ih _

/-- What START makes of the blocks it restarts, each taken over from the step that makes it (R168). -/
theorem State.startBlocks_eq (s : State) :
    s.startBlocks =
      { s with
        cells := s.startCells.cells
        intake := []
        queues := s.startCells.startIntake.startEgress.queues
        live := { s.live with ports := s.startCells.startIntake.startEgress.startLive.live.ports }
        admission := { s.admission with shed := .normal }
        acct := { s.acct with openTime := s.now }
        lookup := { s.lookup with
          agingTimer := some (s.now + BitVec.ofNat 32 (agingSpan s.tables.globalEntry.agingPeriod)) }
        path := { s.path with mode := .active } } := by
  have h1 := s.startCells_eq
  have h3 := s.startCells.startIntake.startEgress_eq
  have h4 := s.startCells.startIntake.startEgress.startLive_eq
  unfold State.startBlocks
  generalize s.startCells.startIntake.startEgress.startLive.live.ports = ports at h4 ⊢
  rw [h4]
  generalize s.startCells.startIntake.startEgress.queues = queues at h3 ⊢
  rw [h3]
  generalize s.startCells.cells = cells at h1 ⊢
  rw [h1]
  rfl

theorem State.startBlocks_within (s : State) : Within s s.startBlocks := by
  rw [State.startBlocks_eq]
  exact ⟨rfl, fun _ => rfl, rfl, rfl, rfl, rfl, rfl, id⟩

theorem Act.within {ok : Special → Prop} {s t : State} (h : Act ok s t) : Within s t := by
  have h0 := Keeps.refl s
  cases h
  case ask k a b c => exact (h0.ask k a b c).within
  case installCopy table i b _ _ _ _ => rw [State.installCopy_eq]; exact ⟨rfl, id, rfl, rfl, rfl, rfl, rfl, id⟩
  case consume v _ => exact ⟨rfl, id, rfl, rfl, rfl, rfl, rfl, fun _ => NoticeWriter.consume_room _ _⟩
  case startBlocks _ _ => exact s.startBlocks_within
  all_goals exact ⟨rfl, id, rfl, rfl, rfl, rfl, rfl, id⟩

theorem Run.within {ok : Special → Prop} {s t : State} (h : Run ok s t) : Within s t :=
  h.keeps (P := Within s) (fun _ _ ha hs => hs.trans ha.within) (.refl s)

/-- Effects that write neither the installed tables nor the staging copy. -/
theorem Act.tables {ok : Special → Prop} (hk : ¬ok .tables) {s t : State} (h : Act ok s t) :
    t.tables = s.tables ∧ t.path.staging = s.path.staging := by
  cases h
  case ask => simp
  case setStaging h _ => exact absurd h hk
  case installCopy h _ _ _ => exact absurd h hk
  case startBlocks _ _ =>
    rw [State.startBlocks_eq]; exact ⟨rfl, rfl⟩
  all_goals exact ⟨rfl, rfl⟩

/-- Effects that do not write the consumer copy. -/
theorem Act.consumer {ok : Special → Prop} (hk : ¬ok .consumer) {s t : State} (h : Act ok s t) :
    t.notices.consumer = s.notices.consumer := by
  cases h
  case ask k a b c => exact ((Keeps.refl s).ask k a b c).consumer
  case installCopy table i b _ _ _ _ => rw [State.installCopy_eq]
  case consume _ h => exact absurd h hk
  case startBlocks _ _ => rw [State.startBlocks_eq]
  all_goals rfl

/-! ## The statements -/

/-- Settles O1, by the two branches of the step. -/
theorem stepRunsFrontCommand : Obligations.StepRunsFrontCommand := by
  refine ⟨fun c rest s => rfl, fun s h => ?_⟩
  unfold step
  rw [h]

/-- Settles O2: power-on reset and the clock keep the stream and the queue, and every other command is a chain of effects
that leave both alone, sent on at its end. -/
theorem everyCommandAnswersAndKeepsStream : Obligations.EveryCommandAnswersAndKeepsStream := by
  intro c s
  by_cases hp : ∃ straps, c = .powerOnReset straps
  · obtain ⟨straps, rfl⟩ := hp
    exact ⟨_, rfl, rfl, s.bus.statuses ++ (s.bus.notices ++ s.bus.writes),
      by simp [finish_sent, State.powerOn, List.append_assoc]⟩
  · by_cases ht : c = .timebaseAdvance
    · subst ht
      exact ⟨_, rfl, rfl, [], rfl⟩
    · rcases exec_ends c s (fun straps e => hp ⟨straps, e⟩) ht with e | ⟨u, hu, e⟩
      · exact ⟨s, e, rfl, [], rfl⟩
      · refine ⟨_, e, hu.within.pending, u.bus.statuses ++ (u.bus.notices ++ u.bus.writes), ?_⟩
        rw [finish_sent, hu.within.sent, List.append_assoc, List.append_assoc]

/-- What a command other than power-on reset and the passing of a microsecond comes to. -/
theorem exec_next {c : Instr} {s t : State} (h : exec c s = .next t) (hp : ∀ straps, c ≠ .powerOnReset straps)
    (ht : c ≠ .timebaseAdvance) : t = s ∨ ∃ u, Run (special c) s u ∧ t = u.finish := by
  rcases exec_ends c s hp ht with e | ⟨u, hu, e⟩
  · exact .inl (Host.Outcome.next.inj (h.symm.trans e))
  · exact .inr ⟨u, hu, Host.Outcome.next.inj (h.symm.trans e)⟩

/-- Settles O3: no effect inside an action leaves ACTIVE or moves the window base. -/
theorem modeAndWindowBaseOnlyByPowerOn : Obligations.ModeAndWindowBaseOnlyByPowerOn := by
  intro c s t h
  by_cases hp : ∃ straps, c = .powerOnReset straps
  · obtain ⟨straps, rfl⟩ := hp
    cases h
    exact ⟨fun _ _ => ⟨straps, rfl⟩, rfl⟩
  · have hne : ∀ straps, c ≠ .powerOnReset straps := fun straps e => hp ⟨straps, e⟩
    have hw : (s.path.mode = .active → t.path.mode = .active) ∧ t.path.winbase = s.path.winbase := by
      by_cases ht : c = .timebaseAdvance
      · subst ht; cases h; exact ⟨id, rfl⟩
      · rcases exec_next h hne ht with rfl | ⟨u, hu, rfl⟩
        exacts [⟨id, rfl⟩, ⟨hu.within.mode, hu.within.winbase⟩]
    refine ⟨fun ha hb => absurd (hw.1 ha) (by rw [hb]; decide), hw.2.trans ?_⟩
    split
    · exact absurd rfl (hne _)
    · rfl

/-- Settles O4: the writers of the clock, the tables and the consumer copy are the special effects of their commands. -/
theorem clockTablesAndConsumerHaveTheirWriters : Obligations.ClockTablesAndConsumerHaveTheirWriters := by
  intro c s t h hp
  by_cases ht : c = .timebaseAdvance
  · subst ht
    cases h
    exact ⟨fun hne => absurd rfl hne, fun _ _ _ => ⟨rfl, rfl⟩, fun _ _ => rfl⟩
  rcases exec_next h hp ht with rfl | ⟨u, hu, rfl⟩
  · exact ⟨fun _ => ⟨rfl, rfl, rfl⟩, fun _ _ _ => ⟨rfl, rfl⟩, fun _ _ => rfl⟩
  refine ⟨fun _ => ⟨hu.within.timebase, hu.within.div100us, hu.within.div10ms⟩, fun h1 h2 h3 => ?_, fun h1 h2 => ?_⟩
  · have hk : ¬special c .tables := by
      cases c <;> first | exact absurd rfl (h1 _ _) | exact absurd rfl (h2 _ _) | exact absurd rfl (h3 _ _) | nofun
    exact hu.keeps (t := u) (P := fun x => x.tables = s.tables ∧ x.path.staging = s.path.staging)
      (fun _ _ ha hs => ⟨(ha.tables hk).1.trans hs.1, (ha.tables hk).2.trans hs.2⟩) ⟨rfl, rfl⟩
  · have hk : ¬special c .consumer := by
      cases c <;> first | exact absurd rfl (h1 _) | exact absurd rfl (h2 _ _) | nofun
    exact hu.keeps (t := u) (P := fun x => x.notices.consumer = s.notices.consumer) (fun _ _ ha hs => (ha.consumer hk).trans hs) rfl

/-- Settles O12: below their ranges the dividers roll over as remainders do. -/
theorem timebaseAdvances : Obligations.TimebaseAdvances := by
  intro s ⟨h1, h2⟩
  have hroll : ∀ n m : Nat, n < m → (if n + 1 = m then 0 else n + 1) = (n + 1) % m := by
    intro n m hn
    split
    · rename_i e; rw [e, Nat.mod_self]
    · rw [Nat.mod_eq_of_lt (by omega)]
  show Host.Outcome.next s.tick = _
  rw [State.tick, hroll _ _ h1, hroll _ _ h2]

end Sys2Proof.Machine
end

section
/-! Laws that every step keeps: what has to be shown of a law once (`Closed`), the ports after START's restarts, and the
ranges of the ring positions, the dividers and the notice ring (O6). -/
namespace Sys2Proof.Machine

/-! ## A law of every step -/

/-- A law that each elementary effect keeps, and with it the end of an action, power-on reset, the clock and the queue of
commands. -/
structure Closed (P : State → Prop) : Prop where
  act : ∀ (ok : Special → Prop) (s t : State), Act ok s t → P s → P t
  finish : ∀ s, P s → P s.finish
  powerOn : ∀ s straps, P s → P (s.powerOn straps)
  tick : ∀ s, P s → P s.tick
  pending : ∀ s l, P s → P { s with pending := l }

theorem Closed.exec {P : State → Prop} (hP : Closed P) {c : Instr} {s t : State} (h : exec c s = .next t) (hs : P s) :
    P t := by
  by_cases hp : ∃ straps, c = .powerOnReset straps
  · obtain ⟨straps, rfl⟩ := hp
    cases h
    exact hP.finish _ (hP.powerOn _ _ hs)
  by_cases ht : c = .timebaseAdvance
  · subst ht
    cases h
    exact hP.tick _ hs
  rcases exec_next h (fun straps e => hp ⟨straps, e⟩) ht with rfl | ⟨u, hu, rfl⟩
  · exact hs
  · exact hP.finish _ (hu.keeps (hP.act _) hs)

/-- A step keeps such a law. -/
theorem Closed.step {P : State → Prop} (hP : Closed P) {s t : State} (h : step s = .next t) (hs : P s) : P t := by
  unfold Machine.step at h
  split at h
  · cases h; exact hs
  · exact hP.exec h (hP.pending _ _ hs)

/-! ## The ports after START's restarts -/

theorem intakePort_congr {s t : State} (h : t.intake = s.intake) (p : Port) : t.intakePort p = s.intakePort p := by
  unfold State.intakePort; rw [h]
theorem cellPort_congr {s t : State} (h : t.cells.ports = s.cells.ports) (p : Port) : t.cellPort p = s.cellPort p := by
  unfold State.cellPort; rw [h]
theorem egressPort_congr {s t : State} (h : t.queues.ports = s.queues.ports) (p : Port) :
    t.egressPort p = s.egressPort p := by
  unfold State.egressPort; rw [h]

theorem livePort_congr {s t : State} (h : t.live.ports = s.live.ports) (p : Port) : t.livePort p = s.livePort p := by
  unfold State.livePort; rw [h]

theorem mem_allPorts (p : Port) : p ∈ allPorts := List.mem_finRange p

theorem nodup_allPorts : allPorts.Nodup := List.nodup_finRange 48

/-- A pass over ports that changes the entry of each port from its own entry alone. -/
theorem foldl_entry {α : Type} (get : State → Port → α) (f : State → Port → State) (F : α → α)
    (hself : ∀ u p, get (f u p) p = F (get u p)) (hne : ∀ u p q, q ≠ p → get (f u p) q = get u q)
    (l : List Port) (hl : l.Nodup) (s : State) (q : Port) :
    get (l.foldl f s) q = if q ∈ l then F (get s q) else get s q := by
  induction l generalizing s with
  | nil => rfl
  | cons p l ih =>
    obtain ⟨hp, hl⟩ := List.nodup_cons.1 hl
    rw [List.foldl_cons, ih hl]
    by_cases hq : q = p
    · subst hq
      simp [hp, hself]
    · simp [hq, hne]

theorem State.startCells_cellPort (s : State) (p : Port) :
    s.startCells.cellPort p = { s.cellPort p with pos := 0, lap := true } := by
  unfold State.startCells
  rw [foldl_entry State.cellPort _ (fun v => { v with pos := 0, lap := true }) (fun u p => by simp)
    (fun u p q hq => by simp [hq]) _ nodup_allPorts, if_pos (mem_allPorts p)]
  rfl

theorem State.startEgress_egressPort (s : State) (p : Port) :
    s.startEgress.egressPort p = { s.egressPort p with slots := [], nextWrite := 0, lap := true, phase := 0 } := by
  unfold State.startEgress
  rw [foldl_entry State.egressPort _ (fun v => { v with slots := [], nextWrite := 0, lap := true, phase := 0 })
    (fun u p => by simp) (fun u p q hq => by simp [hq]) _ nodup_allPorts, if_pos (mem_allPorts p)]

theorem State.startLive_livePort (s : State) (p : Port) :
    s.startLive.livePort p = { s.livePort p with state := .down, trial := none, stall := none, drain := none } := by
  unfold State.startLive
  rw [foldl_entry State.livePort _ (fun v => { v with state := .down, trial := none, stall := none, drain := none })
    (fun u p => by simp) (fun u p q hq => by simp [hq]) _ nodup_allPorts, if_pos (mem_allPorts p)]

theorem State.startBlocks_cellPort (s : State) (p : Port) :
    s.startBlocks.cellPort p = { s.cellPort p with pos := 0, lap := true } := by
  rw [← State.startCells_cellPort]
  exact cellPort_congr (by rw [State.startBlocks_eq]) p

@[simp] theorem State.startCells_queues (s : State) : s.startCells.queues = s.queues := by rw [State.startCells_eq]
@[simp] theorem State.startCells_live (s : State) : s.startCells.live = s.live := by rw [State.startCells_eq]
@[simp] theorem State.startEgress_live (s : State) : s.startEgress.live = s.live := by rw [State.startEgress_eq]
@[simp] theorem State.startIntake_queues (s : State) : s.startIntake.queues = s.queues := rfl
@[simp] theorem State.startIntake_live (s : State) : s.startIntake.live = s.live := rfl

@[simp] theorem State.startLive_queues (s : State) : s.startLive.queues = s.queues := by rw [State.startLive_eq]
@[simp] theorem State.startRest_queues (s : State) : s.startRest.queues = s.queues := rfl
@[simp] theorem State.startRest_live (s : State) : s.startRest.live = s.live := rfl

theorem State.startBlocks_egressPort (s : State) (p : Port) :
    s.startBlocks.egressPort p = { s.egressPort p with slots := [], nextWrite := 0, lap := true, phase := 0 } := by
  have h : s.startCells.startIntake.egressPort p = s.egressPort p := 
    egressPort_congr (by rw [State.startIntake_queues, State.startCells_queues]) p
  rw [← h, ← State.startEgress_egressPort]
  exact egressPort_congr (by rw [State.startBlocks, State.startRest_queues, State.startLive_queues]) p

theorem State.startBlocks_livePort (s : State) (p : Port) :
    s.startBlocks.livePort p = { s.livePort p with state := .down, trial := none, stall := none, drain := none } := by
  have h : s.startCells.startIntake.startEgress.livePort p = s.livePort p := 
    livePort_congr (by rw [State.startEgress_live, State.startIntake_live, State.startCells_live]) p
  rw [← h, ← State.startLive_livePort]
  exact livePort_congr (by rw [State.startBlocks, State.startRest_live]) p

/-! ## Positions -/

@[simp] theorem merge_length (b : List Byte) (g : Lanes) : (merge b g).length = b.length := by
  induction b generalizing g with
  | nil => rfl
  | cons x b ih => cases g <;> simp [merge, ih]

/-- The ranges of one port's intake state. -/
def IntakePort.inRange (i : IntakePort) : Prop := i.slot < 256 ∧ i.staging.length = 64

theorem IntakePort.inRange_powerOn : IntakePort.powerOn.inRange := ⟨by decide, by decide⟩

theorem IntakePort.inRange_advance (i : IntakePort) : i.advance.inRange := by
  refine ⟨?_, List.length_replicate ..⟩
  unfold IntakePort.advance
  dsimp only
  split <;> omega

/-- The positions law, taken apart by block. -/
theorem State.positionsOk_iff (s : State) :
    s.positionsOk ↔ (∀ p, (s.intakePort p).inRange) ∧ (∀ p, (s.cellPort p).pos < 512) ∧
      ∀ p, (s.egressPort p).nextWrite < 256 ∧ (s.egressPort p).phase < 64 :=
  ⟨fun h => ⟨fun p => ⟨(h p).1, (h p).2.1⟩, fun p => (h p).2.2.1, fun p => (h p).2.2.2⟩,
    fun ⟨hi, hc, he⟩ p => ⟨(hi p).1, (hi p).2, hc p, he p⟩⟩

/-- Writing one port's intake state keeps the ranges where the value written is in range. -/
theorem inRange_setIntakePort {s : State} {p : Port} {v : IntakePort} (hs : ∀ q, (s.intakePort q).inRange)
    (hv : v.inRange) (q : Port) : ((s.setIntakePort p v).intakePort q).inRange := by
  rw [State.setIntakePort_intakePort]
  split; exacts [hv, hs q]

theorem Act.intake_inRange {ok : Special → Prop} {s t : State} (h : Act ok s t) (hs : ∀ p, (s.intakePort p).inRange) :
    ∀ p, (t.intakePort p).inRange := by
  cases h
  case stageIngress p g => exact inRange_setIntakePort hs ⟨(hs p).1, (merge_length _ _).trans (hs p).2⟩
  case advanceIntake p => exact inRange_setIntakePort hs (IntakePort.inRange_advance _)
  case resetIntake p => exact inRange_setIntakePort hs IntakePort.inRange_powerOn
  case ask k a b c => intro p; rw [intakePort_congr (State.ask_intake ..)]; exact hs p
  case installCopy => rw [State.installCopy_eq]; exact hs
  case startBlocks => rw [State.startBlocks_eq]; exact fun _ => IntakePort.inRange_powerOn
  all_goals exact hs

theorem Act.cellPos {ok : Special → Prop} {s t : State} (h : Act ok s t) (hs : ∀ p, (s.cellPort p).pos < 512) :
    ∀ p, (t.cellPort p).pos < 512 := by
  cases h
  case issueCells p n _ =>
    intro q
    unfold State.issueCells
    dsimp only
    rw [State.setCellPort_cellPort]
    split; exacts [Nat.mod_lt _ (by decide), hs q]
  case resetCells p =>
    intro q
    unfold State.resetCells
    rw [State.setCellPort_cellPort]
    split; exacts [by decide, hs q]
  case claim p n _ =>
    intro q
    unfold State.claim
    rw [State.setCellPort_cellPort]
    split; exacts [hs p, hs q]
  case ask k a b c => intro p; rw [cellPort_congr (s := s) (by rw [State.ask_cells])]; exact hs p
  case installCopy => rw [State.installCopy_eq]; exact hs
  case startBlocks => intro p; rw [State.startBlocks_cellPort]; exact Nat.zero_lt_succ _
  all_goals exact hs

theorem Act.egressPos {ok : Special → Prop} {s t : State} (h : Act ok s t)
    (hs : ∀ p, (s.egressPort p).nextWrite < 256 ∧ (s.egressPort p).phase < 64) :
    ∀ p, (t.egressPort p).nextWrite < 256 ∧ (t.egressPort p).phase < 64 := by
  cases h
  case setEgressPort p v hv _ =>
    intro q
    rw [State.setEgressPort_egressPort]
    split; exacts [⟨hv.nextWrite (hs p).1, hv.phase (hs p).2⟩, hs q]
  case ask k a b c => intro p; rw [egressPort_congr (s := s) (by rw [State.ask_queues])]; exact hs p
  case installCopy => rw [State.installCopy_eq]; exact hs
  case startBlocks =>
    intro p
    rw [State.startBlocks_egressPort]
    exact ⟨Nat.zero_lt_succ _, Nat.zero_lt_succ _⟩
  all_goals exact hs

theorem State.reset_positionsOk : State.reset.positionsOk := fun p =>
  show IntakePort.powerOn.slot < 256 ∧ IntakePort.powerOn.staging.length = 64 ∧ CellPort.powerOn.pos < 512 ∧
    EgressPort.powerOn.nextWrite < 256 ∧ EgressPort.powerOn.phase < 64 from
  ⟨by decide, by decide, by decide, by decide, by decide⟩

theorem closed_positionsOk : Closed State.positionsOk where
  act _ s t h hs := by
    rw [State.positionsOk_iff] at hs ⊢
    obtain ⟨hi, hc, he⟩ := hs
    exact ⟨h.intake_inRange hi, h.cellPos hc, h.egressPos he⟩
  finish _ h := h
  powerOn _ _ _ := State.reset_positionsOk
  tick _ h := h
  pending _ _ h := h

theorem closed_ringRoom : Closed State.ringRoom where
  act _ _ _ h := h.within.room
  finish _ h := h
  powerOn _ _ _ := show ((0 : Word32) - 0).toNat ≤ 1024 by decide
  tick _ h := h
  pending _ _ h := h

theorem closed_clockOk : Closed State.clockOk where
  act _ _ _ h hs := by unfold State.clockOk; rw [h.within.div100us, h.within.div10ms]; exact hs
  finish _ h := h
  powerOn _ _ _ := show 0 < 100 ∧ 0 < 10000 by decide
  tick s h := by
    obtain ⟨h1, h2⟩ := h
    constructor
    · show (if s.live.div100us + 1 = 100 then 0 else s.live.div100us + 1) < 100
      split <;> omega
    · show (if s.live.div10ms + 1 = 10000 then 0 else s.live.div10ms + 1) < 10000
      split <;> omega
  pending _ _ h := h

/-- An action sends what it has gathered. -/
theorem exec_quiet {c : Instr} {s t : State} (h : exec c s = .next t) (hs : s.quiet) : t.quiet := by
  by_cases hp : ∃ straps, c = .powerOnReset straps
  · obtain ⟨straps, rfl⟩ := hp
    cases h
    exact finish_quiet _
  by_cases ht : c = .timebaseAdvance
  · subst ht
    cases h
    exact hs
  rcases exec_next h (fun straps e => hp ⟨straps, e⟩) ht with rfl | ⟨u, _, rfl⟩
  exacts [hs, finish_quiet _]

theorem step_quiet {s t : State} (h : step s = .next t) (hs : s.quiet) : t.quiet := by
  unfold Machine.step at h
  split at h
  · cases h; exact hs
  · exact exec_quiet h hs

/-- Settles O6: each of the laws is closed under the effects of a step. -/
theorem ringRoomClockAndPositionsKept : Obligations.RingRoomClockAndPositionsKept := fun _ _ h =>
  ⟨closed_ringRoom.step h, closed_clockOk.step h, closed_positionsOk.step h, step_quiet h⟩

end Sys2Proof.Machine
end

section
/-! The installed entries stay such as validation lets through (R171, Table 10-2), and the tokens within the depth (R73, R78)
(O7). -/
namespace Sys2Proof.Machine

/-! ## The ranges of record fields -/

theorem leNat_lt (l : List Byte) : leNat l < 256 ^ l.length := by
  induction l with
  | nil => exact Nat.one_pos
  | cons b l ih =>
    rw [leNat, List.length_cons, Nat.pow_succ]
    have := b.isLt
    omega

theorem field_lt (b : List Byte) (off n : Nat) : field b off n < 256 ^ n := by
  refine (leNat_lt _).trans_le (Nat.pow_le_pow_right (by decide) ?_)
  rw [List.length_take]
  exact min_le_left _ _

theorem bits_lt (v hi lo : Nat) : bits v hi lo < 2 ^ (hi + 1 - lo) := Nat.mod_lt _ (Nat.two_pow_pos _)

theorem clamp_mem {lo hi : Nat} (h : lo ≤ hi) (v : Nat) : lo ≤ clamp lo hi v ∧ clamp lo hi v ≤ hi := by
  unfold clamp
  split
  · exact ⟨le_rfl, h⟩
  · split <;> omega

/-! ## Each table's law -/

/-- What validation makes sure of in a global entry. -/
def GlobalEntry.valid (e : GlobalEntry) : Prop :=
  e.rotation < 32 ∧ e.tightFloor < 2 ^ 16 ∧ e.criticalFloor < 2 ^ 16 ∧ e.hysteresis < 2 ^ 16 ∧ e.agingPeriod < 2 ^ 16 ∧
    e.prioMap.toNat / 2 ^ 14 % 4 = 0

def PortEntry.valid (e : PortEntry) : Prop :=
  1 ≤ e.window ∧ e.window ≤ 64 ∧ 8 ≤ e.issueTarget ∧ e.issueTarget ≤ 511 ∧ e.queueProfile < 4 ∧ e.schedProfile < 4 ∧
    (∀ f ∈ [e.trial, e.stall, e.drain], f.count < 256 ∧ f.unit < 4) ∧ e.defaultSegment < 4096

def GroupEntry.valid (e : GroupEntry) : Prop :=
  1 ≤ e.count ∧ e.count ≤ 8 ∧ e.ports.Nodup ∧ e.ports.length = e.count

def QueueProfile.valid (e : QueueProfile) : Prop :=
  e.minimum < 2 ^ 16 ∧ e.markThreshold < 2 ^ 16 ∧ e.alpha < 8 ∧ e.ageLimit < 2 ^ 24

def TenantEntry.valid (e : TenantEntry) : Prop :=
  e.rate < 2 ^ 20 ∧ e.depth < 2 ^ 27 ∧ e.quota < 2 ^ 17 ∧ e.stationLimit ≤ 16384 ∧ e.excessMode < 4 ∧ e.tariffSet < 4

def RepList.valid (e : RepList) : Prop := e.count ≤ 16 ∧ ∀ x ∈ e.items.take e.count, x.bad = false

/-- A tariff set of eight tariffs of 16 bits. -/
def validTariffs (l : List Nat) : Prop := l.length = 8 ∧ ∀ x ∈ l, x < 2 ^ 16

/-- The installed law, table by table. -/
structure Installed.Valid (t : Installed) : Prop where
  globalEntry : t.globalEntry.valid
  ports : ∀ p : Port, (t.ports.getD p PortEntry.powerOn).valid
  groups : ∀ g : GroupId, (t.groups.getD g (GroupEntry.powerOn g)).valid
  queueProfiles : ∀ i < 16, (t.queueProfiles.getD i QueueProfile.powerOn).valid
  schedules : ∀ k < 4, (t.schedules.getD k allSkip).length = 64
  tariffs : ∀ k < 4, validTariffs (t.tariffs.getD k tariffsPowerOn)
  tenants : ∀ n : Tenant, (t.tenants.getD n TenantEntry.powerOn).valid
  lists : ∀ l : ListId, (t.lists.getD l RepList.powerOn).valid

theorem classOfPriority_seven (s : State) :
    s.classOfPriority 7 = 0 ↔ s.tables.globalEntry.prioMap.toNat / 2 ^ 14 % 4 = 0 := by
  unfold State.classOfPriority
  rw [Fin.ext_iff]
  rfl

theorem State.installedOk_iff (s : State) : s.installedOk ↔ s.tables.Valid := by
  constructor
  · rintro ⟨⟨h1, h2, h3, h4, h5, h6⟩, hp, hg, hq, hk, hn, hl⟩
    exact ⟨⟨h1, h2, h3, h4, h5, (classOfPriority_seven s).1 h6⟩, hp, hg, hq, fun k h => (hk k h).1, fun k h => (hk k h).2,
      hn, hl⟩
  · rintro ⟨⟨h1, h2, h3, h4, h5, h6⟩, hp, hg, hq, hs, ht, hn, hl⟩
    exact ⟨⟨h1, h2, h3, h4, h5, (classOfPriority_seven s).2 h6⟩, hp, hg, hq, fun k h => ⟨hs k h, ht k h⟩, hn, hl⟩

/-! ## What is read from offered bytes is valid -/

theorem readGlobal_valid (b : List Byte) : (readGlobal b).valid := by
  refine ⟨bits_lt _ 4 0, field_lt b 4 2, field_lt b 6 2, field_lt b 8 2, field_lt b 60 2, ?_⟩
  have h : bits (field b 2 2) 13 0 < 2 ^ 14 := bits_lt _ 13 0
  show (BitVec.ofNat 16 (bits (field b 2 2) 13 0)).toNat / 2 ^ 14 % 4 = 0
  rw [BitVec.toNat_ofNat, Nat.mod_eq_of_lt (h.trans (by decide)), Nat.div_eq_of_lt h]

theorem readPort_valid (b : List Byte) : (readPort b).valid := by
  obtain ⟨hw1, hw2⟩ := clamp_mem (lo := 1) (hi := 64) (by decide) (field b 0 1)
  obtain ⟨ht1, ht2⟩ := clamp_mem (lo := 8) (hi := 511) (by decide) (field b 2 2)
  have htimer : ∀ off, (readTimer b off).count < 256 ∧ (readTimer b off).unit < 4 := fun off =>
    ⟨field_lt b off 1, bits_lt _ 1 0⟩
  refine ⟨hw1, hw2, ht1, ht2, bits_lt _ 1 0, bits_lt _ 5 4, fun f hf => ?_, bits_lt _ 11 0⟩
  simp only [readPort, List.mem_cons, List.not_mem_nil, or_false] at hf
  rcases hf with rfl | rfl | rfl <;> exact htimer _

/-- No reason applies exactly where every condition is false. -/
theorem reasonsOf_eq_nil {l : List (Bool × Reason)} : reasonsOf l = [] ↔ ∀ x ∈ l, x.1 = false := by
  simp [reasonsOf, List.filter_eq_nil_iff]

theorem portOf_eq_some {n : Nat} {p : Port} : portOf n = some p ↔ n = p := by
  unfold portOf
  split
  · rw [Option.some.injEq, Fin.ext_iff]
  · have := p.isLt
    constructor <;> intro h
    · cases h
    · omega

theorem filterMap_portOf_length {l : List Byte} (h : ∀ m ∈ l, m.toNat ≤ 47) :
    (l.filterMap fun m => portOf m.toNat).length = l.length := by
  induction l with
  | nil => rfl
  | cons m l ih =>
    have hm : m.toNat < 48 := by have := h m List.mem_cons_self; omega
    rw [List.filterMap_cons_some (b := ⟨m.toNat, hm⟩) (by simp [portOf, hm]), List.length_cons, List.length_cons,
      ih fun x hx => h x (List.mem_cons_of_mem _ hx)]

theorem filterMap_portOf_nodup {l : List Byte} (h : l.Nodup) : (l.filterMap fun m => portOf m.toNat).Nodup := by
  refine h.filterMap fun a b p ha hb => ?_
  have ha' := portOf_eq_some.1 (Option.mem_def.1 ha)
  have hb' := portOf_eq_some.1 (Option.mem_def.1 hb)
  exact BitVec.eq_of_toNat_eq (ha'.trans hb'.symm)

theorem readGroup_valid {b : List Byte} (hr : groupReasons b = []) (hl : 64 ≤ b.length) : (readGroup b).valid := by
  rw [groupReasons, reasonsOf_eq_nil] at hr
  simp only [List.forall_mem_cons, decide_eq_false_iff_not, Bool.not_eq_false', decide_eq_true_eq] at hr
  obtain ⟨hcount, hrange, _, hdup, _⟩ := hr
  have hlen : ((b.drop 2).take 8).length = 8 := by rw [List.length_take, List.length_drop]; omega
  have hle : ∀ m ∈ ((b.drop 2).take 8).take (field b 1 1), m.toNat ≤ 47 := by
    intro m hm
    have := List.any_eq_false.1 hrange m hm
    simpa using this
  refine ⟨show 1 ≤ field b 1 1 by omega, show field b 1 1 ≤ 8 by omega, filterMap_portOf_nodup hdup, ?_⟩
  show (List.filterMap _ (((b.drop 2).take 8).take (field b 1 1))).length = field b 1 1
  rw [filterMap_portOf_length hle, List.length_take, hlen]
  omega

theorem readProfile_valid (b : List Byte) : (readProfile b).valid :=
  ⟨field_lt b 0 2, field_lt b 2 2, bits_lt _ 2 0, field_lt b 12 3⟩

theorem readSchedule_length {b : List Byte} (h : 64 ≤ b.length) : (readSchedule b).length = 64 := by
  rw [readSchedule, List.length_map, List.length_take]
  omega

theorem readTariffs_valid (b : List Byte) : validTariffs (readTariffs b) := by
  refine ⟨by simp [readTariffs], fun x hx => ?_⟩
  obtain ⟨i, _, rfl⟩ := List.mem_map.1 hx
  exact field_lt b (2 * i) 2

theorem readTenant_valid (b : List Byte) : (readTenant b).valid :=
  ⟨bits_lt _ 19 0, bits_lt _ 26 0, bits_lt _ 16 0, min_le_right _ _, bits_lt _ 1 0, bits_lt _ 5 4⟩

theorem readList_valid {b : List Byte} (hr : listReasons b = []) : (readList b).valid := by
  rw [listReasons, reasonsOf_eq_nil] at hr
  simp only [List.forall_mem_cons, decide_eq_false_iff_not, not_lt] at hr
  obtain ⟨hcount, hrange, _⟩ := hr
  refine ⟨hcount, fun x hx => ?_⟩
  simpa using List.any_eq_false.1 hrange x hx

theorem portOf_val (p : Port) : portOf p = some p := portOf_eq_some.2 rfl

/-! ## Power-on -/

theorem GroupEntry.powerOn_valid (g : Nat) : (GroupEntry.powerOn g).valid := by
  have hp := GroupEntry.powerOn_ports g
  have hlen : (GroupEntry.powerOn g).ports.length = 1 := by
    have := congrArg List.length hp
    simpa using this
  refine ⟨le_rfl, show 1 ≤ 8 by decide, ?_, hlen⟩
  obtain ⟨p, e⟩ := List.length_eq_one_iff.1 hlen
  rw [e]
  exact List.nodup_singleton p

theorem Installed.powerOn_valid : Installed.powerOn.Valid where
  globalEntry := show GlobalEntry.powerOn.valid by unfold GlobalEntry.valid GlobalEntry.powerOn; decide
  ports _ := show PortEntry.powerOn.valid by unfold PortEntry.valid PortEntry.powerOn; decide
  groups g := GroupEntry.powerOn_valid g
  queueProfiles _ _ := show QueueProfile.powerOn.valid by unfold QueueProfile.valid QueueProfile.powerOn; decide
  schedules _ _ := List.length_replicate
  tariffs _ _ := ⟨List.length_replicate, fun x hx => (List.eq_of_mem_replicate hx) ▸ by decide⟩
  tenants _ := show TenantEntry.powerOn.valid by unfold TenantEntry.valid TenantEntry.powerOn; decide
  lists _ := show RepList.powerOn.valid from ⟨by decide, fun _ hx => nomatch hx⟩

/-! ## Every install keeps the law -/

/-- An accepted entry replaces its index alone, so the law of its table needs only the entry read. -/
theorem getD_setD_of {α : Type} [DecidableEq α] {P : α → Prop} {m : Table α} {j : Nat} {v d : α} (k : Nat) (d' : α)
    (hd : j = k → d' = d) (hv : P v) (hm : P (m.getD k d')) : P ((m.setD j v d).getD k d') := by
  by_cases h : k = j
  · subst h
    rw [hd rfl, Table.getD_setD_self]
    exact hv
  · rw [Table.getD_setD_ne _ _ _ _ h]
    exact hm

theorem State.installCopy_valid {s : State} {table i : Nat} {b : List Byte} (ht : table ≤ 8) (hr : entryReasons table b = [])
    (hl : table = 2 ∨ table = 4 → 64 ≤ b.length) (hs : s.tables.Valid) : (s.installCopy table i b).tables.Valid := by
  match table with
  | 0 => exact { hs with globalEntry := readGlobal_valid b }
  | 1 =>
    unfold State.installCopy
    cases portOf i with
    | none => exact hs
    | some p => exact { hs with ports := fun q => getD_setD_of q _ (fun _ => rfl) (readPort_valid b) (hs.ports q) }
  | 2 =>
    unfold State.installCopy
    cases groupOf i with
    | none => exact hs
    | some g =>
      exact { hs with
        groups := fun h => getD_setD_of h _ (fun e => by rw [e]) (readGroup_valid hr (hl (.inl rfl))) (hs.groups h) }
  | 3 =>
    exact { hs with
      queueProfiles := fun k hk => getD_setD_of k _ (fun _ => rfl) (readProfile_valid b) (hs.queueProfiles k hk) }
  | 4 =>
    exact { hs with
      schedules := fun k hk => getD_setD_of (P := fun l : List Phase => l.length = 64) k _ (fun _ => rfl)
        (readSchedule_length (hl (.inr rfl))) (hs.schedules k hk) }
  | 5 =>
    exact { hs with tariffs := fun k hk => getD_setD_of k _ (fun _ => rfl) (readTariffs_valid b) (hs.tariffs k hk) }
  | 6 =>
    unfold State.installCopy State.install
    dsimp only
    cases tenantOf i with
    | none => exact hs
    | some n => exact { hs with tenants := fun m => getD_setD_of m _ (fun _ => rfl) (readTenant_valid b) (hs.tenants m) }
  | 7 => exact { hs with }
  | 8 => exact { hs with lists := fun l => getD_setD_of l _ (fun _ => rfl) (readList_valid hr) (hs.lists l) }
  | n + 9 => omega

/-- The tables change at an install of an accepted entry and nowhere else. -/
theorem Act.tables_cases {ok : Special → Prop} {s t : State} (h : Act ok s t) :
    t.tables = s.tables ∨ ∃ table i b, table ≤ 8 ∧ entryReasons table b = [] ∧ (table = 2 ∨ table = 4 → 64 ≤ b.length) ∧
      t = s.installCopy table i b := by
  cases h
  case installCopy table i b _ ht hr hl => exact .inr ⟨table, i, b, ht, hr, hl, rfl⟩
  case ask => exact .inl (State.ask_tables ..)
  case startBlocks => exact .inl (by rw [State.startBlocks_eq])
  all_goals exact .inl rfl

theorem closed_installedValid : Closed fun s => s.tables.Valid where
  act _ _ _ h hs := by
    rcases h.tables_cases with e | ⟨table, i, b, ht, hr, hl, rfl⟩
    · rw [e]; exact hs
    · exact State.installCopy_valid ht hr hl hs
  finish _ h := h
  powerOn _ _ _ := Installed.powerOn_valid
  tick _ h := h
  pending _ _ h := h

/-! ## Tokens -/

theorem tokens_congr {s t : State} (hm : t.admission.meters = s.admission.meters) (ht : t.tables.tenants = s.tables.tenants)
    (hs : s.tokensOk) : t.tokensOk := by
  intro n
  have h1 : t.meter n = s.meter n := by unfold State.meter; rw [hm]
  have h2 : t.tenantEntry n = s.tenantEntry n := by unfold State.tenantEntry; rw [ht]
  rw [h1, h2]
  exact hs n

/-- A tenant entry's install clamps the tokens to the new depth (R78). -/
theorem State.installTenant_tokensOk {s : State} (n : Tenant) (b : List Byte) (hs : s.tokensOk) :
    (s.installTenant n b).tokensOk := by
  intro m
  unfold State.installTenant
  dsimp only
  rw [State.setMeter_meter]
  by_cases hm : m = n
  · subst hm
    rw [if_pos rfl]
    show min _ _ ≤ (Table.getD (Table.setD s.tables.tenants m (readTenant b) TenantEntry.powerOn) m TenantEntry.powerOn).depth
    rw [Table.getD_setD_self]
    exact min_le_right _ _
  · rw [if_neg hm]
    show (s.meter m).tokens ≤ (Table.getD (Table.setD s.tables.tenants n (readTenant b) TenantEntry.powerOn) m TenantEntry.powerOn).depth
    rw [Table.getD_setD_ne _ _ _ _ (fun e => hm (Fin.ext e))]
    exact hs m

theorem State.installCopy_tokensOk {s : State} (table i : Nat) (b : List Byte) (hs : s.tokensOk) :
    (s.installCopy table i b).tokensOk := by
  match table with
  | 0 => exact hs
  | 1 => unfold State.installCopy; cases portOf i <;> exact hs
  | 2 => unfold State.installCopy; cases groupOf i <;> exact hs
  | 3 => exact hs
  | 4 => exact hs
  | 5 => exact hs
  | 6 =>
    unfold State.installCopy State.install
    dsimp only
    cases tenantOf i with
    | none => exact hs
    | some n => exact State.installTenant_tokensOk n b hs
  | 7 => exact hs
  | n + 8 => exact hs

theorem closed_tokensOk : Closed State.tokensOk where
  act _ s t h hs := by
    cases h
    case setMeter n v hv =>
      intro m
      rw [State.setMeter_meter]
      split
      · subst_vars
        exact hv.elim id fun h => h.trans (hs m)
      · exact hs m
    case installCopy table i b _ _ _ _ => exact State.installCopy_tokensOk table i b hs
    case ask k a b c => exact tokens_congr (by rw [State.ask_admission]) (by rw [State.ask_tables]) hs
    case startBlocks => rw [State.startBlocks_eq]; exact hs
    all_goals exact hs
  finish _ h := h
  powerOn _ _ _ := fun _ => Nat.zero_le _
  tick _ h := h
  pending _ _ h := h

/-- Settles O7: validation lets no other entry into a table, and every write of a meter stays within the depth. -/
theorem installedEntriesAndTokensKept : Obligations.InstalledEntriesAndTokensKept := fun s t h =>
  ⟨fun hs => (State.installedOk_iff t).2 (closed_installedValid.step h ((State.installedOk_iff s).1 hs)),
    closed_tokensOk.step h⟩

end Sys2Proof.Machine
end

section
/-! Counter widths, the learned law and the rising order of every sparse table (O9, O10); the bounds of the flush queue, the
work list and the hold pool. -/
namespace Sys2Proof.Machine

/-! ## Counters and learned counts -/

theorem State.countersOk_iff (s : State) :
    s.countersOk ↔ ∀ k, (s.acct.records.getD k TenantRecord.zero).inWidth :=
  ⟨fun h k => by simpa [State.tenantRecord] using h 0 k, fun h _ _ => h _⟩

theorem Act.acct_counts {ok : Special → Prop} {s t : State} (h : Act ok s t) : s.acct.Counts t.acct := by
  cases h
  case acct v hv => exact hv
  case ask k a b c => rw [State.ask_acct]; exact .refl _
  case installCopy => rw [State.installCopy_eq]; exact .refl _
  case startBlocks => rw [State.startBlocks_eq]; exact ⟨id, id, id⟩
  all_goals exact .refl _

theorem Act.lookup_moves {ok : Special → Prop} {s t : State} (h : Act ok s t) : s.lookup.Moves t.lookup := by
  cases h
  case lookup v hv => exact hv
  case ask k a b c => rw [State.ask_lookup]; exact .refl _
  case installCopy => rw [State.installCopy_eq]; exact .refl _
  case startBlocks => rw [State.startBlocks_eq]; exact .of_eq rfl rfl rfl
  all_goals exact .refl _

theorem closed_counters : Closed fun s => ∀ k, (s.acct.records.getD k TenantRecord.zero).inWidth where
  act _ _ _ h := h.acct_counts.inWidth
  finish _ h := h
  powerOn _ _ _ := fun _ => Run.inWidth_zero
  tick _ h := h
  pending _ _ h := h

theorem LookupUnit.powerOn_lawful : LookupUnit.powerOn.lawful := ⟨rfl, fun _ => rfl⟩

theorem closed_lawful : Closed fun s => s.lookup.lawful where
  act _ _ _ h := h.lookup_moves.lawful
  finish _ h := h
  powerOn _ _ _ := LookupUnit.powerOn_lawful
  tick _ h := h
  pending _ _ h := h

/-- Settles O9: counters grow by saturating adds, and every effect on the station table keeps the learned counts. -/
theorem countersWithinWidthKept : Obligations.CountersWithinWidthKept := fun s t h =>
  ⟨fun hs => (State.countersOk_iff t).2 (closed_counters.step h ((State.countersOk_iff s).1 hs)), closed_lawful.step h⟩

/-! ## The rising order -/

/-- The rising order of every installed table. -/
structure Installed.Sorted (t : Installed) : Prop where
  ports : Table.sorted t.ports = true
  groups : Table.sorted t.groups = true
  queueProfiles : Table.sorted t.queueProfiles = true
  schedules : Table.sorted t.schedules = true
  tariffs : Table.sorted t.tariffs = true
  tenants : Table.sorted t.tenants = true
  segments : Table.sorted t.segments = true
  lists : Table.sorted t.lists = true

/-- `State.canonical`, its clauses named. -/
structure Canonical (s : State) : Prop where
  tables : s.tables.Sorted
  args : Table.sorted s.path.args = true
  staging : stagedSorted s.path.staging
  cellPorts : Table.sorted s.cells.ports = true
  frames : Table.sorted s.cells.frames = true
  copies : Table.sorted s.cells.copies = true
  links : Table.sorted s.cells.links = true
  intake : Table.sorted s.intake = true
  stations : Table.sorted s.lookup.stations = true
  learned : Table.sorted s.lookup.learned = true
  meters : Table.sorted s.admission.meters = true
  held : Table.sorted s.admission.held = true
  queues : Table.sorted s.queues.queues = true
  egress : Table.sorted s.queues.ports = true
  ring : ∀ p : Port, Table.sorted (s.egressPort p).slots = true
  live : Table.sorted s.live.ports = true
  groupStates : Table.sorted s.failover.groupStates = true
  hold : Table.sorted s.failover.hold = true
  drained : Table.sorted s.failover.drained = true
  records : Table.sorted s.acct.records = true
  drops : ∀ e ∈ s.acct.records, Table.sorted e.2.drops = true
  slots : Table.sorted s.slots = true

theorem State.canonical_iff (s : State) : s.canonical ↔ Canonical s := by
  constructor
  · rintro ⟨⟨t1, t2, t3, t4, t5, t6, t7, t8⟩, ⟨h1, h2⟩, ⟨h3, h4, h5, h6, h7⟩, ⟨h8, h9, h10, h11⟩, ⟨h12, h13, h14, h15⟩,
      ⟨h16, h17, h18⟩, h19, h20, h21⟩
    exact ⟨⟨t1, t2, t3, t4, t5, t6, t7, t8⟩, h1, h2, h3, h4, h5, h6, h7, h8, h9, h10, h11, h12, h13, h14, h15, h16, h17,
      h18, h19, h20, h21⟩
  · rintro ⟨⟨t1, t2, t3, t4, t5, t6, t7, t8⟩, h1, h2, h3, h4, h5, h6, h7, h8, h9, h10, h11, h12, h13, h14, h15, h16, h17,
      h18, h19, h20, h21⟩
    exact ⟨⟨t1, t2, t3, t4, t5, t6, t7, t8⟩, ⟨h1, h2⟩, ⟨h3, h4, h5, h6, h7⟩, ⟨h8, h9, h10, h11⟩, ⟨h12, h13, h14, h15⟩,
      ⟨h16, h17, h18⟩, h19, h20, h21⟩

theorem Table.sorted_foldl_erase {α : Type} (l : List Nat) (m : Table α) (h : Table.sorted m = true) :
    Table.sorted (l.foldl (fun m c => m.erase c) m) = true := by
  induction l generalizing m with
  | nil => exact h
  | cons c l ih => exact ih _ (Table.sorted_erase _ _ h)

theorem State.installCopy_sorted (s : State) (table i : Nat) (b : List Byte) (hs : s.tables.Sorted) :
    (s.installCopy table i b).tables.Sorted := by
  match table with
  | 0 => exact { hs with }
  | 1 =>
    unfold State.installCopy
    cases portOf i with
    | none => exact hs
    | some p => exact { hs with ports := Table.sorted_setD _ _ _ _ hs.ports }
  | 2 =>
    unfold State.installCopy
    cases groupOf i with
    | none => exact hs
    | some g => exact { hs with groups := Table.sorted_setD _ _ _ _ hs.groups }
  | 3 => exact { hs with queueProfiles := Table.sorted_setD _ _ _ _ hs.queueProfiles }
  | 4 => exact { hs with schedules := Table.sorted_setD _ _ _ _ hs.schedules }
  | 5 => exact { hs with tariffs := Table.sorted_setD _ _ _ _ hs.tariffs }
  | 6 =>
    unfold State.installCopy State.install
    dsimp only
    cases tenantOf i with
    | none => exact hs
    | some n => exact { hs with tenants := Table.sorted_setD _ _ _ _ hs.tenants }
  | 7 => exact { hs with segments := Table.sorted_setD _ _ _ _ hs.segments }
  | n + 8 => exact { hs with lists := Table.sorted_setD _ _ _ _ hs.lists }

/-- An install leaves the meters alone, but for the clamp of one tenant's. -/
theorem State.installCopy_admission (s : State) (table i : Nat) (b : List Byte) :
    (s.installCopy table i b).admission = s.admission ∨
      ∃ n v, (s.installCopy table i b).admission =
        { s.admission with meters := s.admission.meters.setD n v ⟨0, 0⟩ } := by
  match table with
  | 0 => exact .inl rfl
  | 1 => unfold State.installCopy; cases portOf i <;> exact .inl rfl
  | 2 => unfold State.installCopy; cases groupOf i <;> exact .inl rfl
  | 3 => exact .inl rfl
  | 4 => exact .inl rfl
  | 5 => exact .inl rfl
  | 6 =>
    unfold State.installCopy State.install
    dsimp only
    cases tenantOf i with
    | none => exact .inl rfl
    | some n => exact .inr ⟨n, _, rfl⟩
  | 7 => exact .inl rfl
  | _ + 8 => exact .inl rfl

/-! ### START's restarts -/

theorem State.startCells_sorted {s : State} (hs : Table.sorted s.cells.ports = true) :
    Table.sorted s.startCells.cells.ports = true := by
  suffices key : ∀ (l : List Port) (u : State), Table.sorted u.cells.ports = true →
      Table.sorted (l.foldl (fun s p => s.setCellPort p { s.cellPort p with pos := 0, lap := true }) u).cells.ports = true
    from key _ _ hs
  intro l
  induction l with
  | nil => exact fun _ h => h
  | cons p l ih => exact fun u h => ih _ (Table.sorted_setD _ _ _ _ h)

theorem State.startEgress_sorted {s : State} (hs : Table.sorted s.queues.ports = true) :
    Table.sorted s.startEgress.queues.ports = true := by
  unfold State.startEgress
  generalize allPorts = l
  induction l generalizing s with
  | nil => exact hs
  | cons p l ih => exact ih (Table.sorted_setD _ _ _ _ hs)

theorem State.startLive_sorted {s : State} (hs : Table.sorted s.live.ports = true) :
    Table.sorted s.startLive.live.ports = true := by
  unfold State.startLive
  generalize allPorts = l
  induction l generalizing s with
  | nil => exact hs
  | cons p l ih => exact ih (Table.sorted_setD _ _ _ _ hs)

/-- START's first step restarts the lists and the rings of the cell manager; the other tables stand. -/
theorem State.startCells_cells (s : State) :
    s.startCells.cells =
      { s.cells with
        freeList := [(0, Config.cells)], freeCopies := [(0, Config.copies)], ports := s.startCells.cells.ports } := by
  suffices key : ∀ (l : List Port) (u : State),
      (l.foldl (fun s p => s.setCellPort p { s.cellPort p with pos := 0, lap := true }) u).cells =
        { u.cells with
          ports := (l.foldl (fun s p => s.setCellPort p { s.cellPort p with pos := 0, lap := true }) u).cells.ports } from
    key _ _
  intro l
  induction l with
  | nil => exact fun _ => rfl
  | cons p l ih => exact fun u => ih _

theorem State.startEgress_queues (s : State) : s.startEgress.queues = { s.queues with ports := s.startEgress.queues.ports } := by
  unfold State.startEgress
  generalize allPorts = l
  induction l generalizing s with
  | nil => rfl
  | cons p l ih => exact ih _

theorem Canonical.startBlocks {s : State} (hs : Canonical s) : Canonical s.startBlocks := by
  have hring : ∀ p : Port, Table.sorted (s.startBlocks.egressPort p).slots = true := fun p => by
    rw [State.startBlocks_egressPort]; rfl
  have hcells := State.startCells_sorted hs.cellPorts
  have hegress : Table.sorted s.startCells.startIntake.startEgress.queues.ports = true :=
    State.startEgress_sorted (by rw [State.startIntake_queues, State.startCells_queues]; exact hs.egress)
  have hqueues : Table.sorted s.startCells.startIntake.startEgress.queues.queues = true := by
    rw [State.startEgress_queues, State.startIntake_queues, State.startCells_queues]; exact hs.queues
  have hlive : Table.sorted s.startCells.startIntake.startEgress.startLive.live.ports = true :=
    State.startLive_sorted (by
      rw [State.startEgress_live, State.startIntake_live, State.startCells_live]; exact hs.live)
  have hframes : Table.sorted s.startCells.cells.frames = true := by rw [State.startCells_cells]; exact hs.frames
  have hcopies : Table.sorted s.startCells.cells.copies = true := by rw [State.startCells_cells]; exact hs.copies
  have hlinks : Table.sorted s.startCells.cells.links = true := by rw [State.startCells_cells]; exact hs.links
  rw [State.startBlocks_eq] at hring ⊢
  generalize s.startCells.startIntake.startEgress.startLive.live.ports = live at *
  generalize s.startCells.startIntake.startEgress.queues = queues at *
  generalize s.startCells.cells = cells at *
  exact { hs with
    cellPorts := hcells, frames := hframes, copies := hcopies, links := hlinks, intake := rfl, queues := hqueues,
    egress := hegress, ring := hring, live := hlive }

/-! ### Every effect -/

theorem Canonical.setEgressPort {s : State} (hs : Canonical s) {p : Port} {v : EgressPort}
    (hv : (s.egressPort p).Turns v) : Canonical (s.setEgressPort p v) :=
  { hs with
    egress := Table.sorted_setD _ _ _ _ hs.egress
    ring := fun q => by
      rw [State.setEgressPort_egressPort]
      split; exacts [hv.slots (hs.ring p), hs.ring q] }

theorem Canonical.ask {s : State} (hs : Canonical s) (k : NoticeKind) (a b c : Nat) : Canonical (s.ask k a b c) := by
  rw [State.ask_eq]; exact { hs with }

theorem Canonical.installCopy {s : State} (hs : Canonical s) (table i : Nat) (b : List Byte) :
    Canonical (s.installCopy table i b) := by
  have ht := State.installCopy_sorted s table i b hs.tables
  rw [State.installCopy_eq]
  rcases State.installCopy_admission s table i b with e | ⟨n, v, e⟩
  · rw [e]; exact { hs with tables := ht }
  · rw [e]; exact { hs with tables := ht, meters := Table.sorted_setD _ _ _ _ hs.meters }

theorem Act.canonical {ok : Special → Prop} {s t : State} (h : Act ok s t) (hs : Canonical s) : Canonical t := by
  cases h
  case issueCells p n _ => exact { hs with cellPorts := Table.sorted_setD _ _ _ _ hs.cellPorts }
  case resetCells p =>
    exact { hs with cellPorts := Table.sorted_setD s.cells.ports p CellPort.powerOn CellPort.powerOn hs.cellPorts }
  case claim p n _ => exact { hs with cellPorts := Table.sorted_setD _ _ _ _ hs.cellPorts }
  case freeFrame n f _ =>
    exact { hs with
      frames := Table.sorted_erase _ _ hs.frames, links := Table.sorted_foldl_erase _ _ hs.links,
      held := Table.sorted_setD _ _ _ _ hs.held }
  case freeCells l _ => exact { hs with links := Table.sorted_foldl_erase _ _ hs.links }
  case setFrame n f v _ _ => exact { hs with frames := Table.sorted_put _ _ _ hs.frames }
  case newFrame n v _ => exact { hs with frames := Table.sorted_put _ _ _ hs.frames }
  case setCopy n v => exact { hs with copies := Table.sorted_put _ _ _ hs.copies }
  case releaseRecord n => exact { hs with copies := Table.sorted_erase _ _ hs.copies }
  case takeRecord => exact { hs with }
  case link c v _ => exact { hs with links := Table.sorted_put _ _ _ hs.links }
  case stageIngress p g => exact { hs with intake := Table.sorted_setD _ _ _ _ hs.intake }
  case advanceIntake p => exact { hs with intake := Table.sorted_setD _ _ _ _ hs.intake }
  case resetIntake p =>
    exact { hs with intake := Table.sorted_setD s.intake p IntakePort.powerOn IntakePort.powerOn hs.intake }
  case setMeter n v _ => exact { hs with meters := Table.sorted_setD _ _ _ _ hs.meters }
  case setHeldCells n v => exact { hs with held := Table.sorted_setD _ _ _ _ hs.held }
  case acct v hv => exact { hs with records := hv.sorted hs.records, drops := hv.drops hs.drops }
  case setQueue p c q => exact { hs with queues := Table.sorted_setD _ _ _ _ hs.queues }
  case setEgressPort p v hv _ => exact hs.setEgressPort hv
  case setLivePort p v => exact { hs with live := Table.sorted_setD _ _ _ _ hs.live }
  case setGroupState g v => exact { hs with groupStates := Table.sorted_setD _ _ _ _ hs.groupStates }
  case addHeld g n _ => exact { hs with hold := Table.sorted_setD _ _ _ _ hs.hold }
  case clearHeld g => exact { hs with hold := Table.sorted_setD s.failover.hold g [] [] hs.hold }
  case setDrained p v => exact { hs with drained := Table.sorted_setD _ _ _ _ hs.drained }
  case lookup v hv => exact { hs with stations := hv.stations hs.stations, learned := hv.learned hs.learned }
  case ask k a b c => exact hs.ask k a b c
  case setSlot k v => exact { hs with slots := Table.sorted_setD _ _ _ _ hs.slots }
  case setArgs k v => exact { hs with args := Table.sorted_setD _ _ _ _ hs.args }
  case setStaging v _ hv => exact { hs with staging := hv hs.staging }
  case installCopy table i b _ _ _ _ => exact hs.installCopy table i b
  case startBlocks => exact hs.startBlocks
  all_goals exact { hs with }

theorem Canonical.reset : Canonical State.reset where
  tables := ⟨rfl, rfl, rfl, rfl, rfl, rfl, rfl, rfl⟩
  args := rfl
  staging _ h := nomatch h
  cellPorts := rfl
  frames := rfl
  copies := rfl
  links := rfl
  intake := rfl
  stations := rfl
  learned := rfl
  meters := rfl
  held := rfl
  queues := rfl
  egress := rfl
  ring _ := rfl
  live := rfl
  groupStates := rfl
  hold := rfl
  drained := rfl
  records := rfl
  drops _ h := nomatch h
  slots := rfl

theorem closed_canonical : Closed Canonical where
  act _ _ _ h hs := h.canonical hs
  finish _ h := { h with }
  powerOn _ _ _ := { Canonical.reset with }
  tick _ h := { h with }
  pending _ _ h := { h with }

/-- Settles O10: every write of a sparse table keeps its numbers rising. -/
theorem canonicalFormKept : Obligations.CanonicalFormKept := fun s t h hs =>
  (State.canonical_iff t).2 (closed_canonical.step h ((State.canonical_iff s).1 hs))

/-! ## The flush queue, the work list and the hold pool -/

theorem Act.work_nodup {ok : Special → Prop} {s t : State} (h : Act ok s t) (hs : s.failover.work.Nodup) :
    t.failover.work.Nodup := by
  cases h
  case setWork l hl => exact hl hs
  case ask k a b c => rw [State.ask_failover]; exact hs
  case installCopy => rw [State.installCopy_eq]; exact hs
  case startBlocks => rw [State.startBlocks_eq]; exact hs
  all_goals exact hs

theorem closed_listsOk : Closed State.listsOk where
  act _ _ _ h hs := by
    obtain ⟨hl, hn, hw⟩ := hs
    obtain ⟨hl', hn'⟩ := h.lookup_moves.queueOk ⟨hl, hn⟩
    exact ⟨hl', hn', h.work_nodup hw⟩
  finish _ h := h
  powerOn _ _ _ := show State.reset.listsOk from ⟨Nat.zero_le _, List.nodup_nil, List.nodup_nil⟩
  tick _ h := h
  pending _ _ h := h

/-- How many copies a hold table lists. -/
def holdSize (m : Table (List Nat)) : Nat := (m.map fun e => e.2.length).sum

theorem holdSize_perm {l m : Table (List Nat)} (h : l.Perm m) : holdSize l = holdSize m := (h.map _).sum_eq

/-- The pool lists what stands under `k`, and what stands elsewhere. -/
theorem holdSize_eq {m : Table (List Nat)} (h : Table.sorted m = true) (k : Nat) :
    holdSize m = (m.getD k []).length + holdSize (m.erase k) := by
  unfold Table.getD
  cases hf : m.find k with
  | none => rw [Table.erase_of_find_none hf]; simp
  | some l => rw [holdSize_perm (Table.perm_of_find h hf)]; rfl

theorem holdSize_setD {m : Table (List Nat)} (h : Table.sorted m = true) (k : Nat) (l : List Nat) :
    holdSize (m.setD k l []) = l.length + holdSize (m.erase k) := by
  unfold Table.setD
  split
  · subst_vars; simp
  · rw [holdSize_perm (Table.put_perm h k l)]; rfl

theorem closed_holdOk : Closed State.holdOk where
  act _ s t h hs := by
    obtain ⟨hso, hroom⟩ := hs
    cases h
    case addHeld g n hn =>
      refine ⟨Table.sorted_setD _ _ _ _ hso, ?_⟩
      have h1 := holdSize_eq hso g
      have h2 : holdSize s.failover.hold < 4096 := hn
      show holdSize (s.failover.hold.setD g (s.failover.hold.getD g [] ++ [n]) []) ≤ 4096
      rw [holdSize_setD hso, List.length_append, List.length_singleton]
      omega
    case clearHeld g =>
      refine ⟨Table.sorted_setD s.failover.hold g [] [] hso, ?_⟩
      have h1 := holdSize_eq hso g
      have h2 : holdSize s.failover.hold ≤ 4096 := hroom
      show holdSize (s.failover.hold.setD g [] []) ≤ 4096
      rw [holdSize_setD hso, List.length_nil]
      omega
    case ask k a b c => unfold State.holdOk State.holdCount; rw [State.ask_failover]; exact ⟨hso, hroom⟩
    case installCopy => rw [State.installCopy_eq]; exact ⟨hso, hroom⟩
    case startBlocks => rw [State.startBlocks_eq]; exact ⟨hso, hroom⟩
    all_goals exact ⟨hso, hroom⟩
  finish _ h := h
  powerOn _ _ _ := show State.reset.holdOk from ⟨rfl, Nat.zero_le _⟩
  tick _ h := h
  pending _ _ h := h

end Sys2Proof.Machine
end

section
/-! The machine after power-on meets the invariants (O5). -/
namespace Sys2Proof.Machine

/-- One run from 0 is the ascending order. -/
theorem Runs.toList_initial (n : Nat) : Runs.toList [(0, n)] = List.range n := by
  rw [List.range_eq_range']
  exact List.append_nil _

theorem flatMap_nil_of {α β : Type} (l : List α) {f : α → List β} (h : ∀ a, f a = []) : l.flatMap f = [] :=
  List.flatMap_eq_nil_iff.2 fun a _ => h a

theorem State.reset_cellsIssued : State.reset.cellsIssued = [] := flatMap_nil_of _ fun _ => rfl

theorem State.reset_placedTags : State.reset.placedTags = [] :=
  List.append_eq_nil_iff.2
    ⟨flatMap_nil_of _ fun _ => rfl, List.append_eq_nil_iff.2 ⟨flatMap_nil_of _ fun _ => rfl, flatMap_nil_of _ fun _ => rfl⟩⟩

theorem State.reset_cellLaw : State.reset.cellLaw := by
  refine ⟨?cells, nofun, fun c => ⟨nofun, nofun⟩, rfl, rfl, fun _ => ⟨rfl, State.reset_cellsIssued⟩⟩
  rw [State.reset_cellsIssued]
  exact .of_eq ((List.append_nil _).trans (Runs.toList_initial 65536))

theorem State.reset_copyLaw : State.reset.copyLaw := by
  refine ⟨.of_eq ((List.append_nil _).trans (Runs.toList_initial 131072)), .of_eq State.reset_placedTags, nofun, nofun,
    nofun, rfl, fun _ => rfl, fun _ => rfl⟩

theorem State.reset_portLaw : State.reset.portLaw := ⟨rfl, nofun, nofun⟩

/-- Settles O5: each invariant at the power-on contents. -/
theorem resetMeetsInvariants : Obligations.ResetMeetsInvariants :=
  ⟨⟨rfl, rfl, rfl⟩, Nat.zero_le _, ⟨by decide, by decide⟩, State.reset_positionsOk,
    (State.installedOk_iff State.reset).2 Installed.powerOn_valid, fun _ => Nat.zero_le _,
    ⟨Nat.zero_le _, List.nodup_nil, List.nodup_nil⟩, ⟨rfl, Nat.zero_le _⟩,
    (State.countersOk_iff State.reset).2 fun _ => Run.inWidth_zero,
    (State.canonical_iff State.reset).2 Canonical.reset, State.reset_cellLaw, State.reset_copyLaw, State.reset_portLaw,
    LookupUnit.powerOn_lawful⟩

end Sys2Proof.Machine
end

section
/-! What an action sends and what its reports and refill runs read (R6, R80, R166, R175): two states that agree on it stay in
step under the same notices, reports and refill runs, whatever else differs between them. -/
namespace Sys2Proof.Machine

/-! ## Notices asked for one after another -/

/-- Notices change the notice writer and gather at most notices. -/
theorem State.noticed_eq (s : State) (l : List NoticeAsk) :
    s.noticed l =
      { s with notices := (s.noticed l).notices, bus := { s.bus with notices := (s.noticed l).bus.notices } } := by
  induction l generalizing s with
  | nil => rfl
  | cons n l ih => rw [State.noticed_cons, ih, State.ask_eq]

/-! ## Agreement -/

/-- `v` agrees with `u` on all that notices, reports of the free count and refill runs read and write, but that `v` had
gathered the writes `own` before. -/
structure Follows (own : List BusWrite) (u v : State) : Prop where
  winbase : v.path.winbase = u.path.winbase
  mode : v.path.mode = u.path.mode
  tables : v.tables = u.tables
  timebase : v.live.timebase = u.live.timebase
  freeList : v.cells.freeList = u.cells.freeList
  ports : v.cells.ports = u.cells.ports
  shed : v.admission.shed = u.admission.shed
  notices : v.notices = u.notices
  told : v.bus.notices = u.bus.notices
  writes : v.bus.writes = u.bus.writes ++ own
  statuses : v.bus.statuses = u.bus.statuses

/-- `v` agrees with `u` on it outright. -/
abbrev Agrees (u v : State) : Prop := Follows [] u v

theorem Agrees.refl (s : State) : Agrees s s := ⟨rfl, rfl, rfl, rfl, rfl, rfl, rfl, rfl, rfl, (List.append_nil _).symm, rfl⟩

/-- Agreement of two states whose parts in question are the same by definition. -/
theorem Agrees.of_eq {u v : State} (h1 : v.path.winbase = u.path.winbase) (h2 : v.path.mode = u.path.mode)
    (h3 : v.tables = u.tables) (h4 : v.live.timebase = u.live.timebase) (h5 : v.cells.freeList = u.cells.freeList)
    (h6 : v.cells.ports = u.cells.ports) (h7 : v.admission.shed = u.admission.shed) (h8 : v.notices = u.notices)
    (h9 : v.bus = u.bus) : Agrees u v :=
  ⟨h1, h2, h3, h4, h5, h6, h7, h8, by rw [h9], by rw [h9, List.append_nil], by rw [h9]⟩

namespace Follows

variable {own : List BusWrite} {u v w : State}

theorem agrees (h : Follows own u v) (k : Agrees v w) : Follows own u w :=
  ⟨k.winbase.trans h.winbase, k.mode.trans h.mode, k.tables.trans h.tables, k.timebase.trans h.timebase,
    k.freeList.trans h.freeList, k.ports.trans h.ports, k.shed.trans h.shed, k.notices.trans h.notices, k.told.trans h.told,
    by rw [k.writes, h.writes, List.append_nil], k.statuses.trans h.statuses⟩

theorem agrees_left (h : Agrees u v) (k : Follows own v w) : Follows own u w :=
  ⟨k.winbase.trans h.winbase, k.mode.trans h.mode, k.tables.trans h.tables, k.timebase.trans h.timebase,
    k.freeList.trans h.freeList, k.ports.trans h.ports, k.shed.trans h.shed, k.notices.trans h.notices, k.told.trans h.told,
    by rw [k.writes, h.writes, List.append_nil], k.statuses.trans h.statuses⟩

theorem symm (h : Agrees u v) : Agrees v u :=
  ⟨h.winbase.symm, h.mode.symm, h.tables.symm, h.timebase.symm, h.freeList.symm, h.ports.symm, h.shed.symm,
    h.notices.symm, h.told.symm, by rw [h.writes]; simp, h.statuses.symm⟩

/-! ### Under the same operation -/

theorem ownWrite (h : Follows own u v) (off : Nat) (b : List Byte) : v.ownWrite off b = u.ownWrite off b := by
  unfold State.ownWrite State.windowAddr; rw [h.winbase]

theorem freeCount (h : Follows own u v) : v.freeCount = u.freeCount := by unfold State.freeCount; rw [h.freeList]

theorem cellPort (h : Follows own u v) (p : Port) : v.cellPort p = u.cellPort p := by
  unfold State.cellPort; rw [h.ports]

theorem portEntry (h : Follows own u v) (p : Port) : v.portEntry p = u.portEntry p := by
  unfold State.portEntry; rw [h.tables]

theorem emit (h : Follows own u v) (off : Nat) (b : List Byte) : Follows own (u.emit off b) (v.emit off b) :=
  { h with
    writes := by
      show v.ownWrite off b :: v.bus.writes = u.ownWrite off b :: u.bus.writes ++ own
      rw [h.ownWrite, h.writes, List.cons_append] }

theorem emitStatus (h : Follows own u v) (off : Nat) (b : List Byte) :
    Follows own (u.emitStatus off b) (v.emitStatus off b) :=
  { h with
    statuses := by
      show v.ownWrite off b :: v.bus.statuses = u.ownWrite off b :: u.bus.statuses
      rw [h.ownWrite, h.statuses] }

theorem ask (h : Follows own u v) (k : NoticeKind) (a b c : Nat) : Follows own (u.ask k a b c) (v.ask k a b c) := by
  unfold State.ask
  rw [h.notices]
  split
  case isTrue => exact { h with notices := rfl }
  case isFalse =>
    exact { h with
      notices := rfl
      told := by
        show _ :: _ = _ :: _
        rw [h.ownWrite, h.told, show v.now = u.now from h.timebase] }

theorem noticed (h : Follows own u v) (l : List NoticeAsk) : Follows own (u.noticed l) (v.noticed l) := by
  induction l generalizing u v with
  | nil => exact h
  | cons n l ih => exact ih (h.ask _ _ _ _)

theorem setShed (h : Follows own u v) (l : ShedLevel) : Follows own (u.setShed l) (v.setShed l) := by
  have hset : Follows own { u with admission := { u.admission with shed := l } }
      { v with admission := { v.admission with shed := l } } :=
    { h with shed := rfl }
  unfold State.setShed
  rw [h.shed, h.freeCount]
  exact hset.ask _ _ _ _

theorem freeCellWrites (h : Follows own u v) (p : Port) (l : List Nat) (pos : Nat) (lap : Bool) :
    v.freeCellWrites p pos lap l = u.freeCellWrites p pos lap l := by
  induction l generalizing pos lap with
  | nil => rfl
  | cons c l ih => rw [State.freeCellWrites, State.freeCellWrites, ih, h.ownWrite]

theorem issueCells (h : Follows own u v) (p : Port) (n : Nat) : Follows own (u.issueCells p n) (v.issueCells p n) :=
  { h with
    freeList := by show Runs.drop n _ = Runs.drop n _; rw [h.freeList]
    ports := by
      show Table.setD _ _ _ _ = Table.setD _ _ _ _
      rw [h.cellPort, h.freeList, h.ports]
    writes := by
      show v.freeCellWrites _ _ _ _ ++ _ = (u.freeCellWrites _ _ _ _ ++ _) ++ own
      rw [h.freeCellWrites, h.cellPort, h.freeList, h.writes, List.append_assoc] }

theorem refillNeed (h : Follows own u v) (p : Port) : v.refillNeed p = u.refillNeed p := by
  unfold State.refillNeed State.issuedCount; rw [h.shed, h.portEntry, h.cellPort, h.freeCount]

theorem refillPort (h : Follows own u v) (p : Port) : Follows own (u.refillPort p) (v.refillPort p) := by
  unfold State.refillPort
  rw [h.refillNeed]
  split
  exacts [h, h.issueCells _ _]

theorem isActive (h : Follows own u v) : v.isActive = u.isActive := by unfold State.isActive; rw [h.mode]

theorem foldl {β : Type} (f : State → β → State) (hf : ∀ u v b, Follows own u v → Follows own (f u b) (f v b))
    (h : Follows own u v) (l : List β) : Follows own (l.foldl f u) (l.foldl f v) := by
  induction l generalizing u v with
  | nil => exact h
  | cons b l ih => exact ih (hf _ _ _ h)

theorem refillRun (h : Follows own u v) : Follows own u.refillRun v.refillRun := by
  unfold State.refillRun
  rw [h.isActive]
  split
  exacts [h.foldl _ (fun _ _ p k => k.refillPort p) _, h]

theorem reportFree (n : Nat) (h : Follows own u v) : Follows own (u.reportFree n) (v.reportFree n) := by
  induction n generalizing u v with
  | zero => exact h
  | succ n ih =>
    dsimp only [State.reportFree]
    rw [h.tables, h.shed, h.freeCount]
    generalize evaluateShed _ _ _ = l
    have h1 := h.setShed l
    have h2 := h1.refillRun
    rw [h1.freeCount, h2.freeCount]
    split
    · exact h
    · split
      · split
        exacts [h1, ih h2]
      · exact h1

theorem report (h : Follows own u v) : Follows own u.report v.report := h.reportFree 3

theorem refill (h : Follows own u v) : Follows own u.refill v.refill := by
  have h1 := h.refillRun
  unfold State.refill
  rw [h1.freeCount, h.freeCount]
  split
  exacts [h, h1.report]

end Follows

/-! ## Cells that return -/

/-- The state with cells at the tail of the free list, not yet reported (R8, R17). -/
def State.freed (s : State) (cells : List Nat) : State :=
  { s with cells := { s.cells with freeList := Runs.pushAll s.cells.freeList cells } }

@[simp] theorem State.freed_nil (s : State) : s.freed [] = s := rfl

theorem Runs.pushAll_append (q : Runs) (l m : List Nat) : Runs.pushAll q (l ++ m) = Runs.pushAll (Runs.pushAll q l) m :=
  List.foldl_append ..

@[simp] theorem State.freed_append (s : State) (l m : List Nat) : s.freed (l ++ m) = (s.freed l).freed m := by
  simp only [State.freed, Runs.pushAll_append]

@[simp] theorem State.freed_freeCount (s : State) (l : List Nat) : (s.freed l).freeCount = s.freeCount + l.length := by
  simp [State.freed, State.freeCount]

theorem State.settle_freed (s : State) (cells : List Nat) : (s.freed cells).settle s.freeCount = s.settled cells := by
  unfold State.settle State.settled
  cases cells with
  | nil => simp
  | cons c l => simp; rfl

namespace Follows

variable {own : List BusWrite} {u v : State}

theorem freed (h : Follows own u v) (cells : List Nat) : Follows own (u.freed cells) (v.freed cells) :=
  { h with freeList := by show Runs.pushAll _ _ = Runs.pushAll _ _; rw [h.freeList] }

theorem settle (h : Follows own u v) (before : Nat) : Follows own (u.settle before) (v.settle before) := by
  unfold State.settle
  rw [h.freeCount]
  split
  exacts [h, h.report.refill]

/-- The end of an action's frees, with the count at its beginning (R17). -/
theorem settled {cells : List Nat} (h : Follows own (u.freed cells) v) : Follows own (u.settled cells) (v.settle u.freeCount) := by
  rw [← State.settle_freed]
  exact h.settle _

theorem suppliesOf {own : List BusWrite} {base t : State} (h : Follows own base t) : t.suppliesOf base :=
  ⟨h.freeList, h.ports, h.shed⟩

end Follows

/-! ## What has been sent -/

/-- Notices, reports and refill runs send nothing and gather no status word. -/
structure Gathers (s t : State) : Prop where
  sent : t.bus.sent = s.bus.sent
  statuses : t.bus.statuses = s.bus.statuses
  winbase : t.path.winbase = s.path.winbase

namespace Gathers

variable {r s : State}

theorem refl (s : State) : Gathers s s := ⟨rfl, rfl, rfl⟩

theorem trans {t : State} (h : Gathers r s) (k : Gathers s t) : Gathers r t :=
  ⟨k.sent.trans h.sent, k.statuses.trans h.statuses, k.winbase.trans h.winbase⟩

theorem ask (h : Gathers r s) (k : NoticeKind) (a b c : Nat) : Gathers r (s.ask k a b c) :=
  h.trans ⟨by simp, by simp, by simp⟩

theorem noticed (h : Gathers r s) (l : List NoticeAsk) : Gathers r (s.noticed l) := by
  rw [State.noticed_eq]; exact ⟨h.sent, h.statuses, h.winbase⟩

theorem emit (h : Gathers r s) (off : Nat) (b : List Byte) : Gathers r (s.emit off b) :=
  h.trans ⟨rfl, rfl, rfl⟩

theorem freed (h : Gathers r s) (l : List Nat) : Gathers r (s.freed l) := h.trans ⟨rfl, rfl, rfl⟩

theorem setShed (h : Gathers r s) (l : ShedLevel) : Gathers r (s.setShed l) :=
  ask (s := { s with admission := { s.admission with shed := l } }) (h.trans ⟨rfl, rfl, rfl⟩) _ _ _ _

theorem refillPort (h : Gathers r s) (p : Port) : Gathers r (s.refillPort p) := by
  unfold State.refillPort; split; exacts [h, h.trans ⟨rfl, rfl, rfl⟩]

theorem refillRun (h : Gathers r s) : Gathers r s.refillRun := by
  unfold State.refillRun
  split
  case isTrue =>
    clear * - h
    generalize allPorts = l
    induction l generalizing s with
    | nil => exact h
    | cons p l ih => exact ih (h.refillPort p)
  case isFalse => exact h

theorem reportFree (n : Nat) (h : Gathers r s) : Gathers r (s.reportFree n) := by
  induction n generalizing s with
  | zero => exact h
  | succ n ih =>
    dsimp only [State.reportFree]
    split
    · exact h
    · split
      · split
        exacts [h.setShed _, ih (h.setShed _).refillRun]
      · exact h.setShed _

theorem report (h : Gathers r s) : Gathers r s.report := h.reportFree 3

theorem refill (h : Gathers r s) : Gathers r s.refill := by
  unfold State.refill; split; exacts [h, h.refillRun.report]

theorem settled (h : Gathers r s) (l : List Nat) : Gathers r (s.settled l) := by
  unfold State.settled; split; exacts [h, (h.freed l).report.refill]

end Gathers

/-! ## The end of an action -/

/-- What `v` has gathered in step with `base`, an action that has sent nothing yet, is sent behind `own` (R166). -/
theorem Follows.finish_delivers {s base v : State} {own : List BusWrite} (hs : s.quiet) (hb : Gathers s base)
    (hsent : v.bus.sent = s.bus.sent) (h : Follows own base v) : s.delivers v.finish base own [] := by
  refine ⟨h.notices, ?_⟩
  obtain ⟨h1, h2, h3⟩ := hs
  have hst : v.bus.statuses = [] := by rw [h.statuses, hb.statuses, h3]
  show ({ sent := v.bus.statuses ++ (v.bus.notices ++ (v.bus.writes ++ v.bus.sent)), writes := [], notices := [], statuses := [] } : Bus) = _
  rw [hst, h.told, h.writes, hsent]
  simp [State.sending, h1, h2, h3]

/-- The same with status words behind. -/
theorem Follows.finish_delivers_status {s base v : State} {own : List BusWrite} (hs : s.quiet) (hb : Gathers s base)
    (hsent : v.bus.sent = s.bus.sent) (h : Follows own base v) (off : Nat) (b : List Byte) :
    s.delivers (v.emitStatus off b).finish base own [s.ownWrite off b] := by
  refine ⟨h.notices, ?_⟩
  obtain ⟨h1, h2, h3⟩ := hs
  have hst : v.bus.statuses = [] := by rw [h.statuses, hb.statuses, h3]
  have hw : v.ownWrite off b = s.ownWrite off b := by
    rw [h.ownWrite]; unfold State.ownWrite State.windowAddr; rw [hb.winbase]
  show ({ sent := (v.ownWrite off b :: v.bus.statuses) ++ (v.bus.notices ++ (v.bus.writes ++ v.bus.sent)), writes := [], notices := [], statuses := [] } : Bus) = _
  rw [hst, hw, h.told, h.writes, hsent]
  simp [State.sending, h1, h2, h3]

/-- Notices alone are told from the notice writer's state at the start. -/
theorem State.delivers_noticed {s t : State} {own status : List BusWrite} {asks : List NoticeAsk} (hs : s.quiet)
    (h : s.delivers t (s.noticed asks) own status) : s.sends t own asks status := by
  refine ⟨h.1, h.2.trans ?_⟩
  have : (s.noticed asks).bus.writes = [] := by rw [State.noticed_eq]; exact hs.1
  rw [this, List.nil_append]

/-- A write that is forwarded is the action's own. -/
theorem Follows.forward (s : State) (hs : s.quiet) (a : Nat) (g : Lanes) :
    Follows [{ addr := a, lanes := g, own := false }] s (s.forward a g) :=
  { Agrees.refl s with
    writes := by show _ :: s.bus.writes = s.bus.writes ++ _; rw [hs.1]; rfl }

/-- The end of an action that begins by forwarding a write and whose notices have been asked for: it tells them behind
the write (R166, R175). -/
theorem State.noticed_finish {s v : State} {own : List BusWrite} {asks : List NoticeAsk} (hs : s.quiet)
    (hv : v = (({ s with bus := { s.bus with writes := own ++ s.bus.writes } } : State).noticed asks).finish) :
    v = s.telling own asks := by
  have hf : Follows own s { s with bus := { s.bus with writes := own ++ s.bus.writes } } :=
    { Agrees.refl s with writes := by show own ++ s.bus.writes = s.bus.writes ++ own; rw [hs.1]; simp }
  obtain ⟨hn, hb⟩ := State.delivers_noticed hs
    ((hf.noticed asks).finish_delivers hs ((Gathers.refl s).noticed asks) (by rw [State.noticed_eq]))
  subst hv
  rw [State.telling_eq _ _ _ hs.2.1]
  rw [State.noticed_eq] at hn hb ⊢
  simp only [List.nil_append] at hb
  rw [← hn, ← hb]
  rfl

end Sys2Proof.Machine
end

section
/-! Which blocks an operation may touch (`State.sameOutside`), one lemma per operation. -/
namespace Sys2Proof.Machine

namespace State.sameOutside

variable {l m : List Block} {s t u : State}

theorem refl (l : List Block) (s : State) : s.sameOutside l s := by simp [State.sameOutside]

theorem trans (h : s.sameOutside l t) (k : t.sameOutside l u) : s.sameOutside l u := by
  obtain ⟨h1, h2, h3, h4, h5, h6, h7, h8, h9, h10, h11, h12, h13, h14, h15⟩ := h
  obtain ⟨k1, k2, k3, k4, k5, k6, k7, k8, k9, k10, k11, k12, k13, k14, k15⟩ := k
  have chain {b : Block} {α : Type} {x y z : α} (h : b ∈ l ∨ y = x) (k : b ∈ l ∨ z = y) : b ∈ l ∨ z = x :=
    h.elim .inl fun e => k.elim .inl fun e' => .inr (e'.trans e)
  exact ⟨chain h1 k1, chain h2 k2, chain h3 k3, chain h4 k4, chain h5 k5, chain h6 k6, chain h7 k7, chain h8 k8,
    chain h9 k9, chain h10 k10, chain h11 k11, chain h12 k12, chain h13 k13, chain h14 k14, chain h15 k15⟩

theorem mono (h : s.sameOutside l t) (hl : ∀ b ∈ l, b ∈ m) : s.sameOutside m t := by
  obtain ⟨h1, h2, h3, h4, h5, h6, h7, h8, h9, h10, h11, h12, h13, h14, h15⟩ := h
  exact ⟨h1.imp_left (hl _), h2.imp_left (hl _), h3.imp_left (hl _), h4.imp_left (hl _), h5.imp_left (hl _),
    h6.imp_left (hl _), h7.imp_left (hl _), h8.imp_left (hl _), h9.imp_left (hl _), h10.imp_left (hl _),
    h11.imp_left (hl _), h12.imp_left (hl _), h13.imp_left (hl _), h14.imp_left (hl _), h15.imp_left (hl _)⟩

/-- One operation more, which touches no further block. -/
theorem andThen (h : s.sameOutside l t) (k : t.sameOutside m u) (hm : ∀ b ∈ m, b ∈ l := by decide) : s.sameOutside l u :=
  h.trans (k.mono hm)

theorem foldl {β : Type} (f : State → β → State) (hf : ∀ (s : State) (b : β), s.sameOutside l (f s b)) (xs : List β)
    (s : State) : s.sameOutside l (xs.foldl f s) := by
  induction xs generalizing s with
  | nil => exact refl l s
  | cons x xs ih => exact (hf s x).trans (ih _)

theorem path (h : s.sameOutside l t) (hb : Block.path ∉ l := by decide) : t.path = s.path := h.1.resolve_left hb
theorem tables (h : s.sameOutside l t) (hb : Block.tables ∉ l := by decide) : t.tables = s.tables := h.2.1.resolve_left hb
theorem cells (h : s.sameOutside l t) (hb : Block.cells ∉ l := by decide) : t.cells = s.cells := h.2.2.1.resolve_left hb
theorem intake (h : s.sameOutside l t) (hb : Block.intake ∉ l := by decide) : t.intake = s.intake :=
  h.2.2.2.1.resolve_left hb
theorem lookup (h : s.sameOutside l t) (hb : Block.lookup ∉ l := by decide) : t.lookup = s.lookup :=
  h.2.2.2.2.1.resolve_left hb
theorem admission (h : s.sameOutside l t) (hb : Block.admission ∉ l := by decide) : t.admission = s.admission :=
  h.2.2.2.2.2.1.resolve_left hb
theorem queues (h : s.sameOutside l t) (hb : Block.queues ∉ l := by decide) : t.queues = s.queues :=
  h.2.2.2.2.2.2.1.resolve_left hb
theorem live (h : s.sameOutside l t) (hb : Block.live ∉ l := by decide) : t.live = s.live :=
  h.2.2.2.2.2.2.2.1.resolve_left hb
theorem failover (h : s.sameOutside l t) (hb : Block.failover ∉ l := by decide) : t.failover = s.failover :=
  h.2.2.2.2.2.2.2.2.1.resolve_left hb
theorem acct (h : s.sameOutside l t) (hb : Block.acct ∉ l := by decide) : t.acct = s.acct :=
  h.2.2.2.2.2.2.2.2.2.1.resolve_left hb
theorem notices (h : s.sameOutside l t) (hb : Block.notices ∉ l := by decide) : t.notices = s.notices :=
  h.2.2.2.2.2.2.2.2.2.2.1.resolve_left hb
theorem slots (h : s.sameOutside l t) (hb : Block.slots ∉ l := by decide) : t.slots = s.slots :=
  h.2.2.2.2.2.2.2.2.2.2.2.1.resolve_left hb
theorem bus (h : s.sameOutside l t) (hb : Block.bus ∉ l := by decide) : t.bus = s.bus :=
  h.2.2.2.2.2.2.2.2.2.2.2.2.1.resolve_left hb
theorem freeDraws (h : s.sameOutside l t) (hb : Block.freeDraws ∉ l := by decide) : t.freeDraws = s.freeDraws :=
  h.2.2.2.2.2.2.2.2.2.2.2.2.2.1.resolve_left hb
theorem pending (h : s.sameOutside l t) (hb : Block.pending ∉ l := by decide) : t.pending = s.pending :=
  h.2.2.2.2.2.2.2.2.2.2.2.2.2.2.resolve_left hb

/-- Blocks untouched on which notices, reports and refill runs depend: such an operation leaves them in step. -/
theorem agrees (h : s.sameOutside l t)
    (hl : Block.path ∉ l ∧ Block.tables ∉ l ∧ Block.live ∉ l ∧ Block.cells ∉ l ∧ Block.admission ∉ l ∧ Block.notices ∉ l ∧
      Block.bus ∉ l := by decide) : Agrees s t :=
  .of_eq (by rw [h.path hl.1]) (by rw [h.path hl.1]) (h.tables hl.2.1) (by rw [h.live hl.2.2.1])
    (by rw [h.cells hl.2.2.2.1]) (by rw [h.cells hl.2.2.2.1]) (by rw [h.admission hl.2.2.2.2.1]) (h.notices hl.2.2.2.2.2.1)
    (h.bus hl.2.2.2.2.2.2)

end State.sameOutside

/-! ## One block -/

section elementary
variable (s : State)

theorem State.ask_outside (k : NoticeKind) (a b c : Nat) : s.sameOutside [.notices, .bus] (s.ask k a b c) := by
  simp [State.sameOutside]

theorem State.forward_outside (a : Nat) (g : Lanes) : s.sameOutside [.bus] (s.forward a g) := by
  simp [State.sameOutside, State.forward]

theorem State.finish_outside : s.sameOutside [.bus] s.finish := by simp [State.sameOutside, State.finish]

theorem State.cells_outside (v : CellManager) : s.sameOutside [.cells] { s with cells := v } := by
  simp [State.sameOutside]

theorem State.lookup_outside (v : LookupUnit) : s.sameOutside [.lookup] { s with lookup := v } := by
  simp [State.sameOutside]

theorem State.admission_outside (v : AdmissionUnit) : s.sameOutside [.admission] { s with admission := v } := by
  simp [State.sameOutside]

theorem State.queues_outside (v : QueueManager) : s.sameOutside [.queues] { s with queues := v } := by
  simp [State.sameOutside]

theorem State.failover_outside (v : FailoverController) : s.sameOutside [.failover] { s with failover := v } := by
  simp [State.sameOutside]

theorem State.acct_outside (v : AccountingUnit) : s.sameOutside [.acct] { s with acct := v } := by
  simp [State.sameOutside]

theorem State.slots_outside (v : Table CommandSlot) : s.sameOutside [.slots] { s with slots := v } := by
  simp [State.sameOutside]

end elementary

/-! ## The operations -/

section operations
variable (s : State)

theorem State.setShed_outside (l : ShedLevel) : s.sameOutside [.admission, .notices, .bus] (s.setShed l) :=
  ((s.admission_outside _).mono (by decide)).andThen (State.ask_outside _ _ _ _ _)

theorem State.refillPort_outside (p : Port) : s.sameOutside [.cells, .bus] (s.refillPort p) := by
  unfold State.refillPort
  split
  · exact .refl _ _
  · simp [State.sameOutside, State.issueCells]

theorem State.refillRun_outside : s.sameOutside [.cells, .bus] s.refillRun := by
  unfold State.refillRun
  split
  · exact .foldl _ (fun u p => u.refillPort_outside p) _ _
  · exact .refl _ _

theorem State.reportFree_outside (n : Nat) : s.sameOutside [.cells, .admission, .notices, .bus] (s.reportFree n) := by
  induction n generalizing s with
  | zero => exact .refl _ _
  | succ n ih =>
    have h (l : ShedLevel) : s.sameOutside [.cells, .admission, .notices, .bus] (s.setShed l) :=
      (s.setShed_outside l).mono (by decide)
    dsimp only [State.reportFree]
    split
    · exact .refl _ _
    · split
      · split
        exacts [h _, ((h _).andThen (State.refillRun_outside _)).trans (ih _)]
      · exact h _

theorem State.report_outside : s.sameOutside [.cells, .admission, .notices, .bus] s.report := s.reportFree_outside 3

theorem State.refill_outside : s.sameOutside [.cells, .admission, .notices, .bus] s.refill := by
  unfold State.refill
  split
  · exact .refl _ _
  · exact (s.refillRun_outside.mono (by decide)).andThen (State.report_outside _)

theorem State.settle_outside (before : Nat) : s.sameOutside [.cells, .admission, .notices, .bus] (s.settle before) := by
  unfold State.settle
  split
  · exact .refl _ _
  · exact s.report_outside.trans (State.refill_outside _)

theorem State.setFrame_outside (n : Nat) (v : Frame) : s.sameOutside [.cells] (s.setFrame n v) := s.cells_outside _

theorem State.setCopy_outside (n : Nat) (v : Copy) : s.sameOutside [.cells] (s.setCopy n v) := s.cells_outside _

theorem State.countDrop_outside (c : DropCause) (n : Tenant) : s.sameOutside [.acct] (s.countDrop c n) := s.acct_outside _

theorem State.countRetired_outside (cause : RetireCause) (f : Frame) (k : Copy) :
    s.sameOutside [.acct] (s.countRetired cause f k) := by
  cases cause <;> exact s.acct_outside _

theorem State.leavePort_outside (first : Nat) (p : Port) : s.sameOutside [.cells] (s.leavePort first p) := by
  unfold State.leavePort
  split
  exacts [.refl _ _, s.setFrame_outside _ _]

theorem State.joinPort_outside (first : Nat) (p : Port) : s.sameOutside [.cells] (s.joinPort first p) := by
  unfold State.joinPort
  split
  exacts [.refl _ _, s.setFrame_outside _ _]

theorem State.raiseCopies_outside (first : Nat) : s.sameOutside [.cells] (s.raiseCopies first) := by
  unfold State.raiseCopies
  split
  exacts [.refl _ _, s.setFrame_outside _ _]

theorem State.freeFrame_outside (first : Nat) (f : Frame) : s.sameOutside [.cells, .admission] (s.freeFrame first f) := by
  simp [State.sameOutside, State.freeFrame, State.removeFrame, State.freeCells, State.setHeldCells]

theorem State.releaseRecord_outside (tag : Nat) : s.sameOutside [.cells] (s.releaseRecord tag) := s.cells_outside _

theorem State.leaveCopyPort_outside (k : Copy) : s.sameOutside [.cells] (s.leaveCopyPort k) := by
  unfold State.leaveCopyPort
  split
  exacts [s.leavePort_outside _ _, .refl _ _]

theorem State.retire_outside (tag : Nat) (cause : RetireCause) :
    s.sameOutside [.cells, .admission, .acct] (s.retire tag cause) := by
  have hleave (k : Copy) : s.sameOutside [.cells, .admission, .acct] (s.leaveCopyPort k) :=
    (s.leaveCopyPort_outside k).mono (by decide)
  rcases s.retire_cases tag cause with ⟨-, e⟩ | ⟨k, -, ⟨-, e⟩ | ⟨f, -, he⟩⟩
  · rw [e]; exact .refl _ _
  · rw [e]; exact (hleave k).andThen (State.releaseRecord_outside _ _)
  · have hcount :=
      ((hleave k).andThen (State.countRetired_outside _ cause f k)).andThen (State.releaseRecord_outside _ tag)
    rcases he with ⟨-, e⟩ | ⟨-, e⟩
    · rw [e]; exact hcount.andThen (State.freeFrame_outside _ _ _)
    · rw [e]; exact hcount.andThen (State.setFrame_outside _ _ _)

theorem State.owe_outside (p : Port) : s.sameOutside [.queues] (s.owe p) := s.queues_outside _

theorem State.oweEach_outside (l : List Port) : s.sameOutside [.queues] (s.oweEach l) :=
  .foldl _ (fun u p => u.owe_outside p) _ _

theorem State.setEgressPort_outside (p : Port) (v : EgressPort) : s.sameOutside [.queues] (s.setEgressPort p v) :=
  s.queues_outside _

theorem State.adoptIfEmpty_outside (p : Port) : s.sameOutside [.queues] (s.adoptIfEmpty p) := by
  unfold State.adoptIfEmpty
  split
  · exact ((s.queues_outside _).mono (by decide)).andThen (State.queues_outside _ _)
  · exact .refl _ _

theorem State.dequeue_outside (p : Port) (c : Cls) (tag : Nat) : s.sameOutside [.queues] (s.dequeue p c tag) :=
  s.queues_outside _

theorem State.forgetInWalk_outside (p : Port) (c : Cls) (tag : Nat) : s.sameOutside [.failover] (s.forgetInWalk p c tag) :=
  s.failover_outside _

theorem State.appendQueued_outside (tag : Nat) (k : Copy) (q : Port) :
    s.sameOutside [.cells, .queues] (s.appendQueued tag k q) :=
  (((s.setCopy_outside _ _).mono (by decide)).andThen (State.queues_outside _ _)).andThen (State.joinPort_outside _ _ _)

theorem State.recomputeGroup_outside (g : GroupId) : s.sameOutside [.failover, .notices, .bus] (s.recomputeGroup g) := by
  rcases s.recomputeGroup_cases g with ⟨-, h⟩ | ⟨-, h⟩
  · rw [h]; exact .refl _ _
  · rw [h]; exact ((s.failover_outside _).mono (by decide)).andThen (State.ask_outside _ _ _ _ _)

theorem State.recomputeGroups_outside (l : List GroupId) :
    s.sameOutside [.failover, .notices, .bus] (l.foldl State.recomputeGroup s) :=
  .foldl _ (fun u g => u.recomputeGroup_outside g) _ _

theorem State.appendWork_outside (p : Port) (k : WorkKind) : s.sameOutside [.failover] (s.appendWork p k) := by
  unfold State.appendWork
  split
  exacts [.refl _ _, s.failover_outside _]

theorem State.rechoose_outside (tag : Nat) (k : Copy) (g : GroupId) :
    s.sameOutside [.cells, .admission, .queues, .acct] (s.rechoose tag k g).1 := by
  unfold State.rechoose
  split
  · exact .refl _ _
  · split
    · exact (s.retire_outside _ _).mono (by decide)
    · split
      exacts [(s.retire_outside _ _).mono (by decide), (s.appendQueued_outside _ _ _).mono (by decide)]

end operations

end Sys2Proof.Machine
end

section
/-! The command slots (11.2): a command word that starts a command, how the command ends or stays BUSY, and the commands
whose whole effect is one block's (O42 to O45, O48 to O51, O55, O56). -/
namespace Sys2Proof

/-- A table's entry set twice holds what was set last, the first value not being the default. -/
theorem Table.put_put {α : Type} (m : Table α) (k : Nat) (v w : α) : (m.put k v).put k w = m.put k w := by
  induction m with
  | nil => simp [Table.put]
  | cons e m ih =>
    obtain ⟨j, u⟩ := e
    rcases lt_trichotomy k j with h | rfl | h
    · simp [Table.put, h]
    · simp [Table.put]
    · simp [Table.put, h.asymm, h.ne', ih]

theorem Table.setD_setD_self {α : Type} [DecidableEq α] (m : Table α) (k : Nat) {v w : α} (d : α) (hv : v ≠ d)
    (hw : w ≠ d) : (m.setD k v d).setD k w d = m.setD k w d := by
  rw [Table.setD, Table.setD, Table.setD, if_neg hv, if_neg hw, Table.put_put, if_neg hw]

end Sys2Proof

namespace Sys2Proof.Machine

/-! ## Starting a command -/

/-- A command write with its arguments taken and its slot BUSY: the state its body runs in (R172, R178). -/
def State.started (s : State) (kind : Byte) (w : SlotWrite) : State :=
  ((s.forward (s.windowAddr (slotOffset w.slot)) (slotGranule kind w)).takeArgs w.slot w.low).startSlot w.slot kind w.tag

theorem State.commandWrite_of_free {s : State} {w : SlotWrite} (h : s.free w.slot) (kind : Byte) (body : State → State) :
    s.commandWrite kind w body = body (s.started kind w) :=
  if_neg (show ¬s.slotBusy w.slot = true by simpa [State.slotBusy, State.free] using h)

theorem State.commandWrite_of_busy {s : State} {w : SlotWrite} (h : (s.slot w.slot).status = .busy) (kind : Byte)
    (body : State → State) :
    s.commandWrite kind w body =
      ((s.forward (s.windowAddr (slotOffset w.slot)) (slotGranule kind w)).takeArgs w.slot w.low).ignoreCommand w.slot kind
        w.tag :=
  if_pos (show s.slotBusy w.slot = true by simpa [State.slotBusy] using h)

@[simp] theorem State.started_args (s : State) (kind : Byte) (w : SlotWrite) :
    (s.started kind w).args w.slot = s.argsWith w := by
  simp [State.started, State.startSlot, State.takeArgs, State.argsWith, State.args, State.setSlot, State.setArgs,
    State.forward]

@[simp] theorem State.started_slot (s : State) (kind : Byte) (w : SlotWrite) :
    (s.started kind w).slot w.slot = { status := .busy, kind := kind, tag := w.tag } := by
  simp [State.started, State.startSlot]

theorem State.isActive_eq_true {s : State} : s.isActive = true ↔ s.path.mode = .active := by simp [State.isActive]

theorem State.isActive_eq_false {s : State} : s.isActive = false ↔ s.path.mode = .passive := by
  cases h : s.path.mode <;> simp [State.isActive, h]

theorem State.requireActive_of_active {s : State} (h : s.path.mode = .active) (k : SlotId) (run : State) :
    s.requireActive k run = run := if_pos (State.isActive_eq_true.2 h)

theorem State.requireActive_of_passive {s : State} (h : s.path.mode = .passive) (k : SlotId) (run : State) :
    s.requireActive k run = s.fail k .state :=
  if_neg (by rw [State.isActive_eq_false.2 h]; exact Bool.false_ne_true)

/-! ## Ending it -/

theorem State.started_endSlot_slots (v : State) (kind : Byte) (w : SlotWrite) {st : SlotStatus} (hst : st ≠ .idle)
    (code : ResultCode) (result : Nat) :
    ((v.started kind w).endSlot w.slot st code result).slots =
      v.slots.setD w.slot { status := st, kind := kind, tag := w.tag } CommandSlot.powerOn := by
  have busy : ({ status := .busy, kind := kind, tag := w.tag } : CommandSlot) ≠ CommandSlot.powerOn := by
    simp [CommandSlot.powerOn]
  have ended : ({ status := st, kind := kind, tag := w.tag } : CommandSlot) ≠ CommandSlot.powerOn := by
    simp [CommandSlot.powerOn, hst]
  calc ((v.started kind w).endSlot w.slot st code result).slots
    _ = (v.started kind w).slots.setD w.slot { (v.started kind w).slot w.slot with status := st } CommandSlot.powerOn := rfl
    _ = _ := by rw [State.started_slot]; exact Table.setD_setD_self _ _ _ busy ended

/-- A command that has ended in its own action, from a quiet state: nothing else is sent. -/
theorem State.started_endSlot_finish {v : State} (hv : v.quiet) (kind : Byte) (w : SlotWrite) {st : SlotStatus}
    (hst : st ≠ .idle) (code : ResultCode) (result : Nat) :
    ((v.started kind w).endSlot w.slot st code result).finish = v.commandEnded kind w st code result [] := by
  obtain ⟨h1, h2, h3⟩ := hv
  have hbus : ((v.started kind w).endSlot w.slot st code result).finish.bus = (v.commandEnded kind w st code result []).bus := by
    simp [State.started, State.endSlot, State.emitStatus, State.finish, State.commandEnded, State.sending, State.startSlot,
      State.takeArgs, State.setArgs, State.forward, State.ownWrite, State.windowAddr, State.crossing, slotOffset, h1, h2, h3]
  calc ((v.started kind w).endSlot w.slot st code result).finish
    _ = { v.commandEnded kind w st code result [] with
          slots := ((v.started kind w).endSlot w.slot st code result).slots
          bus := ((v.started kind w).endSlot w.slot st code result).finish.bus } := rfl
    _ = v.commandEnded kind w st code result [] := by rw [hbus, v.started_endSlot_slots kind w hst code result]; rfl

theorem State.started_fail_finish {v : State} (hv : v.quiet) (kind : Byte) (w : SlotWrite) (code : ResultCode) :
    ((v.started kind w).fail w.slot code).finish = v.commandEnded kind w .failed code 0 [] :=
  State.started_endSlot_finish hv kind w (by decide) code 0

theorem State.started_done_finish {v : State} (hv : v.quiet) (kind : Byte) (w : SlotWrite) (code : ResultCode)
    (result : Nat) : ((v.started kind w).done w.slot code result).finish = v.commandEnded kind w .done code result [] :=
  State.started_endSlot_finish hv kind w (by decide) code result

/-- A command that stays BUSY, from a quiet state. -/
theorem State.started_stayBusy_finish {v : State} (hv : v.quiet) (kind : Byte) (w : SlotWrite) :
    ((v.started kind w).stayBusy w.slot).finish = v.commandBusy kind w [] := by
  obtain ⟨h1, h2, h3⟩ := hv
  simp [State.started, State.stayBusy, State.emitStatus, State.finish, State.commandBusy, State.sending, State.startSlot,
    State.takeArgs, State.setArgs, State.setSlot, State.forward, State.ownWrite, State.windowAddr, State.crossing, slotOffset,
    State.argsWith, State.args, State.slot, h1, h2, h3]

theorem State.started_emit_stayBusy_finish {v : State} (hv : v.quiet) (kind : Byte) (w : SlotWrite) (off : Nat)
    (bytes : List Byte) :
    (((v.started kind w).emit off bytes).stayBusy w.slot).finish = v.commandBusy kind w [v.ownWrite off bytes] := by
  obtain ⟨h1, h2, h3⟩ := hv
  simp [State.started, State.stayBusy, State.emitStatus, State.finish, State.commandBusy, State.sending, State.startSlot,
    State.takeArgs, State.setArgs, State.setSlot, State.forward, State.ownWrite, State.windowAddr, State.crossing, slotOffset,
    State.argsWith, State.args, State.slot, State.emit, h1, h2, h3]

/-! ## A command word by its kind -/

theorem exec_commandRow (kind : Byte) (w : SlotWrite) (s : State) :
    exec (commandRow kind w) s = .next (s.commandWrite kind w fun u => u.commandBody kind w.slot).finish := by
  have of_toNat (n : Nat) (h : kind.toNat = n) : kind = BitVec.ofNat 8 n := by rw [← h]; simp
  unfold commandRow
  split
  case h_1 h => rw [of_toNat 1 h]; rfl
  case h_2 h => rw [of_toNat 2 h]; rfl
  case h_3 h => rw [of_toNat 3 h]; rfl
  case h_4 h => rw [of_toNat 4 h]; rfl
  case h_5 h => rw [of_toNat 5 h]; rfl
  case h_6 h => rw [of_toNat 6 h]; rfl
  case h_7 h => rw [of_toNat 7 h]; rfl
  case h_8 h => rw [of_toNat 8 h]; rfl
  case h_9 h => rw [of_toNat 9 h]; rfl
  case h_10 h => rw [of_toNat 10 h]; rfl
  case h_11 => rfl

theorem exec_commandRow_of_free {w : SlotWrite} {s : State} (h : s.free w.slot) (kind : Byte) :
    exec (commandRow kind w) s = .next ((s.started kind w).commandBody kind w.slot).finish := by
  rw [exec_commandRow, State.commandWrite_of_free h]

theorem State.commandBody_of_unknown {kind : Byte} (h : knownKind kind = false) (s : State) (k : SlotId) :
    s.commandBody kind k = s.fail k .argument := by
  have hk := of_decide_eq_false h
  unfold State.commandBody
  generalize kind.toNat = n at hk
  split
  case h_11 => rfl
  all_goals exact absurd (by decide) hk

theorem State.commandBody_of_passive {kind : Byte} (h : knownKind kind = true) (h1 : kind.toNat ≠ 1) {s : State}
    (hs : s.path.mode = .passive) (k : SlotId) : s.commandBody kind k = s.fail k .state := by
  have hk := of_decide_eq_true h
  unfold State.commandBody
  generalize kind.toNat = n at hk h1
  split
  case h_1 => exact absurd rfl h1
  case h_11 =>
    obtain ⟨hlo, hhi⟩ := hk
    interval_cases n <;> contradiction
  all_goals exact State.requireActive_of_passive hs k _

theorem State.startBody_of_active {s : State} (hs : s.path.mode = .active) (k : SlotId) : s.startBody k = s.fail k .state :=
  if_pos (State.isActive_eq_true.2 hs)

/-- Settles O45: an unknown kind, and a kind of the wrong mode, fail in the slot they have started. -/
theorem kindAndModeFailures : Obligations.KindAndModeFailures := by
  refine fun kind w s hq hs => ⟨fun hk => ?unknown, fun hk h1 hp => ?passive, fun ha => ?active⟩
  case unknown =>
    change Host.Outcome.next (s.commandWrite kind w fun u => u.commandBody kind w.slot).finish = _
    rw [State.commandWrite_of_free hs, State.commandBody_of_unknown hk, State.started_fail_finish hq]
  case passive =>
    rw [exec_commandRow_of_free hs, State.commandBody_of_passive hk h1 (s := s.started kind w) hp,
      State.started_fail_finish hq]
  case active =>
    rw [show Instr.start w = commandRow 1 w from rfl, exec_commandRow_of_free hs,
      show (s.started 1 w).commandBody 1 w.slot = (s.started 1 w).startBody w.slot from rfl,
      State.startBody_of_active (s := s.started 1 w) ha, State.started_fail_finish hq]

/-! ## A slot's granule -/

theorem leNat_leBytes (n v : Nat) : leNat (leBytes n v) = v % 256 ^ n := by
  induction n generalizing v with
  | zero => simp [leNat, leBytes, Nat.mod_one]
  | succ n ih =>
    have split : v % 256 ^ (n + 1) = v % 256 + 256 * (v / 256 % 256 ^ n) := by
      rw [Nat.pow_succ', Nat.mod_mul]
    simp [leNat, leBytes, ih, split]

theorem slotGranule_of_ok {w : SlotWrite} (h : w.ok = true) (kind : Byte) :
    slotGranule kind w = w.low ++ strobed (commandWordBytes kind w) := by
  have hl : w.low.length = 60 := of_decide_eq_true h
  simp [slotGranule, hl, List.take_of_length_le]

/-- The write of a whole command word is handed on as the command of its kind, tag and arguments. -/
theorem State.slotWrite_slotGranule {w : SlotWrite} (h : w.ok = true) (kind : Byte) (s : State) :
    s.slotWrite w.slot (slotGranule kind w) =
      (s.takeArgs w.slot w.low).commandWord w.slot kind w.tag fun u => u.commandBody kind w.slot := by
  have hl : w.low.length = 60 := of_decide_eq_true h
  have hg := slotGranule_of_ok h kind
  have hdrop : (slotGranule kind w).drop 60 = strobed (commandWordBytes kind w) := by
    rw [hg, List.drop_append_of_le_length (by omega), List.drop_of_length_le (by omega), List.nil_append]
  have hargs : s.takeArgs w.slot (slotGranule kind w) = s.takeArgs w.slot w.low := by
    unfold State.takeArgs
    rw [hg, List.take_append_of_le_length (by omega)]
  have hstrobes : allStrobes (slotGranule kind w) 60 4 = true := by
    unfold allStrobes lanesAt
    rw [hdrop]
    rfl
  have hcarried : (carried (slotGranule kind w)).drop 60 = commandWordBytes kind w := by
    unfold carried
    rw [← List.map_drop, hdrop]
    simp [strobed, Function.comp_def]
  have hkind : (carried (slotGranule kind w)).getD 63 0 = kind := by
    have : (carried (slotGranule kind w)).getD (60 + 3) 0 = ((carried (slotGranule kind w)).drop 60).getD 3 0 := by
      simp [List.getD_eq_getElem?_getD]
    rw [this, hcarried]
    rfl
  have htag : BitVec.ofNat 16 (field (carried (slotGranule kind w)) 60 2) = w.tag := by
    unfold field
    rw [hcarried]
    change BitVec.ofNat 16 (leNat (leBytes 2 w.tag.toNat)) = w.tag
    rw [leNat_leBytes]
    apply BitVec.eq_of_toNat_eq
    have := w.tag.isLt
    rw [BitVec.toNat_ofNat]
    omega
  unfold State.slotWrite
  rw [hargs, if_pos hstrobes, hkind, htag]

/-- Settles O43. -/
theorem commandWordIsItsRow : Obligations.CommandWordIsItsRow := fun kind w s h => by
  rw [exec_commandRow]
  exact congrArg (fun u => Host.Outcome.next (State.finish u)) (State.slotWrite_slotGranule h kind _)

/-- Settles O42: a write that leaves a strobe of the command word clear goes no further than the argument copy. -/
theorem argumentWriteUpdatesCopy : Obligations.ArgumentWriteUpdatesCopy := fun k g s hq h => by
  have hw : (s.forward (s.windowAddr (slotOffset k)) g).slotWrite k g =
      (s.setArgs k (merge (s.args k) (g.take 48))).forward (s.windowAddr (slotOffset k)) g :=
    if_neg (by rw [h]; exact Bool.false_ne_true)
  exact congrArg Host.Outcome.next ((congrArg State.finish hw).trans (finish_forward _ _ _ hq))

/-- Settles O44: the command word finds the slot BUSY, so one notice is all it brings. -/
theorem busySlotIgnoresCommands : Obligations.BusySlotIgnoresCommands := fun kind w s hq h => by
  rw [exec_commandRow, State.commandWrite_of_busy h]
  exact congrArg Host.Outcome.next (State.noticed_finish (s := s.setArgs w.slot (s.argsWith w)) hq rfl)

/-! ## The station commands -/

/-- Settles O48: the arguments, the key's entry and the set's room decide; each end is one of the started slot. -/
theorem stationAddOutcome : Obligations.StationAddOutcome := fun w s hq hs ha => by
  rw [show Instr.stationAdd w = commandRow 2 w from rfl, exec_commandRow_of_free hs]
  have hbody : (s.started 2 w).commandBody 2 w.slot =
      match segmentArg? (s.argsWith w), targetArg? (s.argsWith w) with
      | some segment, some t => (s.started 2 w).addStation w.slot segment (argStation (s.argsWith w)) t
      | _, _ => (s.started 2 w).fail w.slot .argument := by
    rw [← s.started_args 2 w]
    exact State.requireActive_of_active (s := s.started 2 w) ha _ _
  refine congrArg Host.Outcome.next ?_
  rw [hbody]
  rcases segmentArg? (s.argsWith w) with _ | seg
  case none => exact State.started_fail_finish hq _ _ _
  rcases targetArg? (s.argsWith w) with _ | t
  case none => exact State.started_fail_finish hq _ _ _
  case some =>
    dsimp only
    unfold State.addStation
    rw [show (s.started 2 w).lookup? seg = s.lookup? seg from rfl, show (s.started 2 w).freeWay? seg = s.freeWay? seg from rfl]
    cases s.lookup? seg (argStation (s.argsWith w)) with
    | some x =>
      dsimp only
      by_cases he : x.2.isStatic = true
      · rw [if_pos he, if_pos he]
        exact State.started_fail_finish hq _ _ _
      · rw [if_neg he, if_neg he]
        exact State.started_done_finish
          (v := (s.setStation x.1 (s.staticEntry seg (argStation (s.argsWith w)) t)).lowerLearned x.2.tenant) hq _ _ _ _
    | none =>
      dsimp only
      cases s.freeWay? seg (argStation (s.argsWith w)) with
      | some way =>
        exact State.started_done_finish (v := s.setStation way (s.staticEntry seg (argStation (s.argsWith w)) t)) hq _ _ _ _
      | none => exact State.started_fail_finish hq _ _ _

/-- Settles O49. -/
theorem stationRemoveOutcome : Obligations.StationRemoveOutcome := fun w s hq hs ha => by
  rw [show Instr.stationRemove w = commandRow 3 w from rfl, exec_commandRow_of_free hs]
  have hbody : (s.started 3 w).commandBody 3 w.slot =
      match segmentArg? (s.argsWith w) with
      | none => (s.started 3 w).fail w.slot .argument
      | some segment =>
        match s.lookup? segment (argStation (s.argsWith w)) with
        | none => (s.started 3 w).fail w.slot .notFound
        | some (way, e) =>
          if e.isStatic then ((s.started 3 w).removeStation way).done w.slot .staticRemoved 0
          else ((s.started 3 w).dropLearned way e).done w.slot .learnedRemoved 0 := by
    rw [← s.started_args 3 w]
    exact State.requireActive_of_active (s := s.started 3 w) ha _ _
  refine congrArg Host.Outcome.next ?_
  rw [hbody]
  cases segmentArg? (s.argsWith w) with
  | none => exact State.started_fail_finish hq _ _ _
  | some seg =>
    dsimp only
    cases s.lookup? seg (argStation (s.argsWith w)) with
    | none => exact State.started_fail_finish hq _ _ _
    | some x =>
      dsimp only
      by_cases he : x.2.isStatic = true
      · rw [if_pos he, if_pos he]
        exact State.started_done_finish (v := s.removeStation x.1) hq _ _ _ _
      · rw [if_neg he, if_neg he]
        exact State.started_done_finish (v := s.dropLearned x.1 x.2) hq _ _ _ _

theorem State.started_startFlush (s : State) (kind : Byte) (w : SlotWrite) :
    (s.started kind w).startFlush = s.startFlush.started kind w := by
  unfold State.startFlush
  rw [show (s.started kind w).lookup = s.lookup from rfl]
  split <;> rfl

/-- Settles O50: by the argument, then by what the flush queue makes of the request. -/
theorem flushOutcome : Obligations.FlushOutcome := fun w s hq hs ha hidle => by
  rw [show Instr.flush w = commandRow 4 w from rfl, exec_commandRow_of_free hs]
  have hbody : (s.started 4 w).commandBody 4 w.slot =
      match flushArg? (s.argsWith w) with
      | none => (s.started 4 w).fail w.slot .argument
      | some r =>
        if ((s.started 4 w).offerFlush r [w.slot]).2 then ((s.started 4 w).offerFlush r [w.slot]).1.stayBusy w.slot
        else (s.started 4 w).fail w.slot .full := by
    rw [← s.started_args 4 w]
    exact State.requireActive_of_active (s := s.started 4 w) ha _ _
  refine congrArg Host.Outcome.next ?_
  rw [hbody]
  cases flushArg? (s.argsWith w) with
  | none => exact State.started_fail_finish hq _ _ _
  | some r =>
    dsimp only
    unfold State.offerFlush
    by_cases hin : s.flushQueued r = true
    · rw [if_pos (show (s.started 4 w).flushQueued r = true from hin),
        if_pos (show (s.lookup.flushQueue.any fun i => decide (i.req = r)) = true from hin)]
      exact State.started_stayBusy_finish
        (v := { s with lookup := { s.lookup with flushQueue := mergeFlush r [w.slot] s.lookup.flushQueue } }) hq _ _
    · rw [if_neg (show ¬(s.started 4 w).flushQueued r = true from hin),
        if_neg (show ¬(s.lookup.flushQueue.any fun i => decide (i.req = r)) = true from hin)]
      by_cases hroom : s.lookup.flushQueue.length < 8
      · rw [if_pos (show (s.started 4 w).lookup.flushQueue.length < Config.flushRoom from hroom), if_pos hroom]
        rw [if_pos rfl]
        refine (congrArg (fun u : State => (u.stayBusy w.slot).finish) (State.started_startFlush
          { s with
            lookup := { s.lookup with
              flushQueue := s.lookup.flushQueue ++ [({ req := r, slots := [w.slot] } : FlushItem)] } } 4 w)).trans ?_
        by_cases hw : s.lookup.flushWalk = none
        · simp only [State.startFlush, hw, hidle hw, List.nil_append]
          exact State.started_stayBusy_finish
            (v := { s with
              lookup := { s.lookup with
                flushQueue := []
                flushWalk := some { item := { req := r, slots := [w.slot] }, cursor := 0, removed := 0 } } }) hq _ _
        · obtain ⟨x, hx⟩ := Option.ne_none_iff_exists'.1 hw
          simp only [State.startFlush, hx]
          exact State.started_stayBusy_finish
            (v := { s with
              lookup := { s.lookup with
                flushQueue := s.lookup.flushQueue ++ [({ req := r, slots := [w.slot] } : FlushItem)]
                flushWalk := some x } }) hq _ _
      · rw [if_neg (show ¬(s.started 4 w).lookup.flushQueue.length < Config.flushRoom from hroom), if_neg hroom]
        exact State.started_fail_finish hq _ _ _

/-! ## Epoch close, meter refill, time mark -/

/-- Settles O51. -/
theorem epochCloseOutcome : Obligations.EpochCloseOutcome := fun w s hq hs ha => by
  rw [show Instr.epochClose w = commandRow 5 w from rfl, exec_commandRow_of_free hs]
  have hbody : (s.started 5 w).commandBody 5 w.slot =
      if s.acct.walk.isSome then (s.started 5 w).fail w.slot .busy else (s.started 5 w).closeEpoch w.slot :=
    State.requireActive_of_active (s := s.started 5 w) ha _ _
  refine congrArg Host.Outcome.next ?_
  rw [hbody]
  by_cases hwalk : s.acct.walk.isSome = true
  · rw [if_pos hwalk, if_pos hwalk]
    exact State.started_fail_finish hq _ _ _
  · rw [if_neg hwalk, if_neg hwalk]
    exact State.started_emit_stayBusy_finish
      (v := { s with
        acct := { s.acct with
          live := otherBank s.acct.live, epoch := s.acct.epoch + 1, openTime := s.now
          walk := some
            { bank := s.acct.live, epoch := s.acct.epoch, openTime := s.acct.openTime, closeTime := s.now,
              slot := w.slot, nextTenant := 0, saturated := 0 } } }) hq _ _ _ _

theorem tenantOf_of_lt {n : Nat} {m : Tenant} (h : n = m) : tenantOf n = some m := by
  subst h
  simp [tenantOf]

theorem tenantOf_eq_none {n : Nat} (h : 255 < n) : tenantOf n = none := by
  rw [tenantOf, dif_neg (by omega)]

/-- Settles O55. -/
theorem meterRefillFillsBucket : Obligations.MeterRefillFillsBucket := fun w s hq hs => by
  rw [show Instr.meterRefill w = commandRow 9 w from rfl, exec_commandRow_of_free hs]
  have hbody (ha : s.path.mode = .active) : (s.started 9 w).commandBody 9 w.slot =
      match tenantOf (argTenant (s.argsWith w)) with
      | none => (s.started 9 w).fail w.slot .argument
      | some n => ((s.started 9 w).setMeter n ⟨((s.started 9 w).tenantEntry n).depth, (s.started 9 w).now⟩).done w.slot .none 0 := by
    rw [← s.started_args 9 w]
    exact State.requireActive_of_active (s := s.started 9 w) ha _ _
  refine ⟨fun hp => ?passive, fun ha hn => ?argument, fun n ha hn => ?refill⟩
  case passive =>
    rw [State.commandBody_of_passive (by decide) (by decide) (s := s.started 9 w) hp, State.started_fail_finish hq]
  case argument => rw [hbody ha, tenantOf_eq_none hn]; exact congrArg _ (State.started_fail_finish hq _ _ _)
  case refill =>
    rw [hbody ha, tenantOf_of_lt hn]
    exact congrArg _ (State.started_done_finish (v := s.setMeter n ⟨(s.tenantEntry n).depth, s.now⟩) hq _ _ _ _)

/-- A read of what the newest write has left: its own bytes. -/
theorem State.readBytes_of_newest {t : State} {s : State} {off : Nat} {bytes : List Byte} {rest : List BusWrite}
    (hw : t.path.winbase = s.path.winbase) (ht : t.bus.sent = s.ownWrite off bytes :: rest) :
    t.readBytes off bytes.length = bytes.map some := by
  apply List.ext_getElem
  · simp [State.readBytes]
  · intro i h1 h2
    have hi : i < bytes.length := by simpa [State.readBytes] using h1
    have hbyte : t.memByte (t.windowAddr off + i) = bytes[i]? := by
      rw [State.memByte, ht, lastWritten, show t.windowAddr off = s.windowAddr off by unfold State.windowAddr; rw [hw],
        byteAt_ownWrite, List.getElem?_eq_getElem hi]
      rfl
    simpa [State.readBytes, List.getElem?_eq_getElem hi] using hbyte

@[simp] theorem leBytes_length (n v : Nat) : (leBytes n v).length = n := by
  induction n generalizing v with
  | zero => rfl
  | succ n ih => rw [leBytes, List.length_cons, ih]

/-- Settles O56: the result value and status word are the newest write, so a read finds them. -/
theorem timeMarkReturnsTimebase : Obligations.TimeMarkReturnsTimebase := fun w s hq hs ha => by
  rw [show Instr.timeMark w = commandRow 10 w from rfl, exec_commandRow_of_free hs]
  have hbody : (s.started 10 w).commandBody 10 w.slot = (s.started 10 w).done w.slot .none s.live.timebase.toNat :=
    State.requireActive_of_active (s := s.started 10 w) ha _ _
  refine ⟨?_, ?_⟩
  · rw [hbody, State.started_done_finish hq]
  · exact State.readBytes_of_newest (s := s)
      (bytes := leBytes 4 s.live.timebase.toNat ++ statusWordBytes .done .none w.tag) rfl rfl

end Sys2Proof.Machine
end

section
/-! Writes that are not taken, the consumer word, an ingress write that takes nothing, a stray completion, and the expiries
that start or append something (O13 to O16, O23, O30, O34). -/
namespace Sys2Proof.Machine

/-! ## Writes that are not taken -/

theorem State.ingressWrite_of_passive {u : State} (h : u.path.mode = .passive) (p : Port) (n : Nat) (g : Lanes) :
    u.ingressWrite p n g = u :=
  if_pos (by rw [State.isActive_eq_false.2 h]; rfl)

theorem State.takes_of_passive {s : State} (h : s.path.mode = .passive) (p : Port) (n : Nat) (g : Lanes) :
    s.takes p n g = false := by
  simp [State.takes, State.isActive_eq_false.2 h]

theorem State.completes_of_passive {s : State} (h : s.path.mode = .passive) (p : Port) (n : Nat) (g : Lanes) :
    s.completes p n g = none :=
  if_neg (by simp [State.isActive_eq_false.2 h])

theorem State.egressWrite_of_none {u : State} {p : Port} {n : Nat} {g : Lanes} (h : u.completes p n g = none) :
    u.egressWrite p n g = u := by
  unfold State.egressWrite
  rw [h]

theorem State.egressWrite_of_some {u : State} {p : Port} {n : Nat} {g : Lanes} {rec : SlotRecord}
    (h : u.completes p n g = some rec) : u.egressWrite p n g = u.takeCompletion p n rec (CompletionWord.read g) := by
  unfold State.egressWrite
  rw [h]

theorem State.statusWrite_of_not {u : State} {p : Port} {g : Lanes} (h : u.takesStatus p g = false) :
    u.statusWrite p g = u :=
  if_neg (by rw [h]; exact Bool.false_ne_true)

theorem State.takesStatus_of_passive {s : State} (h : s.path.mode = .passive) (p : Port) (g : Lanes) :
    s.takesStatus p g = false := by
  simp [State.takesStatus, State.isActive_eq_false.2 h]

theorem State.consumerWrite_of_passive {u : State} (h : u.path.mode = .passive) (g : Lanes) : u.consumerWrite g = u :=
  if_neg (by simp [State.isActive_eq_false.2 h])

/-- An area that a write finds uninterpreted: nothing changes. -/
theorem State.areaWrite_of_uninterpreted {u : State} {a : Area} {g : Lanes}
    (h : match a with
      | .other => True
      | .tables i => entryWrites i g = []
      | .commandSlot _ => False
      | _ => u.path.mode = .passive) : u.areaWrite a g = u := by
  cases a with
  | ingress p n => exact State.ingressWrite_of_passive h p n g
  | egress p n => exact State.egressWrite_of_none (State.completes_of_passive h p n g)
  | status p => exact State.statusWrite_of_not (State.takesStatus_of_passive h p g)
  | tables i => exact congrArg (List.foldl State.entryWrite u) h
  | commandSlot k => exact h.elim
  | consumer => exact State.consumerWrite_of_passive h g
  | other => rfl

/-- Settles O13: outside the window or in an area that does not interpret it, the write is forwarded alone. -/
theorem uninterpretedWriteReachesMemoryAlone : Obligations.UninterpretedWriteReachesMemoryAlone := fun a g s hq h => by
  have hforward : s.presentWrite a g = s.forward a g := by
    refine State.presentWrite_elim (P := fun u => u = s.forward a g) (fun _ => rfl) fun off ho => ?_
    rw [ho] at h
    dsimp only at h
    generalize areaOf off = area at h
    exact State.areaWrite_of_uninterpreted (by cases area <;> exact h)
  exact congrArg Host.Outcome.next ((congrArg State.finish hforward).trans (finish_forward _ _ _ hq))

/-- What a completion word must meet to be taken (R106). -/
theorem State.completes_eq_some {s : State} {p : Port} {n : Nat} {g : Lanes} {rec : SlotRecord} :
    s.completes p n g = some rec ↔
      s.path.mode = .active ∧ allStrobes g 56 8 = true ∧ (s.egressPort p).slots.find n = some rec ∧
        rec.lap = (CompletionWord.read g).lap := by
  unfold State.completes
  split
  case isTrue h =>
    rw [Bool.and_eq_true, State.isActive_eq_true] at h
    cases hf : (s.egressPort p).slots.find n with
    | none => simp
    | some r =>
      dsimp only
      split
      · constructor
        · intro e; cases e; exact ⟨h.1, h.2, rfl, ‹_›⟩
        · rintro ⟨-, -, e, -⟩; exact e
      · constructor
        · exact nofun
        · rintro ⟨-, -, e, hl⟩; cases e; exact absurd hl ‹_›
  case isFalse h =>
    rw [Bool.and_eq_true, State.isActive_eq_true] at h
    exact ⟨nofun, fun k => absurd ⟨k.1, k.2.1⟩ h⟩

/-- Settles O14: each owner leaves the state as the forwarding left it. -/
theorem writesNotTakenReachMemoryAlone : Obligations.WritesNotTakenReachMemoryAlone := by
  refine fun s hq => ⟨fun hp => ⟨fun p n g => ⟨?ingress, ?taking⟩, fun p g => ?status, fun g => ?consumer⟩,
    fun p n g h => ?completion, fun p g h => ?word⟩
  case ingress =>
    exact congrArg Host.Outcome.next ((congrArg State.finish
      (State.ingressWrite_of_passive (u := s.forward _ g) hp p n g)).trans (finish_forward _ _ _ hq))
  case taking =>
    change execTakingOfDescriptor p n g s = _
    unfold execTakingOfDescriptor
    rw [if_neg (by rw [State.takes_of_passive hp]; exact Bool.false_ne_true)]
    exact congrArg Host.Outcome.next ((congrArg State.finish
      (State.ingressWrite_of_passive (u := s.forward _ g) hp p n g)).trans (finish_forward _ _ _ hq))
  case status =>
    exact congrArg Host.Outcome.next ((congrArg State.finish
      (State.statusWrite_of_not (u := s.forward _ g) (State.takesStatus_of_passive hp p g))).trans (finish_forward _ _ _ hq))
  case consumer =>
    exact congrArg Host.Outcome.next ((congrArg State.finish
      (State.consumerWrite_of_passive (u := s.forward _ g) hp g)).trans (finish_forward _ _ _ hq))
  case completion =>
    have hnone : s.completes p n g = none := by
      cases hc : s.completes p n g with
      | none => rfl
      | some rec =>
        obtain ⟨ha, hs, hf, hl⟩ := State.completes_eq_some.1 hc
        rcases h with h | h | h | ⟨r, h, hr⟩
        · rw [ha] at h; cases h
        · rw [hs] at h; cases h
        · rw [hf] at h; cases h
        · rw [hf] at h; cases h; exact absurd hl hr
    exact congrArg Host.Outcome.next ((congrArg State.finish
      (State.egressWrite_of_none (u := s.forward _ g) hnone)).trans (finish_forward _ _ _ hq))
  case word =>
    have hnot : s.takesStatus p g = false := by
      rcases h with h | h <;> simp [State.takesStatus, h]
    exact congrArg Host.Outcome.next ((congrArg State.finish
      (State.statusWrite_of_not (u := s.forward _ g) hnot)).trans (finish_forward _ _ _ hq))

/-! ## The consumer word -/

/-- The write that crosses the part does not disturb what the action makes of a quiet state. -/
theorem State.forward_finish_of {s t : State} (hq : t.quiet) {a : Nat} {g : Lanes} {v : State}
    (hv : v = t.forward (s.windowAddr a) g) :
    v.finish = t.sending [s.crossing a g] := by
  rw [hv, finish_forward _ _ _ hq]
  rfl

/-- Settles O15. -/
theorem consumerWordTaken : Obligations.ConsumerWordTaken := by
  refine ⟨fun g s hq => congrArg Host.Outcome.next ?word, fun s => ?asserted, fun s k a b c => ⟨fun h => ?room, fun h => ?full⟩⟩
  case word =>
    refine State.forward_finish_of (s := s) (a := Config.consumerWord) (g := g) ?_ ?_
    · split <;> exact hq
    · unfold State.consumerWrite
      rw [show (s.forward (s.windowAddr Config.consumerWord) g).isActive = s.isActive from rfl]
      by_cases h : s.path.mode = .active ∧ allStrobes g 0 4 = true
      · rw [if_pos h, if_pos (Bool.and_eq_true_iff.2 ⟨State.isActive_eq_true.2 h.1, h.2⟩)]
        rfl
      · rw [if_neg h, if_neg fun k => h ((Bool.and_eq_true_iff.1 k).imp_left State.isActive_eq_true.1)]
  case asserted => exact decide_eq_true_iff
  case room =>
    rw [ask_of_room _ _ _ _ _ (show _ < Config.noticeRoom from h)]
    exact ⟨rfl, rfl⟩
  case full =>
    rw [ask_of_full _ _ _ _ _ (show Config.noticeRoom ≤ _ from h)]
    exact ⟨rfl, rfl⟩

/-! ## An ingress write that takes nothing -/

/-- Settles O16: by the slot written, the marker and the lap. -/
theorem ingressWriteStagesOrFaults : Obligations.IngressWriteStagesOrFaults := fun p n g s hq ha => by
  have hact : ¬(!(s.forward (s.windowAddr (ingressOffset p n)) g).isActive) = true := by
    simp [State.isActive, State.forward, ha]
  have hlap : (s.forward (s.windowAddr (ingressOffset p n)) g).intakePort p = s.intakePort p := rfl
  refine ⟨fun hm => congrArg Host.Outcome.next ?stage, fun hm hfault => congrArg Host.Outcome.next ?fault⟩
  case stage =>
    refine State.forward_finish_of (by split <;> exact hq) ?_
    unfold State.ingressWrite
    rw [if_neg hact, hlap, hm]
    by_cases hn : n.val = (s.intakePort p).slot
    · rw [if_pos hn, if_pos hn]
      rfl
    · rw [if_neg hn, if_neg hn]
      rfl
  case fault =>
    refine State.noticed_finish (by exact hq) (congrArg State.finish ?_)
    unfold State.ingressWrite
    rw [if_neg hact, hlap, if_pos hm, if_pos hm]
    by_cases hn : n.val = (s.intakePort p).slot
    · rw [if_pos hn, if_neg fun hl => hfault ⟨hn, hl⟩, if_pos hn]
      rfl
    · rw [if_neg hn, if_neg hn]
      rfl

/-! ## A stray completion -/

/-- Settles O23: the tag echoed differs, so the notice is all the completion brings. -/
theorem strayCompletionKeepsCopy : Obligations.StrayCompletionKeepsCopy := fun p n g s rec hq hc he => by
  have htake : (s.forward (s.windowAddr (egressOffset p n)) g).egressWrite p n g =
      (s.forward (s.windowAddr (egressOffset p n)) g).ask .strayCompletion p (2 ^ 24 * n + rec.tag)
        (2 ^ 24 * (CompletionWord.read g).status + (CompletionWord.read g).echo) :=
    (State.egressWrite_of_some (u := s.forward _ g) hc).trans (if_pos he)
  exact congrArg Host.Outcome.next (State.noticed_finish hq (congrArg State.finish htake))

/-! ## Expiries -/

/-- Settles O30. -/
theorem drainExpiryAppendsWork : Obligations.DrainExpiryAppendsWork := fun p s hq hl hd => by
  have hrow : exec (.drainExpiry p) s = .next (s.drainExpiry p).finish := if_pos ⟨hl, hd⟩
  rw [hrow]
  unfold State.drainExpiry State.appendWork
  by_cases hin : (p, WorkKind.drain) ∈ s.failover.work
  · rw [if_pos (show (p, WorkKind.drain) ∈ (s.stopDrain p).failover.work from hin), if_pos hin]
    exact congrArg Host.Outcome.next (finish_of_quiet _ hq)
  · rw [if_neg (show ¬(p, WorkKind.drain) ∈ (s.stopDrain p).failover.work from hin), if_neg hin]
    exact congrArg Host.Outcome.next (finish_of_quiet _ hq)

theorem agingSpan_eq (n : Nat) : agingSpan n = 10000 * max 1 n := by
  unfold agingSpan
  split <;> omega

/-- Settles O34: by whether a sweep runs. -/
theorem agingExpiryStartsSweep : Obligations.AgingExpiryStartsSweep := fun s hq ha hd => by
  have hrow : exec .agingPeriodExpiry s = .next s.agingExpiry.finish :=
    if_pos (Bool.and_eq_true_iff.2 ⟨State.isActive_eq_true.2 ha, hd⟩)
  rw [hrow, ← agingSpan_eq]
  refine ⟨fun hs => ?start, fun c hs => ?overrun⟩
  case start =>
    unfold State.agingExpiry
    rw [hs]
    exact congrArg Host.Outcome.next (finish_of_quiet _ hq)
  case overrun =>
    unfold State.agingExpiry
    rw [hs]
    exact congrArg Host.Outcome.next (State.noticed_finish (by exact hq) rfl)

end Sys2Proof.Machine
end

section
/-! Retirement (R16, R17): what every record reads after it, and what reports and refill runs leave of the records (O25). -/
namespace Sys2Proof.Machine

/-! ## Reports and refill runs keep the records -/

/-- The frame and copy records, the link map, the free copy list, the meters and the held counts are the same. -/
structure SameRecords (s t : State) : Prop where
  frames : t.cells.frames = s.cells.frames
  copies : t.cells.copies = s.cells.copies
  links : t.cells.links = s.cells.links
  freeCopies : t.cells.freeCopies = s.cells.freeCopies
  meters : t.admission.meters = s.admission.meters
  held : t.admission.held = s.admission.held

namespace SameRecords

variable {r s t : State}

theorem refl (s : State) : SameRecords s s := ⟨rfl, rfl, rfl, rfl, rfl, rfl⟩

theorem trans (h : SameRecords r s) (k : SameRecords s t) : SameRecords r t :=
  ⟨k.frames.trans h.frames, k.copies.trans h.copies, k.links.trans h.links, k.freeCopies.trans h.freeCopies,
    k.meters.trans h.meters, k.held.trans h.held⟩

theorem of_blocks (hc : t.cells = s.cells) (ha : t.admission = s.admission) : SameRecords s t :=
  ⟨by rw [hc], by rw [hc], by rw [hc], by rw [hc], by rw [ha], by rw [ha]⟩

theorem setShed (h : SameRecords r s) (l : ShedLevel) : SameRecords r (s.setShed l) :=
  h.trans ⟨by simp [State.setShed], by simp [State.setShed], by simp [State.setShed], by simp [State.setShed],
    by simp [State.setShed], by simp [State.setShed]⟩

theorem refillPort (h : SameRecords r s) (p : Port) : SameRecords r (s.refillPort p) := by
  unfold State.refillPort
  split
  exacts [h, h.trans ⟨rfl, rfl, rfl, rfl, rfl, rfl⟩]

theorem refillRun (h : SameRecords r s) : SameRecords r s.refillRun := by
  have foldl (l : List Port) (u : State) (hu : SameRecords r u) : SameRecords r (l.foldl State.refillPort u) := by
    induction l generalizing u with
    | nil => exact hu
    | cons p l ih => exact ih _ (hu.refillPort p)
  unfold State.refillRun
  split
  exacts [foldl _ _ h, h]

theorem reportFree (n : Nat) (h : SameRecords r s) : SameRecords r (s.reportFree n) := by
  induction n generalizing s with
  | zero => exact h
  | succ n ih =>
    dsimp only [State.reportFree]
    split
    · exact h
    · split
      · split
        exacts [h.setShed _, ih (h.setShed _).refillRun]
      · exact h.setShed _

theorem report (h : SameRecords r s) : SameRecords r s.report := h.reportFree 3

theorem refill (h : SameRecords r s) : SameRecords r s.refill := by
  unfold State.refill
  split
  exacts [h, h.refillRun.report]

theorem settle (h : SameRecords r s) (before : Nat) : SameRecords r (s.settle before) := by
  unfold State.settle
  split
  exacts [h, h.report.refill]

theorem copy (h : SameRecords s t) (j : Nat) : t.copy j = s.copy j := by unfold State.copy; rw [h.copies]
theorem frame (h : SameRecords s t) (j : Nat) : t.frame j = s.frame j := by unfold State.frame; rw [h.frames]
theorem heldCells (h : SameRecords s t) (m : Tenant) : t.heldCells m = s.heldCells m := by
  unfold State.heldCells; rw [h.held]

end SameRecords

/-! ## One retirement -/

theorem Table.find_foldl_erase {α : Type} (l : List Nat) (m : Table α) (c : Nat) :
    (l.foldl (fun m c => m.erase c) m).find c = if c ∈ l then none else m.find c := by
  induction l generalizing m with
  | nil => simp
  | cons d l ih =>
    rw [List.foldl_cons, ih, Table.find_erase]
    by_cases h : c = d <;> by_cases hl : c ∈ l <;> simp [h, hl]

/-- The target-port set without the copy's port (R16). -/
def Copy.leaves (k : Copy) (f : Frame) : List Port := f.ports.filter fun q => some q ≠ k.port

theorem Copy.leaves_of_none {k : Copy} (h : k.port = none) (f : Frame) : k.leaves f = f.ports := by
  simp [Copy.leaves, h]

theorem Copy.leaves_of_some {k : Copy} {p : Port} (h : k.port = some p) (f : Frame) :
    k.leaves f = f.ports.filter (· ≠ p) := by
  simp [Copy.leaves, h]

theorem State.leaveCopyPort_of_none {s : State} {k : Copy} (h : k.port = none) : s.leaveCopyPort k = s := by
  simp [State.leaveCopyPort, h]

theorem State.leavePort_of_frame {s : State} {n : Nat} {f : Frame} (h : s.frame n = some f) (p : Port) :
    s.leavePort n p = s.setFrame n { f with ports := f.ports.filter (· ≠ p) } := by
  simp [State.leavePort, h, dropPort]

theorem State.leaveCopyPort_of_some {s : State} {k : Copy} {p : Port} {f : Frame} (h : k.port = some p)
    (hf : s.frame k.frame = some f) : s.leaveCopyPort k = s.setFrame k.frame { f with ports := k.leaves f } := by
  rw [Copy.leaves_of_some h, ← State.leavePort_of_frame hf]
  simp [State.leaveCopyPort, h]

theorem State.leaveCopyPort_frame {s : State} {k : Copy} {f : Frame} (hf : s.frame k.frame = some f) (j : Nat) :
    (s.leaveCopyPort k).frame j = if j = k.frame then some { f with ports := k.leaves f } else s.frame j := by
  cases h : k.port with
  | none =>
    rw [State.leaveCopyPort_of_none h, Copy.leaves_of_none h]
    split
    · subst_vars; exact hf
    · rfl
  | some p => rw [State.leaveCopyPort_of_some h hf, State.setFrame_frame]

/-- What leaving the port changes: the frame table at most. -/
theorem State.leaveCopyPort_eq (s : State) (k : Copy) :
    s.leaveCopyPort k = { s with cells := { s.cells with frames := (s.leaveCopyPort k).cells.frames } } := by
  unfold State.leaveCopyPort State.leavePort
  split
  · split <;> rfl
  · rfl

/-- What is counted for a retirement depends on the accounting unit and the installed tariffs alone. -/
theorem State.countRetired_acct_congr {s u : State} (ha : u.acct = s.acct) (ht : u.tables = s.tables) (cause : RetireCause)
    (f : Frame) (ports : List Port) (k : Copy) :
    (u.countRetired cause { f with ports := ports } k).acct = (s.countRetired cause f k).acct := by
  cases cause <;>
    simp [State.countRetired, State.countDelivered, State.countDrop, State.countMerged, State.updateLive,
      State.setTenantRecord, State.tenantRecord, State.tariff, State.tariffSet, State.tenantEntry, ha, ht]

/-- The records after copy `tag`, record `k`, of frame `f` has been retired (R16, R17). -/
structure Retired (s u : State) (tag : Nat) (k : Copy) (f : Frame) (cause : RetireCause) : Prop where
  copy : ∀ j, u.copy j = if j = tag then none else s.copy j
  frame : ∀ j, u.frame j =
    if j = k.frame then
      (if 2 ≤ f.copyCount then some { f with copyCount := f.copyCount - 1, ports := k.leaves f } else none)
    else s.frame j
  links : ∀ c, u.cells.links.find c = if c ∈ s.freedBy k.frame f then none else s.cells.links.find c
  held : ∀ m : Tenant, u.heldCells m = s.heldCells m - if m = f.tenant ∧ f.copyCount < 2 then f.cellCount else 0
  meters : u.admission.meters = s.admission.meters
  shed : u.admission.shed = s.admission.shed
  freeCopies : u.cells.freeCopies = Runs.push s.cells.freeCopies tag
  freeList : u.cells.freeList = Runs.pushAll s.cells.freeList (s.freedBy k.frame f)
  ports : u.cells.ports = s.cells.ports
  acct : u.acct = (s.countRetired cause f k).acct

theorem State.countRetired_eq (s : State) (cause : RetireCause) (f : Frame) (k : Copy) :
    s.countRetired cause f k = { s with acct := (s.countRetired cause f k).acct } := by
  cases cause <;> rfl

theorem State.retire_retired {s : State} {tag : Nat} {k : Copy} {f : Frame} (hk : s.copy tag = some k)
    (hf : s.frame k.frame = some f) (cause : RetireCause) : Retired s (s.retire tag cause) tag k f cause := by
  have hframe := State.leaveCopyPort_frame (s := s) (k := k) hf
  have hfr : (s.leaveCopyPort k).frame k.frame = some { f with ports := k.leaves f } := by rw [hframe, if_pos rfl]
  have hacct : ((s.leaveCopyPort k).countRetired cause { f with ports := k.leaves f } k).acct = (s.countRetired cause f k).acct :=
    State.countRetired_acct_congr (by rw [State.leaveCopyPort_eq]) (by rw [State.leaveCopyPort_eq]) _ _ _ _
  rcases s.retire_cases tag cause with ⟨hn, -⟩ | ⟨k', hk', ⟨hn, -⟩ | ⟨f', hf', he⟩⟩
  · rw [hk] at hn; cases hn
  · rw [hk] at hk'; cases hk'; rw [hfr] at hn; cases hn
  rw [hk] at hk'; cases hk'
  have hcount (g : Frame) : ((s.leaveCopyPort k).countRetired cause g k).releaseRecord tag =
      { s with
        cells := { s.cells with
          frames := (s.leaveCopyPort k).cells.frames, copies := s.cells.copies.erase tag
          freeCopies := Runs.push s.cells.freeCopies tag }
        acct := ((s.leaveCopyPort k).countRetired cause g k).acct } := by
    rw [State.countRetired_eq]; generalize State.acct _ = a; rw [State.leaveCopyPort_eq]; rfl
  have hff : f' = { f with ports := k.leaves f } := by
    rw [hcount] at hf'
    exact Option.some.inj (hf'.symm.trans hfr)
  subst hff
  rcases he with ⟨h1, e⟩ | ⟨h1, e⟩
  · have hlt : f.copyCount < 2 := Nat.lt_succ_of_le h1
    have hfreed : s.freedBy k.frame f = linkedCells s.cells.links s.cells.links.length k.frame := if_neg (by omega)
    rw [e, hcount]
    constructor
    case copy => exact Table.find_erase _ _
    case frame =>
      intro j
      refine (Table.find_erase _ _ _).trans ?_
      split
      · rw [if_neg (by omega)]
      · exact (hframe j).trans (if_neg ‹_›)
    case links => rw [hfreed]; exact Table.find_foldl_erase _ _
    case held =>
      intro m
      refine (State.setHeldCells_heldCells _ _ _ _).trans ?_
      split
      · subst_vars; rw [if_pos ⟨rfl, hlt⟩]; rfl
      · rw [if_neg fun h => absurd h.1 ‹_›]; rfl
    case freeList => rw [hfreed]; rfl
    case acct => exact hacct
    all_goals rfl
  · have h2 : 2 ≤ f.copyCount := Nat.lt_of_not_le h1
    have hfreed : s.freedBy k.frame f = [] := if_pos h2
    rw [e, hcount]
    constructor
    case copy => exact Table.find_erase _ _
    case frame =>
      intro j
      refine (Table.find_put _ _ _ _).trans ?_
      split
      · rfl
      · exact (hframe j).trans (if_neg ‹_›)
    case links => intro c; rw [hfreed, if_neg List.not_mem_nil]; rfl
    case held => intro m; rw [if_neg fun h => absurd h.2 (by omega), Nat.sub_zero]; rfl
    case freeList => rw [hfreed]; rfl
    case acct => exact hacct
    all_goals rfl

namespace Retired

variable {s u t : State} {tag : Nat} {k : Copy} {f : Frame} {cause : RetireCause}

/-- The freed cells join the free list; nothing else that reports and refill runs read has changed. -/
theorem agrees (h : Retired s u tag k f cause) (ho : s.sameOutside [.cells, .admission, .acct] u) :
    Agrees (s.freed (s.freedBy k.frame f)) u :=
  .of_eq (by rw [ho.path]; rfl) (by rw [ho.path]; rfl) ho.tables (by rw [ho.live]; rfl) h.freeList h.ports h.shed ho.notices
    ho.bus

/-- Later reports and refill runs change nothing that `State.lostCopy` reads. -/
theorem lostCopy (h : Retired s u tag k f cause) (hr : SameRecords u t) (ha : t.acct = u.acct) :
    s.lostCopy t tag k f (s.countRetired cause f k) := by
  refine ⟨by rw [hr.copy, h.copy, if_pos rfl], by rw [hr.frame, h.frame, if_pos rfl]; rfl, fun c => ?_, fun m => ?_, ?_,
    ha.trans h.acct⟩
  · rw [hr.links, h.links]
  · rw [hr.heldCells, h.held]
  · rw [hr.freeCopies, h.freeCopies, Runs.toList_push]

end Retired

/-- Settles O25: the retirement's records, the frame's last copy gone. -/
theorem lastRetirementFreesFrame : Obligations.LastRetirementFreesFrame := fun s tag cause k f hk hf h1 => by
  have h := State.retire_retired hk hf cause
  have hlt : f.copyCount < 2 := Nat.lt_succ_of_le h1
  have hfreed : s.freedBy k.frame f = linkedCells s.cells.links s.cells.links.length k.frame := if_neg (by omega)
  refine ⟨?_, ?_, ?_, ?_, fun c hc => ?_, ?_, h.acct, fun j hj => ?_, fun j hj => ?_, fun n hn => ?_, h.meters,
    s.retire_outside tag cause⟩
  · rw [h.frame, if_pos rfl, if_neg (by omega)]
  · rw [h.copy, if_pos rfl]
  · rw [h.freeCopies, Runs.toList_push]
  · rw [h.freeList, Runs.toList_pushAll, hfreed]
  · rw [h.links, hfreed, if_pos hc]
  · rw [h.held, if_pos ⟨rfl, hlt⟩]
  · rw [h.copy, if_neg hj]
  · rw [h.frame, if_neg hj]
  · rw [h.held, if_neg fun e => hn e.1, Nat.sub_zero]

end Sys2Proof.Machine
end

section
/-! Group states (R131, R132): what a recompute reads, and what a recompute of many groups makes of their states and
notices (O33, O31). -/
namespace Sys2Proof.Machine

/-! ## What a recompute reads -/

section congr
variable {s t : State} (ht : t.tables = s.tables) (hl : t.live.ports = s.live.ports)
include ht

theorem State.groupEntry_congr (g : GroupId) : t.groupEntry g = s.groupEntry g := by
  unfold State.groupEntry; rw [ht]

theorem State.portEntry_congr (p : Port) : t.portEntry p = s.portEntry p := by unfold State.portEntry; rw [ht]

theorem State.groupsOf_congr (p : Port) : t.groupsOf p = s.groupsOf p := by
  unfold State.groupsOf State.groupEntry; rw [ht]

include hl

theorem State.usable_congr (g : GroupId) : t.usable g = s.usable g := by
  unfold State.usable State.groupEntry State.isUp State.liveness State.livePort; rw [ht, hl]

theorem State.memberChoice_congr (g : GroupId) (h : Nat) : t.memberChoice g h = s.memberChoice g h := by
  unfold State.memberChoice; rw [State.usable_congr ht hl, State.groupEntry_congr ht]

omit hl
variable (hw : t.failover.work = s.failover.work) (hk : t.failover.walk = s.failover.walk)
include hw hk

theorem State.evacuatingMembers_congr (g : GroupId) : t.evacuatingMembers g = s.evacuatingMembers g := by
  unfold State.evacuatingMembers State.groupEntry State.evacuating; rw [ht, hw, hk]

include hl

theorem State.computeGroup_congr (g : GroupId) : t.computeGroup g = s.computeGroup g := by
  unfold State.computeGroup; rw [State.usable_congr ht hl, State.evacuatingMembers_congr ht hw hk]

end congr

theorem State.groupState_congr {s t : State} (h : t.failover.groupStates = s.failover.groupStates) (g : GroupId) :
    t.groupState g = s.groupState g := by unfold State.groupState; rw [h]

/-! ## One recompute -/

/-- The notice of a group whose state changes as found, if it does (R132). -/
def State.recomputeAsk (s : State) (g : GroupId) : List NoticeAsk :=
  if s.computeGroup g = s.groupState g then []
  else
    [{ kind := .groupState, subject := g, first := 2 ^ 8 * (s.groupState g).code + (s.computeGroup g).code,
       second := 2 ^ 16 * (s.usable g).length + (s.evacuatingMembers g).length }]

theorem State.recomputeGroup_groupState (s : State) (g h : GroupId) :
    (s.recomputeGroup g).groupState h = if h = g then s.computeGroup g else s.groupState h := by
  rcases s.recomputeGroup_cases g with ⟨e, h1⟩ | ⟨-, h1⟩
  · rw [h1]
    split
    · subst_vars; exact e.symm
    · rfl
  · rw [h1, State.groupState_congr (s := s.setGroupState g (s.computeGroup g)) (by simp), State.setGroupState_groupState]

/-- A recompute writes the state of its group alone. -/
theorem State.recomputeGroup_failover (s : State) (g : GroupId) :
    (s.recomputeGroup g).failover =
      { s.failover with groupStates := (s.recomputeGroup g).failover.groupStates } := by
  rcases s.recomputeGroup_cases g with ⟨-, h⟩ | ⟨-, h⟩
  · rw [h]
  · rw [h, State.ask_failover]; rfl

theorem State.recomputeGroup_agrees (s : State) (g : GroupId) : Agrees (s.noticed (s.recomputeAsk g)) (s.recomputeGroup g) := by
  unfold State.recomputeAsk
  rcases s.recomputeGroup_cases g with ⟨e, h⟩ | ⟨e, h⟩
  · rw [h, if_pos e]; exact .refl s
  · rw [h, if_neg e]
    have hset : Agrees s (s.setGroupState g (s.computeGroup g)) := (State.failover_outside s _).agrees
    exact hset.ask _ _ _ _

/-! ## Many recomputes -/

theorem State.recomputeGroups_failover (s : State) (l : List GroupId) :
    (l.foldl State.recomputeGroup s).failover =
      { s.failover with groupStates := (l.foldl State.recomputeGroup s).failover.groupStates } := by
  induction l generalizing s with
  | nil => rfl
  | cons g l ih => rw [List.foldl_cons, ih, State.recomputeGroup_failover]

section afterRecompute
variable (s : State) (l : List GroupId)

theorem State.recomputeGroups_usable (g : GroupId) : (l.foldl State.recomputeGroup s).usable g = s.usable g :=
  State.usable_congr (s.recomputeGroups_outside l).tables (by rw [(s.recomputeGroups_outside l).live]) g

theorem State.recomputeGroups_evacuatingMembers (g : GroupId) :
    (l.foldl State.recomputeGroup s).evacuatingMembers g = s.evacuatingMembers g :=
  State.evacuatingMembers_congr (s.recomputeGroups_outside l).tables (by rw [State.recomputeGroups_failover])
    (by rw [State.recomputeGroups_failover]) g

theorem State.recomputeGroups_computeGroup (g : GroupId) :
    (l.foldl State.recomputeGroup s).computeGroup g = s.computeGroup g :=
  State.computeGroup_congr (s.recomputeGroups_outside l).tables (by rw [(s.recomputeGroups_outside l).live])
    (by rw [State.recomputeGroups_failover]) (by rw [State.recomputeGroups_failover]) g

end afterRecompute

/-- Each group of the list takes the state found, whatever the order; the others stand. -/
theorem State.recomputeGroups_groupState (s : State) (l : List GroupId) (g : GroupId) :
    (l.foldl State.recomputeGroup s).groupState g = if g ∈ l then s.computeGroup g else s.groupState g := by
  induction l generalizing s with
  | nil => rw [if_neg List.not_mem_nil]; rfl
  | cons h l ih =>
    rw [List.foldl_cons, ih, show (s.recomputeGroup h).computeGroup g = _ from s.recomputeGroups_computeGroup [h] g,
      State.recomputeGroup_groupState]
    by_cases hg : g ∈ l
    · rw [if_pos hg, if_pos (List.mem_cons_of_mem _ hg)]
    · by_cases hgh : g = h
      · subst hgh; rw [if_neg hg, if_pos rfl, if_pos List.mem_cons_self]
      · rw [if_neg hg, if_neg hgh, if_neg (by simp [hg, hgh])]

theorem State.recomputeGroups_recomputed (s : State) (l : List GroupId) :
    s.recomputed (l.foldl State.recomputeGroup s) l := fun g => by
  rw [State.recomputeGroups_groupState, State.recomputeGroups_computeGroup]

/-- The notices that recomputes of the groups ask for, as read from the states before and after (R132). -/
theorem State.groupAsks_eq {s t : State} {l : List GroupId} (hs : ∀ g ∈ l, t.groupState g = s.computeGroup g)
    (hu : ∀ g ∈ l, t.usable g = s.usable g) (he : ∀ g ∈ l, t.evacuatingMembers g = s.evacuatingMembers g) :
    s.groupAsks t l = l.flatMap s.recomputeAsk := by
  induction l with
  | nil => rfl
  | cons g l ih =>
    have hg := List.mem_cons_self (a := g) (l := l)
    rw [List.flatMap_cons, ← ih (fun h hh => hs h (List.mem_cons_of_mem _ hh)) (fun h hh => hu h (List.mem_cons_of_mem _ hh))
      fun h hh => he h (List.mem_cons_of_mem _ hh)]
    unfold State.groupAsks State.recomputeAsk
    rw [List.filter_cons, hs g hg]
    by_cases hc : s.computeGroup g = s.groupState g
    · rw [if_neg (by simpa using hc), if_pos hc]; rfl
    · rw [if_pos (by simpa using hc), if_neg hc, List.map_cons, hs g hg, hu g hg, he g hg]; rfl

theorem State.groupAsks_congr {s t u : State} {l : List GroupId} (hg : ∀ g ∈ l, t.groupState g = u.groupState g)
    (hu : ∀ g ∈ l, t.usable g = u.usable g) (he : ∀ g ∈ l, t.evacuatingMembers g = u.evacuatingMembers g) :
    s.groupAsks t l = s.groupAsks u l := by
  unfold State.groupAsks
  rw [List.filter_congr fun g h => by rw [hg g h]]
  refine List.map_congr_left fun g h => ?_
  have hl := (List.mem_filter.1 h).1
  rw [hg g hl, hu g hl, he g hl]

/-- Recomputes of distinct groups ask for the notices of those that change, in their order (R132). -/
theorem State.recomputeGroups_agrees (s : State) {l : List GroupId} (hl : l.Nodup) :
    Agrees (s.noticed (s.groupAsks (l.foldl State.recomputeGroup s) l)) (l.foldl State.recomputeGroup s) := by
  rw [State.groupAsks_eq (fun g hg => by rw [State.recomputeGroups_groupState, if_pos hg])
    (fun g _ => s.recomputeGroups_usable l g) fun g _ => s.recomputeGroups_evacuatingMembers l g]
  induction l generalizing s with
  | nil => exact .refl s
  | cons g l ih =>
    have hg : g ∉ l := (List.nodup_cons.1 hl).1
    have hrest : l.flatMap (s.recomputeGroup g).recomputeAsk = l.flatMap s.recomputeAsk := by
      refine List.flatMap_congr fun h hh => ?_
      have hne : h ≠ g := fun e => hg (e ▸ hh)
      unfold State.recomputeAsk
      rw [show (s.recomputeGroup g).computeGroup h = _ from s.recomputeGroups_computeGroup [g] h,
        show (s.recomputeGroup g).usable h = _ from s.recomputeGroups_usable [g] h,
        show (s.recomputeGroup g).evacuatingMembers h = _ from s.recomputeGroups_evacuatingMembers [g] h,
        State.recomputeGroup_groupState, if_neg hne]
    rw [List.flatMap_cons, State.noticed_append, List.foldl_cons, ← hrest]
    exact Follows.agrees_left ((s.recomputeGroup_agrees g).noticed _) (ih _ (List.nodup_cons.1 hl).2)

theorem nodup_allGroups : allGroups.Nodup := List.nodup_finRange 64

theorem mem_allGroups (g : GroupId) : g ∈ allGroups := List.mem_finRange g

theorem State.nodup_groupsOf (s : State) (p : Port) : (s.groupsOf p).Nodup := nodup_allGroups.filter _

/-! ## The statements -/

theorem State.isUp_iff {s : State} {p : Port} : s.isUp p = true ↔ s.liveness p = .up := decide_eq_true_iff

theorem State.mem_usable {s : State} {g : GroupId} {m : Port} :
    m ∈ s.usable g ↔ m ∈ (s.groupEntry g).ports ∧ s.liveness m = .up := by
  rw [State.usable, List.mem_filter, State.isUp_iff]

theorem State.usable_eq_nil {s : State} {g : GroupId} :
    s.usable g = [] ↔ ∀ m ∈ (s.groupEntry g).ports, s.liveness m ≠ .up := by
  simp [State.usable, State.isUp_iff, List.filter_eq_nil_iff]

/-- Scaled by a fraction below 1, a place stays inside a list that is not empty. -/
theorem spread_index_lt {h n : Nat} (hh : h < 2 ^ 16) (hn : 0 < n) : h * n / 2 ^ 16 < n :=
  Nat.div_lt_of_lt_mul (Nat.mul_lt_mul_of_pos_right hh hn)

theorem State.memberChoice_mem {s : State} {g : GroupId} {h : Nat} {m : Port} (e : s.memberChoice g h = some m) :
    m ∈ s.usable g := by
  unfold State.memberChoice at e
  dsimp only at e
  split at e
  · exact List.mem_of_head? e
  · exact List.mem_of_getElem? e

theorem State.memberChoice_eq_none {s : State} {g : GroupId} {h : Nat} (hh : h < 2 ^ 16) :
    s.memberChoice g h = none ↔ s.usable g = [] := by
  unfold State.memberChoice
  dsimp only
  split
  · exact List.head?_eq_none_iff
  · rw [List.getElem?_eq_none_iff]
    constructor
    · intro hle
      by_contra hne
      exact absurd hle (Nat.not_le.2 (spread_index_lt hh (List.length_pos_iff.2 hne)))
    · intro e; rw [e]; exact Nat.zero_le _

theorem State.evacuating_iff {s : State} {p : Port} :
    s.evacuating p = true ↔
      (p, WorkKind.evacuate) ∈ s.failover.work ∨
        ∃ w, s.failover.walk = some w ∧ w.port = p ∧ w.kind = .evacuate := by
  unfold State.evacuating
  rw [Bool.or_eq_true, decide_eq_true_iff]
  cases s.failover.walk <;> simp

theorem State.computeGroup_eq_evacuating {s : State} {g : GroupId} :
    s.computeGroup g = .evacuating ↔ s.evacuatingMembers g ≠ [] := by
  unfold State.computeGroup
  split
  · simp_all
  · split <;> simp_all

/-- Settles O33. -/
theorem memberChoiceIsUsable : Obligations.MemberChoiceIsUsable := by
  refine ⟨fun s g h hh => ⟨?none, fun m e => State.mem_usable.1 (State.memberChoice_mem e), fun hm => ?ordered, fun hm => ?spread⟩,
    fun s g => ⟨?evacuating, fun hne => ?active⟩, fun s g hq => ⟨?recomputed, ?sends⟩⟩
  case none => rw [State.memberChoice_eq_none hh, State.usable_eq_nil]
  case ordered =>
    unfold State.memberChoice
    dsimp only
    rw [hm]
    exact List.head?_filter
  case spread =>
    unfold State.memberChoice
    dsimp only
    rw [hm, Nat.shiftRight_eq_div_pow]
    rfl
  case evacuating =>
    rw [State.computeGroup_eq_evacuating, State.evacuatingMembers, Ne, List.filter_eq_nil_iff]
    simp [State.evacuating_iff, or_iff_not_imp_left]
  case active =>
    have hnil : s.evacuatingMembers g = [] := by
      by_contra h
      exact hne (State.computeGroup_eq_evacuating.2 h)
    rw [← not_iff_not]
    have husable := State.usable_eq_nil (s := s) (g := g)
    unfold State.computeGroup
    rw [hnil]
    push Not
    rw [← husable]
    cases s.usable g <;> simp
  case recomputed => exact s.recomputeGroups_recomputed [g]
  case sends =>
    have h := s.recomputeGroups_agrees (List.nodup_singleton g)
    exact State.delivers_noticed hq
      (h.finish_delivers hq ((Gathers.refl s).noticed _) ((Keeps.refl s).recomputeGroup g).sent)

/-- Settles O31: the walk recorded and the mark set, the recomputes of the port's groups follow. -/
theorem walkStartTakesHeadEntry : Obligations.WalkStartTakesHeadEntry := fun s p k rest hq hw hl => by
  obtain ⟨s2, hs2⟩ : ∃ s2 : State, s2 =
      if k = .drain then ((s.setWork rest).setWalk (some
        { port := p, kind := k, tails := allClasses.map fun c => (s.queue p c).getLast?, cls := 0, resume := none })).setDrained p true
      else (s.setWork rest).setWalk (some
        { port := p, kind := k, tails := allClasses.map fun c => (s.queue p c).getLast?, cls := 0, resume := none }) := ⟨_, rfl⟩
  have hrow : exec .walkStart s = .next (s2.recomputeGroupsOf p).finish := by
    change Host.Outcome.next s.walkStartEvent.finish = _
    unfold State.walkStartEvent State.startWalk
    rw [hw, hl, hs2]
  have hout : s.sameOutside [.failover] s2 := by rw [hs2]; split <;> exact s.failover_outside _
  have hgs : ∀ g, s2.groupState g = s.groupState g :=
    State.groupState_congr (by rw [hs2]; split <;> rfl)
  have hgroups : s2.groupsOf p = s.groupsOf p := State.groupsOf_congr hout.tables p
  have hfail := s2.recomputeGroups_failover (s2.groupsOf p)
  have hafter := s2.recomputeGroups_outside (s2.groupsOf p)
  refine ⟨_, hrow, ?_, ?_, fun q => ?_, ?_, fun g => ?_, ?_, ?_⟩
  · show (State.failover (List.foldl _ _ _)).work = rest
    rw [hfail, hs2]; split <;> rfl
  · show (State.failover (List.foldl _ _ _)).walk = _
    rw [hfail, hs2]; split <;> rfl
  · show (State.failover (List.foldl _ _ _)).drained.getD q false = _
    rw [hfail, hs2]
    by_cases hk : k = .drain
    · rw [if_pos hk]
      exact ((s.setDrained_isDrained p q true)).trans (by simp [hk])
    · rw [if_neg hk, if_neg fun h => hk h.2]; rfl
  · show (State.failover (List.foldl _ _ _)).hold = _
    rw [hfail, hs2]; split <;> rfl
  · have h := s2.recomputeGroups_recomputed (s2.groupsOf p) g
    rw [hgs] at h
    rw [← hgroups]
    exact h
  · have h := s2.recomputeGroups_agrees (s2.nodup_groupsOf p)
    have hasks : ∀ t l, s2.groupAsks t l = s.groupAsks t l := fun t l => by
      unfold State.groupAsks; simp only [hgs]
    rw [hasks] at h
    have hfollow := Follows.agrees_left (hout.agrees.noticed _) h
    rw [← hgroups]
    exact State.delivers_noticed hq (hfollow.finish_delivers hq ((Gathers.refl s).noticed _)
      (by rw [((Keeps.refl s2).recomputeGroupsOf p).sent, hout.bus]))
  · exact ((hout.mono (by decide)).andThen hafter).andThen (State.finish_outside _)

end Sys2Proof.Machine
end

section
/-! Changes of liveness state (R116, R118, R124, R128): what each brings for the port, the work list, the flush queue, the
groups and the notices (O27, O29, O52, O53). -/
namespace Sys2Proof.Machine

/-! ## The by-port flush -/

theorem State.offerFlush_congr {s u : State} (h : u.lookup = s.lookup) (r : FlushReq) (l : List SlotId) :
    (u.offerFlush r l).2 = (s.offerFlush r l).2 ∧ (u.offerFlush r l).1.lookup = (s.offerFlush r l).1.lookup := by
  have hstart (v v' : State) (e : v.lookup = v'.lookup) : v.startFlush.lookup = v'.startFlush.lookup := by
    unfold State.startFlush
    rw [e]
    split
    · rfl
    · exact e
  unfold State.offerFlush State.flushQueued
  rw [h]
  split
  · exact ⟨rfl, rfl⟩
  · split
    · exact ⟨rfl, hstart _ _ rfl⟩
    · exact ⟨rfl, h⟩

/-- The notice of a by-port flush that the full queue refuses (R51, R53). -/
def State.flushLostAsks (s : State) (p : Port) : List NoticeAsk :=
  if (s.offerFlush (.byPort p) []).2 = false then [{ kind := .flushLost, subject := p, first := 0, second := 0 }] else []

theorem State.flushByPort_lookup (s : State) (p : Port) :
    (s.flushByPort p).lookup = (s.offerFlush (.byPort p) []).1.lookup := by
  unfold State.flushByPort
  dsimp only
  split
  · rfl
  · rw [State.ask_lookup]
    rcases s.offerFlush_cases (.byPort p) [] with ⟨-, e⟩ | ⟨-, -, e⟩ | ⟨-, -, e⟩ <;> simp_all

theorem State.flushByPort_outside (s : State) (p : Port) :
    s.sameOutside [.lookup, .notices, .bus] (s.flushByPort p) := by
  unfold State.flushByPort
  dsimp only
  split
  · rw [State.offerFlush_eq]; exact (s.lookup_outside _).mono (by decide)
  · exact (s.ask_outside _ _ _ _).mono (by decide)

theorem State.flushByPort_agrees (s : State) (p : Port) : Agrees (s.noticed (s.flushLostAsks p)) (s.flushByPort p) := by
  unfold State.flushByPort State.flushLostAsks
  dsimp only
  by_cases h : (s.offerFlush (.byPort p) []).2 = true
  · rw [if_neg (by simp [h]), if_pos h, State.offerFlush_eq]
    exact (s.lookup_outside _).agrees
  · rw [if_pos (by simpa using h), if_neg h]
    exact .refl _

/-! ## A change of liveness state -/

/-- What any change of liveness state of `p` leaves between `s` and `t`; none changes where the state stands (R116, R132). -/
structure LiveChange (s t : State) (p : Port) (cause : StateCause) : Prop where
  others : ∀ q : Port, q ≠ p → t.livePort q = s.livePort q
  groups : s.groupsFollow t p
  follows : Agrees (s.noticed (s.liveAsks t p cause)) t
  failover : t.failover = { s.failover with work := t.failover.work, groupStates := t.failover.groupStates }
  outside : s.sameOutside [.live, .lookup, .failover, .notices, .bus] t

theorem State.setLivePort_agrees (s : State) (p : Port) (v : LivePort) : Agrees s (s.setLivePort p v) :=
  .of_eq rfl rfl rfl rfl rfl rfl rfl rfl rfl

theorem State.setLivePort_outside (s : State) (p : Port) (v : LivePort) : s.sameOutside [.live] (s.setLivePort p v) := by
  simp [State.sameOutside]

theorem LiveChange.setLivePort {s : State} {p : Port} {v : LivePort} (h : v.state = s.liveness p) (cause : StateCause) :
    LiveChange s (s.setLivePort p v) p cause := by
  have hl : (s.setLivePort p v).liveness p = s.liveness p := by simpa [State.liveness] using h
  refine ⟨fun q hq => by rw [State.setLivePort_livePort, if_neg hq], fun g => ?_, ?_, rfl,
    (s.setLivePort_outside p v).mono (by decide)⟩
  · rw [if_pos hl, if_neg List.not_mem_nil]; rfl
  · rw [State.liveAsks, if_pos hl]; exact s.setLivePort_agrees p v

theorem LiveChange.refl (s : State) (p : Port) (cause : StateCause) : LiveChange s s p cause := by
  refine ⟨fun _ _ => rfl, fun g => ?_, ?_, rfl, .refl _ _⟩
  · rw [if_pos rfl, if_neg List.not_mem_nil]
  · rw [State.liveAsks, if_pos rfl]; exact .refl _

/-- PORT_STATE and the recomputes of the port's groups, with which each change of state ends (R116, R132). -/
def State.announce (s : State) (p : Port) (was : Liveness) (cause : StateCause) : State :=
  (s.askPortState p was cause).recomputeGroupsOf p

section announce
variable (u : State) (p : Port) (was : Liveness) (cause : StateCause)

theorem State.announce_outside : u.sameOutside [.failover, .notices, .bus] (u.announce p was cause) :=
  ((u.ask_outside _ _ _ _).mono (by decide)).trans (State.recomputeGroups_outside _ _)

theorem State.announce_failover :
    (u.announce p was cause).failover =
      { u.failover with groupStates := (u.announce p was cause).failover.groupStates } := by
  conv_lhs => rw [State.announce, State.recomputeGroupsOf, State.recomputeGroups_failover]
  rw [State.askPortState, State.ask_failover]
  rfl

theorem State.announce_livePort (q : Port) : (u.announce p was cause).livePort q = u.livePort q :=
  livePort_congr (by rw [(u.announce_outside p was cause).live]) q

theorem State.announce_liveness (q : Port) : (u.announce p was cause).liveness q = u.liveness q :=
  congrArg LivePort.state (u.announce_livePort p was cause q)

theorem State.announce_recomputed : u.recomputed (u.announce p was cause) (u.groupsOf p) := fun g => by
  have h := (u.askPortState p was cause).recomputeGroups_recomputed ((u.askPortState p was cause).groupsOf p) g
  rw [show (u.askPortState p was cause).groupState g = u.groupState g from
      State.groupState_congr (by rw [State.askPortState, State.ask_failover]) g,
    show (u.askPortState p was cause).groupsOf p = u.groupsOf p from
      State.groupsOf_congr (by rw [State.askPortState, State.ask_tables]) p] at h
  unfold State.announce State.recomputeGroupsOf
  rw [show (u.askPortState p was cause).groupsOf p = u.groupsOf p from
      State.groupsOf_congr (by rw [State.askPortState, State.ask_tables]) p]
  exact h

/-- PORT_STATE as Table 11-1 gives it, read from the state before and the state after. -/
def State.portStateAsk (t : State) (p : Port) (was : Liveness) (cause : StateCause) : NoticeAsk :=
  { kind := .portState, subject := p, first := 2 ^ 16 * was.code + 2 ^ 8 * (t.liveness p).code + cause.code,
    second := 2 ^ 16 * t.postedCount p + (t.livePort p).changeCount }

theorem State.announce_agrees :
    Agrees (u.noticed (u.portStateAsk p was cause :: u.groupAsks (u.announce p was cause) (u.groupsOf p)))
      (u.announce p was cause) := by
  have h := (u.askPortState p was cause).recomputeGroups_agrees ((u.askPortState p was cause).nodup_groupsOf p)
  have hgroups : (u.askPortState p was cause).groupsOf p = u.groupsOf p :=
    State.groupsOf_congr (by rw [State.askPortState, State.ask_tables]) p
  have hasks (t : State) (l : List GroupId) : (u.askPortState p was cause).groupAsks t l = u.groupAsks t l := by
    unfold State.groupAsks
    simp only [State.groupState_congr (s := u) (t := u.askPortState p was cause)
      (by rw [State.askPortState, State.ask_failover])]
  rw [hasks, hgroups] at h
  unfold State.announce State.recomputeGroupsOf
  rw [hgroups]
  exact h

end announce

/-- The notices of a change to the state that `u` gives the port, ahead of PORT_STATE (R124). -/
def State.lostAsks (s u : State) (p : Port) : List NoticeAsk :=
  if (u.liveness p = .down ∨ u.liveness p = .adminDown) ∧
      (s.liveness p = .trial ∨ s.liveness p = .up ∨ s.liveness p = .stalled) ∧
      (s.offerFlush (.byPort p) []).2 = false then
    [{ kind := .flushLost, subject := p, first := 0, second := 0 }] else []

/-- The groups and the notices of a change of state prepared in `u` and announced, no group state changed before. -/
theorem State.announce_follows {s u : State} {p : Port} (cause : StateCause) (ht : u.tables = s.tables)
    (hgs : ∀ g : GroupId, u.groupState g = s.groupState g) (hne : u.liveness p ≠ s.liveness p)
    (hf : Agrees (s.noticed (s.lostAsks u p)) u) :
    s.groupsFollow (u.announce p (s.liveness p) cause) p ∧
      Agrees (s.noticed (s.liveAsks (u.announce p (s.liveness p) cause) p cause)) (u.announce p (s.liveness p) cause) := by
  have hgroups : u.groupsOf p = s.groupsOf p := State.groupsOf_congr ht p
  have hl := u.announce_liveness p (s.liveness p) cause p
  have hposted : (u.announce p (s.liveness p) cause).postedCount p = u.postedCount p :=
    congrArg (fun e : EgressPort => e.slots.length)
      (egressPort_congr (by rw [(u.announce_outside p (s.liveness p) cause).queues]) p)
  refine ⟨fun g => ?_, ?_⟩
  · have h := u.announce_recomputed p (s.liveness p) cause g
    rw [hgs, hgroups] at h
    rw [hl, if_neg hne]
    exact h
  · have hasks : s.liveAsks (u.announce p (s.liveness p) cause) p cause =
        s.lostAsks u p ++ u.portStateAsk p (s.liveness p) cause ::
          u.groupAsks (u.announce p (s.liveness p) cause) (u.groupsOf p) := by
      unfold State.liveAsks State.lostAsks State.portStateAsk
      rw [hl, if_neg hne, hposted, u.announce_livePort, hgroups]
      unfold State.groupAsks
      simp only [hgs]
    rw [hasks, State.noticed_append]
    exact Follows.agrees_left (hf.noticed _) (u.announce_agrees p (s.liveness p) cause)

/-- A change of state prepared in `u` and announced. -/
theorem LiveChange.announce {s u : State} {p : Port} (cause : StateCause)
    (hout : s.sameOutside [.live, .lookup, .failover, .notices, .bus] u)
    (hothers : ∀ q : Port, q ≠ p → u.livePort q = s.livePort q)
    (hfail : u.failover = { s.failover with work := u.failover.work }) (hne : u.liveness p ≠ s.liveness p)
    (hf : Agrees (s.noticed (s.lostAsks u p)) u) : LiveChange s (u.announce p (s.liveness p) cause) p cause := by
  obtain ⟨hgroups, hfollows⟩ :=
    State.announce_follows cause hout.tables (fun g => State.groupState_congr (by rw [hfail]) g) hne hf
  exact ⟨fun q hq => (u.announce_livePort p _ cause q).trans (hothers q hq), hgroups, hfollows,
    by rw [u.announce_failover, hfail], hout.andThen (u.announce_outside p (s.liveness p) cause)⟩

/-! ## The changes -/

theorem State.livePort_liveness (s : State) (p : Port) : (s.livePort p).state = s.liveness p := rfl

theorem State.setLivePort_livePort_self (s : State) (p : Port) (v : LivePort) : (s.setLivePort p v).livePort p = v := by
  rw [State.setLivePort_livePort, if_pos rfl]

theorem State.setLivePort_livePort_ne (s : State) {p q : Port} (h : q ≠ p) (v : LivePort) :
    (s.setLivePort p v).livePort q = s.livePort q := by
  rw [State.setLivePort_livePort, if_neg h]

section changes
variable (s : State) (p : Port)

/-- A change that neither leaves nor enters UP, before it is announced. -/
def State.preparedMove (l : Liveness) (flush : Bool) : State :=
  if flush then ((s.setLiveness p l).stopTrial p).flushByPort p else (s.setLiveness p l).stopTrial p

theorem State.moveState_eq (l : Liveness) (cause : StateCause) (flush : Bool) :
    s.moveState p l cause flush = (s.preparedMove p l flush).announce p (s.liveness p) cause := rfl

theorem State.preparedMove_livePort (l : Liveness) (flush : Bool) (q : Port) :
    (s.preparedMove p l flush).livePort q =
      if q = p then { s.livePort p with state := l, trial := none } else s.livePort q := by
  have hmove : ((s.setLiveness p l).stopTrial p).livePort q =
      if q = p then { s.livePort p with state := l, trial := none } else s.livePort q := by
    simp only [State.stopTrial, State.setLiveness, State.setLivePort_livePort, if_true]
    split <;> rfl
  unfold State.preparedMove
  split
  · exact (livePort_congr (by rw [(State.flushByPort_outside _ p).live]) q).trans hmove
  · exact hmove

theorem State.preparedMove_outside (l : Liveness) (flush : Bool) :
    s.sameOutside [.live, .lookup, .notices, .bus] (s.preparedMove p l flush) := by
  have hmove : s.sameOutside [.live, .lookup, .notices, .bus] ((s.setLiveness p l).stopTrial p) :=
    ((s.setLivePort_outside p _).mono (by decide)).andThen (State.setLivePort_outside _ p _)
  unfold State.preparedMove
  split
  exacts [hmove.andThen (State.flushByPort_outside _ p), hmove]

theorem State.preparedMove_lookup (l : Liveness) (flush : Bool) :
    (s.preparedMove p l flush).lookup = if flush then (s.offerFlush (.byPort p) []).1.lookup else s.lookup := by
  unfold State.preparedMove
  split
  · rw [State.flushByPort_lookup]; exact (State.offerFlush_congr (s := s) (u := (s.setLiveness p l).stopTrial p) rfl _ _).2
  · rfl

theorem LiveChange.moveState {l : Liveness} {flush : Bool} (cause : StateCause) (hne : l ≠ s.liveness p)
    (hflush : flush = true ↔ (l = .down ∨ l = .adminDown) ∧
      (s.liveness p = .trial ∨ s.liveness p = .up ∨ s.liveness p = .stalled)) :
    LiveChange s (s.moveState p l cause flush) p cause := by
  have hl : (s.preparedMove p l flush).liveness p = l := by
    rw [← State.livePort_liveness, State.preparedMove_livePort, if_pos rfl]
  have hout := s.preparedMove_outside p l flush
  rw [State.moveState_eq]
  refine .announce cause (hout.mono (by decide)) (fun q hq => by rw [State.preparedMove_livePort, if_neg hq])
    (by rw [hout.failover]) (by rw [hl]; exact hne) ?_
  have hmove : Agrees s ((s.setLiveness p l).stopTrial p) :=
    (s.setLivePort_agrees p _).agrees (State.setLivePort_agrees _ p _)
  unfold State.lostAsks
  rw [hl]
  cases flush with
  | false =>
    rw [if_neg fun h => Bool.false_ne_true (hflush.2 ⟨h.1, h.2.1⟩)]
    exact hmove
  | true =>
    obtain ⟨h1, h2⟩ := hflush.1 rfl
    have hasks : ((s.setLiveness p l).stopTrial p).flushLostAsks p = s.flushLostAsks p := by
      unfold State.flushLostAsks
      rw [(State.offerFlush_congr (s := s) (u := (s.setLiveness p l).stopTrial p) rfl _ _).1]
    simp only [h1, h2, true_and]
    have h := Follows.agrees_left (hmove.noticed _) (State.flushByPort_agrees ((s.setLiveness p l).stopTrial p) p)
    rw [hasks] at h
    exact h

theorem State.moveState_livePort (l : Liveness) (cause : StateCause) (flush : Bool) :
    (s.moveState p l cause flush).livePort p = { s.livePort p with state := l, trial := none } := by
  rw [State.moveState_eq, State.announce_livePort, State.preparedMove_livePort, if_pos rfl]

theorem State.moveState_work (l : Liveness) (cause : StateCause) (flush : Bool) :
    (s.moveState p l cause flush).failover.work = s.failover.work := by
  rw [State.moveState_eq, State.announce_failover, (s.preparedMove_outside p l flush).failover]

theorem State.moveState_lookup (l : Liveness) (cause : StateCause) (flush : Bool) :
    (s.moveState p l cause flush).lookup = if flush then (s.offerFlush (.byPort p) []).1.lookup else s.lookup := by
  rw [State.moveState_eq, (State.announce_outside _ _ _ _).lookup, State.preparedMove_lookup]

/-! ### Leaving UP -/

/-- The steps of R124 before the flush. -/
def State.preparedLeave (l : Liveness) : State :=
  (((s.setLiveness p l).stopStall p).appendWork p .evacuate).startDrain p

/-- The departure from UP, before it is announced. -/
def State.preparedLeaveFlush (l : Liveness) : State :=
  if l = .down ∨ l = .adminDown then (s.preparedLeave p l).flushByPort p else s.preparedLeave p l

theorem State.leaveUp_eq (l : Liveness) (cause : StateCause) :
    s.leaveUp p l cause = (s.preparedLeaveFlush p l).announce p .up cause := rfl

theorem State.preparedLeave_eq (l : Liveness) :
    s.preparedLeave p l =
      { s with
        live := (s.preparedLeave p l).live
        failover := { s.failover with
          work := if (p, WorkKind.evacuate) ∈ s.failover.work then s.failover.work
            else s.failover.work ++ [(p, .evacuate)] } } := by
  unfold State.preparedLeave State.appendWork
  have hw : ((s.setLiveness p l).stopStall p).failover.work = s.failover.work := rfl
  rw [hw]
  split <;> rfl

theorem State.preparedLeave_livePort (l : Liveness) (q : Port) :
    (s.preparedLeave p l).livePort q =
      if q = p then { s.livePort p with state := l, stall := none, drain := some (s.expiry (s.portEntry p).drain) }
      else s.livePort q := by
  have happend (u : State) (r : Port) : (u.appendWork p .evacuate).livePort r = u.livePort r :=
    livePort_congr (by rw [(u.appendWork_outside p _).live]) r
  have hexp : (((s.setLiveness p l).stopStall p).appendWork p .evacuate).expiry
      ((((s.setLiveness p l).stopStall p).appendWork p .evacuate).portEntry p).drain = s.expiry (s.portEntry p).drain := by
    unfold State.appendWork; split <;> rfl
  unfold State.preparedLeave State.startDrain
  rw [State.setLivePort_livePort, hexp, happend, happend]
  simp only [State.stopStall, State.setLiveness, State.setLivePort_livePort, if_true]
  split <;> rfl

theorem State.preparedLeave_agrees (l : Liveness) : Agrees s (s.preparedLeave p l) := by
  have h1 := (s.setLivePort_agrees p { s.livePort p with state := l }).agrees
    (State.setLivePort_agrees _ p { (s.setLiveness p l).livePort p with stall := none })
  exact (h1.agrees (State.appendWork_outside _ p .evacuate).agrees).agrees (State.setLivePort_agrees _ p _)

theorem State.preparedLeave_outside (l : Liveness) : s.sameOutside [.live, .failover] (s.preparedLeave p l) := by
  rw [State.preparedLeave_eq]; simp [State.sameOutside]

theorem State.preparedLeaveFlush_outside (l : Liveness) :
    s.sameOutside [.live, .lookup, .failover, .notices, .bus] (s.preparedLeaveFlush p l) := by
  unfold State.preparedLeaveFlush
  split
  · exact ((s.preparedLeave_outside p l).mono (by decide)).andThen (State.flushByPort_outside _ p)
  · exact (s.preparedLeave_outside p l).mono (by decide)

theorem State.preparedLeaveFlush_livePort (l : Liveness) (q : Port) :
    (s.preparedLeaveFlush p l).livePort q = (s.preparedLeave p l).livePort q := by
  unfold State.preparedLeaveFlush
  split
  · exact livePort_congr (by rw [(State.flushByPort_outside _ p).live]) q
  · rfl

theorem State.preparedLeaveFlush_failover (l : Liveness) :
    (s.preparedLeaveFlush p l).failover = (s.preparedLeave p l).failover := by
  unfold State.preparedLeaveFlush
  split
  · exact (State.flushByPort_outside _ p).failover
  · rfl

theorem State.preparedLeave_failover (l : Liveness) :
    (s.preparedLeave p l).failover = { s.failover with
      work := if (p, WorkKind.evacuate) ∈ s.failover.work then s.failover.work
        else s.failover.work ++ [(p, .evacuate)] } := by
  rw [State.preparedLeave_eq]

theorem LiveChange.leaveUp {l : Liveness} (cause : StateCause) (hup : s.liveness p = .up) (hne : l ≠ .up) :
    LiveChange s (s.leaveUp p l cause) p cause := by
  have hl : (s.preparedLeaveFlush p l).liveness p = l := by
    rw [← State.livePort_liveness, State.preparedLeaveFlush_livePort, State.preparedLeave_livePort, if_pos rfl]
  rw [State.leaveUp_eq, ← hup]
  refine .announce cause (s.preparedLeaveFlush_outside p l)
    (fun q hq => by rw [State.preparedLeaveFlush_livePort, State.preparedLeave_livePort, if_neg hq])
    (by rw [State.preparedLeaveFlush_failover, State.preparedLeave_failover]) (by rw [hl, hup]; exact hne) ?_
  have hasks : (s.preparedLeave p l).flushLostAsks p = s.flushLostAsks p := by
    unfold State.flushLostAsks
    rw [(State.offerFlush_congr (s.preparedLeave_outside p l).lookup _ _).1]
  unfold State.lostAsks
  rw [hl, hup]
  unfold State.preparedLeaveFlush
  by_cases h : l = .down ∨ l = .adminDown
  · have hf := Follows.agrees_left ((s.preparedLeave_agrees p l).noticed _) (State.flushByPort_agrees (s.preparedLeave p l) p)
    rw [hasks, State.flushLostAsks] at hf
    rw [if_pos h]
    simpa [h] using hf
  · rw [if_neg h, if_neg fun k => h k.1]
    exact s.preparedLeave_agrees p l

theorem State.leaveUp_livePort (l : Liveness) (cause : StateCause) :
    (s.leaveUp p l cause).livePort p =
      { s.livePort p with state := l, stall := none, drain := some (s.expiry (s.portEntry p).drain) } := by
  rw [State.leaveUp_eq, State.announce_livePort, State.preparedLeaveFlush_livePort, State.preparedLeave_livePort, if_pos rfl]

theorem State.leaveUp_work (l : Liveness) (cause : StateCause) :
    (s.leaveUp p l cause).failover.work =
      if (p, WorkKind.evacuate) ∈ s.failover.work then s.failover.work else s.failover.work ++ [(p, .evacuate)] := by
  rw [State.leaveUp_eq, State.announce_failover, State.preparedLeaveFlush_failover, State.preparedLeave_failover]

theorem State.leaveUp_lookup (l : Liveness) (cause : StateCause) :
    (s.leaveUp p l cause).lookup =
      if l = .down ∨ l = .adminDown then (s.offerFlush (.byPort p) []).1.lookup else s.lookup := by
  rw [State.leaveUp_eq, (State.announce_outside _ _ _ _).lookup]
  unfold State.preparedLeaveFlush
  split
  · rw [State.flushByPort_lookup]; exact (State.offerFlush_congr (s.preparedLeave_outside p l).lookup _ _).2
  · exact (s.preparedLeave_outside p l).lookup

/-! ### Entering TRIAL -/

theorem LiveChange.enterTrial (cause : StateCause) (hne : s.liveness p ≠ .trial) :
    LiveChange s (s.enterTrial p cause) p cause := by
  have hl : ((s.setLiveness p .trial).startTrial p).liveness p = .trial := by
    simp only [← State.livePort_liveness, State.startTrial, State.setLiveness, State.setLivePort_livePort_self]
  refine .announce (u := (s.setLiveness p .trial).startTrial p) cause
    (((s.setLivePort_outside p _).mono (by decide)).andThen (State.setLivePort_outside _ p _))
    (fun q hq => (State.setLivePort_livePort_ne _ hq _).trans (State.setLivePort_livePort_ne _ hq _)) rfl
    (by rw [hl]; exact hne.symm) ?_
  unfold State.lostAsks
  rw [hl, if_neg (by simp)]
  exact (s.setLivePort_agrees p _).agrees (State.setLivePort_agrees _ p _)

theorem State.enterTrial_eq (cause : StateCause) :
    s.enterTrial p cause = ((s.setLiveness p .trial).startTrial p).announce p (s.liveness p) cause := rfl

theorem State.enterTrial_livePort (cause : StateCause) :
    (s.enterTrial p cause).livePort p =
      { s.livePort p with state := .trial, trial := some (s.expiry (s.portEntry p).trial) } := by
  rw [State.enterTrial_eq, State.announce_livePort]
  unfold State.startTrial State.setLiveness
  rw [State.setLivePort_livePort_self, State.setLivePort_livePort_self]
  rfl

theorem State.enterTrial_failover (cause : StateCause) :
    (s.enterTrial p cause).failover = { s.failover with groupStates := (s.enterTrial p cause).failover.groupStates } := by
  rw [State.enterTrial_eq, State.announce_failover]; rfl

/-! ### Going out of service -/

/-- A port goes out of service (R118, R128, R129): the change, the state it reaches, and what the state left decides. -/
theorem State.takeDown_change {l : Liveness} (cause : StateCause) (hl : l = .down ∨ l = .adminDown) :
    LiveChange s (s.takeDown p l cause) p cause ∧ (s.takeDown p l cause).liveness p = l ∧
      (s.takeDown p l cause).livePort p =
        (match s.liveness p with
          | .up => { s.livePort p with state := l, stall := none, drain := some (s.expiry (s.portEntry p).drain) }
          | was => if was = l then s.livePort p else { s.livePort p with state := l, trial := none }) ∧
      s.outOfService (s.takeDown p l cause) p l := by
  have hstate (v : LivePort) : ({ v with changeCount := v.changeCount } : LivePort) = v := rfl
  unfold State.takeDown State.outOfService
  cases hwas : s.liveness p with
  | up =>
    have hne : l ≠ .up := by rcases hl with rfl | rfl <;> decide
    have hp := s.leaveUp_livePort p l cause
    refine ⟨.leaveUp s p cause hwas hne, ?_, hp, ?_, s.leaveUp_work p l cause, ?_⟩
    · rw [← State.livePort_liveness, hp]
    · dsimp only; rw [hp]
    · rw [s.leaveUp_lookup, if_pos hl]
  | trial =>
    have hne : l ≠ .trial := by rcases hl with rfl | rfl <;> decide
    have hp := s.moveState_livePort p l cause true
    refine ⟨.moveState s p cause (by rw [hwas]; exact hne) (by simp [hl, hwas]), ?_, ?_, ?_, s.moveState_work p l cause true, ?_⟩
    · rw [← State.livePort_liveness, hp]
    · dsimp only; rw [hp, if_neg hne.symm]
    · dsimp only; rw [hp]
    · dsimp only; rw [s.moveState_lookup, if_pos rfl]
  | stalled =>
    have hne : l ≠ .stalled := by rcases hl with rfl | rfl <;> decide
    have hp := s.moveState_livePort p l cause true
    refine ⟨.moveState s p cause (by rw [hwas]; exact hne) (by simp [hl, hwas]), ?_, ?_, ?_, s.moveState_work p l cause true, ?_⟩
    · rw [← State.livePort_liveness, hp]
    · dsimp only; rw [hp, if_neg hne.symm]
    · dsimp only; rw [hp]
    · dsimp only; rw [s.moveState_lookup, if_pos rfl]
  | down | adminDown =>
    dsimp only
    split
    case isTrue he => exact ⟨.refl s p cause, hwas.trans he, rfl, rfl, rfl, rfl⟩
    case isFalse hne =>
      have hp := s.moveState_livePort p l cause false
      refine ⟨.moveState s p cause (by rw [hwas]; exact fun e => hne e.symm) (by simp [hwas]), ?_, hp, ?_,
        s.moveState_work p l cause false, ?_⟩
      · rw [← State.livePort_liveness, hp]
      · rw [hp]
      · rw [s.moveState_lookup, if_neg Bool.false_ne_true]

end changes

end Sys2Proof.Machine
end

section
/-! The status word, the stall expiry and the port commands (O27, O29, O52, O53): a change of liveness state at the end of a
write or of a command word. -/
namespace Sys2Proof.Machine

/-! ## A change of state seen from the beginning of its action -/

section congr
variable {s s1 t : State} {p : Port}

theorem LiveChange.liveAsks_eq (hl : s1.liveness p = s.liveness p) (ht : s1.tables = s.tables)
    (hf : s1.failover = s.failover) (hk : s1.lookup = s.lookup) (cause : StateCause) :
    s1.liveAsks t p cause = s.liveAsks t p cause := by
  have hgs (g : GroupId) : s1.groupState g = s.groupState g := State.groupState_congr (by rw [hf]) g
  unfold State.liveAsks State.groupAsks
  rw [hl, (State.offerFlush_congr hk _ _).1, State.groupsOf_congr ht]
  simp only [hgs]

theorem State.groupsFollow_congr (hl : s1.liveness p = s.liveness p) (ht : s1.tables = s.tables)
    (hf : s1.failover = s.failover) (h : s1.groupsFollow t p) : s.groupsFollow t p := fun g => by
  have := h g
  rw [hl, State.groupsOf_congr ht, State.groupState_congr (s := s) (t := s1) (by rw [hf])] at this
  exact this

theorem State.outOfService_congr {l : Liveness} {n : Nat} (hp : s1.livePort p = { s.livePort p with changeCount := n })
    (he : s1.expiry (s1.portEntry p).drain = s.expiry (s.portEntry p).drain) (hf : s1.failover = s.failover)
    (hk : s1.lookup = s.lookup) (h : s1.outOfService t p l) : s.outOfService t p l := by
  have hl : s1.liveness p = s.liveness p := by rw [← State.livePort_liveness, hp]; rfl
  unfold State.outOfService at h ⊢
  rw [hl, hp, he, hf, (State.offerFlush_congr hk _ _).2, hk] at h
  exact h

end congr

/-- The hold lists, the walk and the drained marks stand at a change of liveness state. -/
theorem LiveChange.standing {s t : State} {p : Port} {cause : StateCause} (h : LiveChange s t p cause) :
    t.failover.hold = s.failover.hold ∧ t.failover.walk = s.failover.walk ∧
      t.failover.drained = s.failover.drained := by
  rw [h.failover]; exact ⟨rfl, rfl, rfl⟩

/-! ## A command that has ended -/

theorem State.endSlot_slot {s v : State} {kind : Byte} {w : SlotWrite} (hv : v.slots = (s.started kind w).slots)
    (st : SlotStatus) (code : ResultCode) (result : Nat) :
    (v.endSlot w.slot st code result).slot w.slot = { status := st, kind := kind, tag := w.tag } ∧
      ∀ k, k ≠ w.slot → (v.endSlot w.slot st code result).slot k = s.slot k := by
  have hslot (k : SlotId) : v.slot k = (s.started kind w).slot k := by unfold State.slot; rw [hv]
  have hend (k : SlotId) : (v.endSlot w.slot st code result).slot k =
      if k = w.slot then { v.slot w.slot with status := st } else v.slot k := v.setSlot_slot _ _ _
  refine ⟨?_, fun k hk => ?_⟩
  · rw [hend, if_pos rfl, hslot, State.started_slot]
  · rw [hend, if_neg hk, hslot]
    exact (State.setSlot_slot _ _ _ _).trans (if_neg hk)

theorem State.started_follows {s : State} (hq : s.quiet) (kind : Byte) (w : SlotWrite) :
    Follows [s.crossing (slotOffset w.slot) (slotGranule kind w)] s (s.started kind w) :=
  (Follows.forward s hq _ _).agrees (.of_eq rfl rfl rfl rfl rfl rfl rfl rfl rfl)

theorem State.started_outside (s : State) (kind : Byte) (w : SlotWrite) :
    s.sameOutside [.path, .slots, .bus] (s.started kind w) := by
  simp [State.sameOutside, State.started, State.takeArgs, State.startSlot, State.forward]

/-- The slot's end changes the slot, and the status words gathered. -/
theorem State.endSlot_outside (s : State) (k : SlotId) (st : SlotStatus) (code : ResultCode) (result : Nat) :
    s.sameOutside [.slots, .bus] (s.endSlot k st code result) := by
  simp [State.sameOutside, State.endSlot, State.emitStatus]

/-- A command that has ended DONE, its notices and cells in step with `base`. -/
theorem Follows.done_delivers {s base v : State} {own : List BusWrite} {kind : Byte} {w : SlotWrite} (hs : s.quiet)
    (hb : Gathers s base) (hsent : v.bus.sent = s.bus.sent) (h : Follows own base v)
    (hv : v.slots = (s.started kind w).slots) :
    s.delivers (v.done w.slot .none 0).finish base own [s.endWrite w.slot .done w.tag] := by
  have htag : (v.slot w.slot).tag = w.tag := by
    rw [show v.slot w.slot = (s.started kind w).slot w.slot by unfold State.slot; rw [hv], State.started_slot]
  have hset : Follows own base (v.setSlot w.slot { v.slot w.slot with status := .done }) :=
    h.agrees (State.slots_outside v _).agrees
  have := hset.finish_delivers_status hs hb
    (show (v.setSlot w.slot { v.slot w.slot with status := .done }).bus.sent = s.bus.sent from hsent) (slotOffset w.slot + 52)
    (leBytes 4 0 ++ statusWordBytes .done .none (v.slot w.slot).tag)
  rw [htag] at this
  rw [State.done, State.endSlot, htag]
  exact this

/-! ## The statements -/

theorem State.forward_finish_sends {s v : State} {own : List BusWrite} {asks : List NoticeAsk} (hq : s.quiet)
    (h : Follows own (s.noticed asks) v) (hsent : v.bus.sent = s.bus.sent) : s.sends v.finish own asks [] :=
  State.delivers_noticed hq (h.finish_delivers hq ((Gathers.refl s).noticed _) hsent)

/-- Settles O29. -/
theorem stallExpiryStallsPort : Obligations.StallExpiryStallsPort := fun p s hq hup hd => by
  have hrow : exec (.stallExpiry p) s = .next (s.leaveUp p .stalled .stallExpiry).finish := if_pos ⟨hup, hd⟩
  have h := LiveChange.leaveUp s p (l := .stalled) .stallExpiry hup (by decide)
  have hlive := s.leaveUp_livePort p .stalled .stallExpiry
  have hwork := s.leaveUp_work p .stalled .stallExpiry
  have hlookup : (s.leaveUp p .stalled .stallExpiry).lookup = s.lookup := by
    rw [s.leaveUp_lookup, if_neg (by decide)]
  have hsends := State.forward_finish_sends hq h.follows ((Keeps.refl s).leaveUp p .stalled .stallExpiry).sent
  generalize s.leaveUp p .stalled .stallExpiry = v at *
  obtain ⟨hhold, hwalk, hdrained⟩ := h.standing
  have hout := h.outside.andThen (State.finish_outside _)
  exact ⟨_, hrow, hlive, h.others, hwork, hhold, hwalk, hdrained, h.groups, hsends,
    .inr hout.path, .inr hout.tables, .inr hout.cells, .inr hout.intake, .inr hlookup, .inr hout.admission,
    .inr hout.queues, .inl (by decide), .inl (by decide), .inr hout.acct, .inl (by decide), .inr hout.slots,
    .inl (by decide), .inr hout.freeDraws, .inr hout.pending⟩

/-- What a taken status word does, for the state with its change count recorded (R117 to R119). -/
theorem State.statusTaken_change (s : State) (p : Port) (n : Nat) (up : Bool) :
    ∃ s1 : State, s1 = s.setLivePort p { s.livePort p with changeCount := n } ∧
      LiveChange s1 (s.statusTaken p n up) p .status ∧ ((s.statusTaken p n up).livePort p).changeCount = n ∧
      (up = true → (s.statusTaken p n up).livePort p =
          (if s.liveness p = .down then
            { s.livePort p with state := .trial, changeCount := n, trial := some (s.expiry (s.portEntry p).trial) }
          else { s.livePort p with changeCount := n }) ∧
        (s.statusTaken p n up).failover.work = s.failover.work ∧ (s.statusTaken p n up).lookup = s.lookup) ∧
      (up = false → s1.outOfService (s.statusTaken p n up) p .down ∧ (s.statusTaken p n up).liveness p = .down) := by
  refine ⟨_, rfl, ?_⟩
  have hp : (s.setLivePort p { s.livePort p with changeCount := n }).livePort p = { s.livePort p with changeCount := n } :=
    State.setLivePort_livePort_self _ _ _
  have hl : (s.setLivePort p { s.livePort p with changeCount := n }).liveness p = s.liveness p := by
    rw [← State.livePort_liveness, hp]; rfl
  unfold State.statusTaken
  dsimp only
  rw [hl]
  have hs1 : ∃ s1, s1 = s.setLivePort p { s.livePort p with changeCount := n } := ⟨_, rfl⟩
  obtain ⟨s1, hs1⟩ := hs1
  have hexp : s1.expiry (s1.portEntry p).trial = s.expiry (s.portEntry p).trial := by rw [hs1]; rfl
  have hwork : s1.failover.work = s.failover.work ∧ s1.lookup = s.lookup := by rw [hs1]; exact ⟨rfl, rfl⟩
  rw [← hs1] at hp hl ⊢
  cases up with
  | true =>
    simp only [if_true, true_imp_iff, Bool.true_eq_false, false_imp_iff, and_true]
    by_cases hd : s.liveness p = .down
    · have hne : s1.liveness p ≠ .trial := by rw [hl, hd]; decide
      have ht := s1.enterTrial_livePort p .status
      rw [hp, hexp] at ht
      rw [if_pos hd, if_pos hd]
      refine ⟨.enterTrial s1 p .status hne, by rw [ht], ht, ?_, ?_⟩
      · rw [s1.enterTrial_failover, ← hwork.1]
      · rw [s1.enterTrial_eq, (State.announce_outside _ _ _ _).lookup, ← hwork.2]; rfl
    · rw [if_neg hd, if_neg hd]
      exact ⟨.refl s1 p .status, by rw [hp], hp, hwork⟩
  | false =>
    simp only [Bool.false_eq_true, if_false, false_imp_iff, true_imp_iff, true_and]
    obtain ⟨hc, hdown, hport, hout⟩ := s1.takeDown_change p .status (l := .down) (.inl rfl)
    refine ⟨hc, ?_, hout, hdown⟩
    rw [hport]
    split
    · rw [hp]
    · split <;> rw [hp]

/-- Settles O27. -/
theorem statusWordOutcome : Obligations.StatusWordOutcome := fun p g s ha hg hadmin => by
  have htakes : (s.forward (s.windowAddr (statusOffset p)) g).takesStatus p g = true := by
    change (decide (s.path.mode = .active) && allStrobes g 60 4 && decide (s.liveness p ≠ .adminDown)) = true
    simp [ha, hg, hadmin]
  obtain ⟨s0, hs0⟩ : ∃ s0, s0 = s.forward (s.windowAddr (statusOffset p)) g := ⟨_, rfl⟩
  have hrow : exec (.statusWord p g) s = .next (s0.statusTaken p (statusChangeCount g) (statusLinkUp g)).finish := by
    rw [hs0]
    exact congrArg (fun u => Host.Outcome.next (State.finish u)) (if_pos htakes)
  obtain ⟨s1, hs1, hc, hcount, hup, hdown⟩ :=
    s0.statusTaken_change p (statusChangeCount g) (statusLinkUp g)
  have hp : s1.livePort p = { s.livePort p with changeCount := statusChangeCount g } := by
    rw [hs1, State.setLivePort_livePort_self, hs0]; rfl
  have hl : s1.liveness p = s.liveness p := by rw [← State.livePort_liveness, hp]; rfl
  have hs01 : s.sameOutside [.live, .bus] s1 := by
    rw [hs1, hs0]
    exact ((s.forward_outside _ _).mono (by decide)).andThen (State.setLivePort_outside _ p _)
  obtain ⟨hhold, hwalk, hdrained⟩ := hc.standing
  rw [hs01.failover] at hhold hwalk hdrained
  refine ⟨_, hrow, hcount, fun h => ?_, fun h => ?_, fun q hq => ?_, hhold, hwalk, hdrained,
    State.groupsFollow_congr hl hs01.tables hs01.failover hc.groups, fun hq => ?_, ?_⟩
  · have := hup h
    rw [hs0] at this
    exact hs0 ▸ this
  · obtain ⟨hout, hd⟩ := hdown h
    exact ⟨State.outOfService_congr hp (by rw [hs1, hs0]; rfl) hs01.failover hs01.lookup hout, hd⟩
  · refine (hc.others q hq).trans ?_
    rw [hs1, State.setLivePort_livePort_ne _ hq, hs0]
    rfl
  · have hfollow : Follows [s.crossing (statusOffset p) g] s s1 := by
      rw [hs1, hs0]
      exact (Follows.forward s hq _ _).agrees (State.setLivePort_agrees _ p _)
    have h := (hfollow.noticed _).agrees hc.follows
    rw [LiveChange.liveAsks_eq hl hs01.tables hs01.failover hs01.lookup] at h
    refine State.forward_finish_sends hq h ?_
    rw [((Keeps.refl s0).statusTaken p (statusChangeCount g) (statusLinkUp g)).sent, hs0]
    rfl
  · exact ((hs01.mono (by decide)).andThen hc.outside).andThen (State.finish_outside _)

theorem State.withPortArg_of_active {s : State} (ha : s.path.mode = .active) (k : SlotId) (run : Port → State) :
    s.withPortArg k run =
      match portOf (argPort (s.args k)) with
      | some p => run p
      | none => s.fail k .argument := State.requireActive_of_active ha k _

theorem portOf_eq_none {n : Nat} (h : 47 < n) : portOf n = none := by rw [portOf, dif_neg (by omega)]

/-- Settles O52. -/
theorem portAdminDownOutcome : Obligations.PortAdminDownOutcome := fun w s hq hs ha => by
  rw [show Instr.portAdminDown w = commandRow 6 w from rfl, exec_commandRow_of_free hs]
  have hbody : (s.started 6 w).commandBody 6 w.slot =
      match portOf (argPort (s.argsWith w)) with
      | some p => ((s.started 6 w).takeDown p .adminDown .adminDown).done w.slot .none 0
      | none => (s.started 6 w).fail w.slot .argument := by
    rw [← s.started_args 6 w]
    exact State.withPortArg_of_active (s := s.started 6 w) ha _ _
  refine ⟨fun hn => ?argument, fun p hp => ?port⟩
  case argument => rw [hbody, portOf_eq_none hn]; exact congrArg _ (State.started_fail_finish hq _ _ _)
  case port =>
    rw [hbody, portOf_eq_some.2 hp]
    have hs1 := s.started_outside 6 w
    have hlive : (s.started 6 w).livePort p = { s.livePort p with changeCount := (s.livePort p).changeCount } := rfl
    obtain ⟨hc, hl, hport, hout⟩ := (s.started 6 w).takeDown_change p (l := .adminDown) .adminDown (.inr rfl)
    have hsent := ((Keeps.refl (s.started 6 w)).takeDown p .adminDown .adminDown).sent
    have hslots : ((s.started 6 w).takeDown p .adminDown .adminDown).slots = (s.started 6 w).slots := hc.outside.slots
    dsimp only
    generalize (s.started 6 w).takeDown p .adminDown .adminDown = v at *
    obtain ⟨hslot, hothers⟩ := State.endSlot_slot hslots .done .none 0
    refine ⟨_, rfl, State.outOfService_congr hlive rfl hs1.failover hs1.lookup hout, hl, ?_, hc.others, hslot, hothers,
      hc.standing.1, State.groupsFollow_congr rfl hs1.tables hs1.failover hc.groups, ?_, ?_⟩
    · refine (congrArg LivePort.changeCount hport).trans ?_
      split
      · rfl
      · split <;> rfl
    · have hf := ((s.started_follows hq 6 w).noticed _).agrees hc.follows
      rw [LiveChange.liveAsks_eq (s := s) (s1 := s.started 6 w) rfl hs1.tables hs1.failover hs1.lookup] at hf
      exact State.delivers_noticed hq (hf.done_delivers hq ((Gathers.refl s).noticed _)
        hsent hslots)
    · exact (((hs1.mono (by decide)).andThen hc.outside).andThen (State.endSlot_outside _ _ _ _ _)).andThen
        (State.finish_outside _)

/-- Settles O53. -/
theorem portAdminReleaseOutcome : Obligations.PortAdminReleaseOutcome := fun w s hq hs ha => by
  rw [show Instr.portAdminRelease w = commandRow 7 w from rfl, exec_commandRow_of_free hs]
  have hbody : (s.started 7 w).commandBody 7 w.slot =
      match portOf (argPort (s.argsWith w)) with
      | some p =>
        if s.liveness p = .adminDown then
          ((s.started 7 w).moveState p .down .adminRelease false).done w.slot .none 0
        else (s.started 7 w).fail w.slot .state
      | none => (s.started 7 w).fail w.slot .argument := by
    rw [← s.started_args 7 w]
    exact State.withPortArg_of_active (s := s.started 7 w) ha _ _
  refine ⟨fun hn => ?argument, fun p hp => ⟨fun hl => ?other, fun hl => ?release⟩⟩
  case argument => rw [hbody, portOf_eq_none hn]; exact congrArg _ (State.started_fail_finish hq _ _ _)
  case other =>
    rw [hbody, portOf_eq_some.2 hp]
    exact congrArg _ ((congrArg State.finish (if_neg hl)).trans (State.started_fail_finish hq _ _ _))
  case release =>
    rw [hbody, portOf_eq_some.2 hp]
    dsimp only
    rw [if_pos hl]
    have hs1 := s.started_outside 7 w
    have hwas : (s.started 7 w).liveness p = .adminDown := hl
    have hc : LiveChange (s.started 7 w) ((s.started 7 w).moveState p .down .adminRelease false) p .adminRelease :=
      .moveState _ p .adminRelease (by rw [hwas]; decide) (by rw [hwas]; decide)
    have hsent := ((Keeps.refl (s.started 7 w)).moveState p .down .adminRelease false).sent
    have hslots : ((s.started 7 w).moveState p .down .adminRelease false).slots = (s.started 7 w).slots := hc.outside.slots
    have hlookup : ((s.started 7 w).moveState p .down .adminRelease false).lookup = s.lookup := by
      rw [State.moveState_lookup, if_neg Bool.false_ne_true]; rfl
    have hwork := (s.started 7 w).moveState_work p .down .adminRelease false
    have hport := (s.started 7 w).moveState_livePort p .down .adminRelease false
    have hfail := hc.failover
    rw [hwork] at hfail
    generalize (s.started 7 w).moveState p .down .adminRelease false = v at *
    obtain ⟨hslot, hothers⟩ := State.endSlot_slot hslots .done .none 0
    refine ⟨_, rfl, hport, hc.others, hslot, hothers, hfail,
      State.groupsFollow_congr rfl hs1.tables hs1.failover hc.groups, ?_, ?_⟩
    · have hf := ((s.started_follows hq 7 w).noticed _).agrees hc.follows
      rw [LiveChange.liveAsks_eq (s := s) (s1 := s.started 7 w) rfl hs1.tables hs1.failover hs1.lookup] at hf
      exact State.delivers_noticed hq (hf.done_delivers hq ((Gathers.refl s).noticed _)
        hsent hslots)
    · have hout : s.sameOutside [.path, .live, .lookup, .failover, .notices, .slots, .bus]
          (v.done w.slot .none 0).finish :=
        (((hs1.mono (by decide)).andThen hc.outside).andThen (State.endSlot_outside _ _ _ _ _)).andThen
          (State.finish_outside _)
      exact ⟨.inl (by decide), .inr hout.tables, .inr hout.cells, .inr hout.intake, .inr hlookup, .inr hout.admission,
        .inr hout.queues, .inl (by decide), .inl (by decide), .inr hout.acct, .inl (by decide), .inl (by decide),
        .inl (by decide), .inr hout.freeDraws, .inr hout.pending⟩

end Sys2Proof.Machine
end

section
/-! What a read of memory finds behind the writes of an action (R163); the steps of the aging sweep and of the flush walk
(O35, O36). -/
namespace Sys2Proof.Machine

/-! ## Reads of memory -/

/-- The write leaves `n` bytes from a channel address as they were. -/
def BusWrite.clearOf (w : BusWrite) (a n : Nat) : Prop := ∀ i < n, w.byteAt (a + i) = none

/-- An own write of other bytes of the window is clear of a place. -/
theorem State.ownWrite_clearOf (s : State) {off off' n : Nat} {bytes : List Byte}
    (h : off' + bytes.length ≤ off ∨ off + n ≤ off') : (s.ownWrite off' bytes).clearOf (s.windowAddr off) n := by
  intro i hi
  apply byteAt_outside
  have hlen : (s.ownWrite off' bytes).lanes.length = bytes.length := List.length_map ..
  have haddr : (s.ownWrite off' bytes).addr = s.windowAddr off' := rfl
  rw [hlen, haddr, State.windowAddr, State.windowAddr]
  omega

/-- An address that no write of a list writes otherwise than with `b`, and one writes with `b`, holds `b`. -/
theorem lastWritten_append_of_mem {l rest : List BusWrite} {a : Nat} {b : Byte}
    (hall : ∀ w ∈ l, w.byteAt a = none ∨ w.byteAt a = some b) (hmem : ∃ w ∈ l, w.byteAt a = some b) :
    lastWritten (l ++ rest) a = some b := by
  induction l with
  | nil => simp at hmem
  | cons w l ih =>
    rw [List.cons_append, lastWritten]
    rcases hall w List.mem_cons_self with hw | hw
    · rw [hw, Option.none_or]
      refine ih (fun v hv => hall v (List.mem_cons_of_mem _ hv)) ?_
      obtain ⟨v, hv, hb⟩ := hmem
      rcases List.mem_cons.1 hv with rfl | hv
      · rw [hw] at hb; cases hb
      · exact ⟨v, hv, hb⟩
    · rw [hw, Option.some_or]

/-- A read finds the bytes of a write that every other write since is clear of. -/
theorem State.readBytes_of_mem {s t : State} {off : Nat} {bytes : List Byte} {l rest : List BusWrite}
    (hw : t.path.winbase = s.path.winbase) (ht : t.bus.sent = l ++ rest) (hmem : s.ownWrite off bytes ∈ l)
    (hclear : ∀ w ∈ l, w = s.ownWrite off bytes ∨ w.clearOf (s.windowAddr off) bytes.length) :
    t.readBytes off bytes.length = bytes.map some := by
  apply List.ext_getElem
  · simp [State.readBytes]
  · intro i h1 _
    have hi : i < bytes.length := by simpa [State.readBytes] using h1
    have haddr : t.windowAddr off = s.windowAddr off := by unfold State.windowAddr; rw [hw]
    have hown : (s.ownWrite off bytes).byteAt (s.windowAddr off + i) = some bytes[i] := by
      rw [byteAt_ownWrite, List.getElem?_eq_getElem hi]
    have hbyte : t.memByte (t.windowAddr off + i) = some bytes[i] := by
      rw [State.memByte, ht, haddr]
      refine lastWritten_append_of_mem (fun w hwl => ?_) ⟨_, hmem, hown⟩
      rcases hclear w hwl with rfl | hc
      · exact .inr hown
      · exact .inl (hc i hi)
    simpa [State.readBytes] using hbyte

/-- An action that has gathered no write sends none. -/
theorem State.finish_bus_of_quiet {s v : State} (hv : v.bus = s.bus) (hq : s.quiet) : v.finish.bus = s.bus := by
  have hvq : v.quiet := by unfold State.quiet; rw [hv]; exact hq
  rw [finish_of_quiet v hvq, hv]

/-! ## Steps over the station table -/

namespace LookupUnit

/-- The visit of one LEARNED or STATIC entry: it is written anew or it goes, its tenant's learned count with it. -/
def treat (fate : Station → Option Station) (u : LookupUnit) (x : Nat × Station) : LookupUnit :=
  match fate x.2 with
  | some e => u.write x.1 e
  | none => u.drop x.1 x.2

section
variable (fate : Station → Option Station)

theorem treat_find (u : LookupUnit) (x : Nat × Station) (way : Nat) :
    (u.treat fate x).stations.find way = if way = x.1 then fate x.2 else u.stations.find way := by
  unfold treat
  cases hf : fate x.2 with
  | some e => exact Table.find_put _ _ _ _
  | none => exact Table.find_erase _ _ _

theorem treat_learned (u : LookupUnit) (x : Nat × Station) (n : Tenant) :
    (u.treat fate x).learned.getD n 0 =
      u.learned.getD n 0 - (if (fate x.2).isNone ∧ x.2.tenant = n then 1 else 0) := by
  unfold treat
  cases hf : fate x.2 with
  | some e => rfl
  | none =>
    refine (lower_learned _ _ _).trans ?_
    by_cases hn : n = x.2.tenant
    · rw [if_pos hn, if_pos ⟨rfl, hn.symm⟩, hn]
    · rw [if_neg hn, if_neg fun h => hn h.2.symm]; rfl

theorem treat_eq (u : LookupUnit) (x : Nat × Station) :
    u.treat fate x = { u with stations := (u.treat fate x).stations, learned := (u.treat fate x).learned } := by
  unfold treat
  split <;> rfl

/-- A step over several sets touches the entries and the learned counts alone. -/
theorem foldl_treat_eq (u : LookupUnit) (l : List (Nat × Station)) :
    l.foldl (treat fate) u =
      { u with stations := (l.foldl (treat fate) u).stations, learned := (l.foldl (treat fate) u).learned } := by
  induction l generalizing u with
  | nil => rfl
  | cons x l ih => rw [List.foldl_cons, ih, treat_eq]

theorem foldl_treat_learned (u : LookupUnit) (l : List (Nat × Station)) (n : Tenant) :
    (l.foldl (treat fate) u).learned.getD n 0 =
      u.learned.getD n 0 - (l.filter fun x => (fate x.2).isNone && decide (x.2.tenant = n)).length := by
  induction l generalizing u with
  | nil => rfl
  | cons x l ih =>
    rw [List.foldl_cons, ih, treat_learned, List.filter_cons]
    by_cases hx : (fate x.2).isNone = true ∧ x.2.tenant = n
    · rw [if_pos hx, if_pos (by simpa using hx), List.length_cons]; omega
    · rw [if_neg hx, if_neg (by simpa using hx)]; rfl

theorem foldl_treat_find_of_notMem (u : LookupUnit) (l : List (Nat × Station)) {way : Nat} (h : way ∉ l.map (·.1)) :
    (l.foldl (treat fate) u).stations.find way = u.stations.find way := by
  induction l generalizing u with
  | nil => rfl
  | cons x l ih =>
    rw [List.map_cons, List.mem_cons, not_or] at h
    rw [List.foldl_cons, ih _ h.2, treat_find, if_neg h.1]

theorem foldl_treat_find_of_mem (u : LookupUnit) {l : List (Nat × Station)} (hnd : (l.map (·.1)).Nodup)
    {x : Nat × Station} (h : x ∈ l) : (l.foldl (treat fate) u).stations.find x.1 = fate x.2 := by
  induction l generalizing u with
  | nil => simp at h
  | cons y l ih =>
    rw [List.map_cons, List.nodup_cons] at hnd
    rw [List.foldl_cons]
    rcases List.mem_cons.1 h with rfl | h
    · rw [foldl_treat_find_of_notMem fate _ _ hnd.1, treat_find, if_pos rfl]
    · exact ih _ hnd.2 h

/-- What a step over the entries that `P` picks leaves in a way. -/
theorem foldl_treat_find (u : LookupUnit) (P : Nat × Station → Bool) (hs : Table.sorted u.stations = true) (way : Nat) :
    ((u.stations.filter P).foldl (treat fate) u).stations.find way =
      (u.stations.find way).bind fun e => if P (way, e) then fate e else some e := by
  by_cases h : ∃ e, u.stations.find way = some e ∧ P (way, e) = true
  · obtain ⟨e, he, hp⟩ := h
    rw [he, Option.bind_some, if_pos hp]
    exact foldl_treat_find_of_mem fate u (nodup_keys_filter hs) (x := (way, e))
      (List.mem_filter.2 ⟨(Table.mem_iff_find _ hs _ _).2 he, hp⟩)
  · rw [foldl_treat_find_of_notMem]
    · cases he : u.stations.find way with
      | none => rfl
      | some e => rw [Option.bind_some, if_neg fun hp => h ⟨e, he, hp⟩]
    · intro hmem
      obtain ⟨x, hx, rfl⟩ := List.mem_map.1 hmem
      exact h ⟨x.2, (Table.mem_iff_find _ hs _ _).1 (List.mem_filter.1 hx).1, (List.mem_filter.1 hx).2⟩

end

/-- What the aging sweep makes of an entry (R48). -/
def swept (e : Station) : Option Station :=
  if e.isStatic then some { e with conflict := false }
  else if e.hit then some { e with hit := false, moves := 0, locked := false } else none

theorem sweepEntry_eq_treat : sweepEntry = treat swept := by
  funext u x
  unfold sweepEntry treat swept
  by_cases hs : x.2.isStatic = true
  · rw [if_pos hs, if_pos hs]
  · rw [if_neg hs, if_neg hs]
    by_cases hh : x.2.hit = true
    · rw [if_pos hh, if_pos hh]
    · rw [if_neg hh, if_neg hh]

theorem swept_isNone (e : Station) : (swept e).isNone = (!e.isStatic && !e.hit) := by
  unfold swept
  cases e.isStatic <;> cases e.hit <;> rfl

end LookupUnit

/-- Settles O35: each entry that the step visits is met once, and what becomes of it is its own fate. -/
theorem sweepStepTreatsEntries : Obligations.SweepStepTreatsEntries := fun s c hs hc => by
  have hrow : exec .agingSweepStep s = .next (s.sweepStep c).finish := by
    change execAgingSweepStep s = _
    unfold execAgingSweepStep
    rw [hc]
  have hstep : s.sweepStep c =
      { s with
        lookup := { (s.stepEntries c).foldl (LookupUnit.treat LookupUnit.swept) s.lookup with
          sweep := if c + 64 < 4096 then some (c + 64) else none } } := by
    unfold State.sweepStep
    rw [State.sweepFold_eq, LookupUnit.sweepEntry_eq_treat]
  have hfind (way : Nat) := LookupUnit.foldl_treat_find LookupUnit.swept s.lookup (fun e => inStep c e.1) hs way
  have hlearned := LookupUnit.foldl_treat_learned LookupUnit.swept s.lookup (s.stepEntries c)
  have hframe := LookupUnit.foldl_treat_eq LookupUnit.swept s.lookup (s.stepEntries c)
  refine ⟨_, hrow, fun way => ?find, fun n => ?learned, by rw [hstep]; rfl, ?_, ?_, ?_, fun hq => ?bus, ?_⟩
  case find =>
    rw [State.finish_lookup, hstep]
    refine (hfind way).trans ?_
    cases s.lookup.stations.find way with
    | none => rfl
    | some e =>
      by_cases hin : c ≤ way / 4 ∧ way / 4 < c + 64
      · simp only [Option.bind_some, inStep, hin, decide_true, and_self, if_true]; rfl
      · simp only [Option.bind_some, inStep, hin, decide_false, Bool.false_eq_true, if_false]
  case learned =>
    rw [State.learned, State.finish_lookup, hstep]
    refine (hlearned n).trans ?_
    rw [State.stepEntries, List.filter_filter]
    refine congrArg (fun l => s.learned n - List.length l) (List.filter_congr fun x _ => ?_)
    rw [LookupUnit.swept_isNone, inStep]
    cases decide (c ≤ x.1 / 4 ∧ x.1 / 4 < c + 64) <;> simp
  case bus => rw [hstep]; exact State.finish_bus_of_quiet rfl hq
  all_goals rw [hstep, hframe]; simp [State.sameOutside, State.finish]

/-! ## The flush walk -/

/-- A flush removes every entry it finds (R52). -/
def flushed (_ : Station) : Option Station := none

/-- The command slots of a finished flush end DONE, one after another. -/
theorem State.doneEach_eq (l : List SlotId) (removed : Nat) (s : State) (hnd : l.Nodup) :
    (∀ k : SlotId, (l.foldl (fun s k => s.done k .none removed) s).slot k =
        if k ∈ l then { s.slot k with status := .done } else s.slot k) ∧
      l.foldl (fun s k => s.done k .none removed) s =
        { s with
          slots := (l.foldl (fun s k => s.done k .none removed) s).slots
          bus := { s.bus with
            statuses := (l.map fun k => s.doneWrite k (s.slot k).tag removed).reverse ++ s.bus.statuses } } := by
  induction l generalizing s with
  | nil => exact ⟨fun k => by simp, rfl⟩
  | cons j l ih =>
    obtain ⟨hj, hl⟩ := List.nodup_cons.1 hnd
    obtain ⟨hslot, heq⟩ := ih (s.done j .none removed) hl
    have hone (k : SlotId) : (s.done j .none removed).slot k =
        if k = j then { s.slot j with status := .done } else s.slot k :=
      s.setSlot_slot j k { s.slot j with status := .done }
    refine ⟨fun k => ?_, ?_⟩
    · rw [List.foldl_cons, hslot, hone]
      by_cases hkj : k = j
      · subst hkj; simp [hj]
      · simp [hkj]
    · have hmap : (l.map fun k => (s.done j .none removed).doneWrite k ((s.done j .none removed).slot k).tag removed) =
          l.map fun k => s.doneWrite k (s.slot k).tag removed := by
        refine List.map_congr_left fun k hk => ?_
        rw [hone, if_neg fun e : k = j => hj (e ▸ hk)]
        rfl
      rw [List.foldl_cons, heq, hmap, List.map_cons, List.reverse_cons, List.append_assoc]
      rfl

theorem State.flushStep_fold (s : State) (w : FlushWalk) :
    (s.flushHits w).foldl (fun s x => s.dropLearned x.1 x.2) s =
      { s with lookup := (s.flushHits w).foldl (LookupUnit.treat flushed) s.lookup } := by
  rw [State.dropFold_eq]; rfl

/-- The eight bytes of a result value and its status word. -/
theorem State.doneWrite_bytes_length (removed : Nat) (tag : BitVec 16) :
    (leBytes 4 removed ++ statusWordBytes .done .none tag).length = 8 := by
  simp [statusWordBytes]

theorem State.doneWrite_clearOf (s : State) {j k : SlotId} (h : j ≠ k) (tag : BitVec 16) (removed : Nat) :
    (s.doneWrite j tag removed).clearOf (s.windowAddr (slotOffset k + 52)) 8 := by
  have hjk : j.val ≠ k.val := fun e => h (Fin.ext e)
  refine s.ownWrite_clearOf ?_
  rw [State.doneWrite_bytes_length]
  unfold slotOffset
  omega

/-- The end of the last flush step: the commands end, and the next queued walk starts. -/
theorem State.flushEnd_eq (s : State) (w : FlushWalk) (removed : Nat) (hnd : (allSlots.filter fun k => decide (k ∈ w.item.slots)).Nodup) :
    ∃ t, t = (({ s with lookup := { s.lookup with flushWalk := none } } : State).endFlushSlots w.item.slots removed).startFlush ∧
      (∀ k : SlotId, t.slot k = if k ∈ w.item.slots then { s.slot k with status := .done } else s.slot k) ∧
      t.lookup = { s.lookup with
        flushWalk := s.lookup.flushQueue.head?.map (fun i => { item := i, cursor := 0, removed := 0 })
        flushQueue := s.lookup.flushQueue.tail } ∧
      t = { s with
        lookup := t.lookup
        slots := t.slots
        bus := { s.bus with
          statuses := ((allSlots.filter fun k => decide (k ∈ w.item.slots)).map fun k =>
            s.doneWrite k (s.slot k).tag removed).reverse ++ s.bus.statuses } } := by
  refine ⟨_, rfl, ?_⟩
  obtain ⟨hslot, heq⟩ := State.doneEach_eq (allSlots.filter fun k => decide (k ∈ w.item.slots)) removed
    { s with lookup := { s.lookup with flushWalk := none } } hnd
  unfold State.endFlushSlots
  generalize (allSlots.filter fun k => decide (k ∈ w.item.slots)).foldl _ _ = v at hslot heq ⊢
  have hslots : v.startFlush.slots = v.slots := by rw [State.startFlush_eq]
  have hlook : v.lookup = { s.lookup with flushWalk := none } := by rw [heq]
  refine ⟨fun k => ?slots, ?lookup, ?rest⟩
  case slots =>
    rw [State.slot, hslots]
    refine (hslot k).trans ?_
    simp [allSlots]
    rfl
  case lookup =>
    unfold State.startFlush
    rw [hlook]
    cases hq : s.lookup.flushQueue with
    | nil => simp [hlook, hq]
    | cons i rest => simp
  case rest =>
    rw [State.startFlush_eq, heq]
    rfl

/-- Settles O36: each entry that the step finds is met once and goes; the last step ends the commands. -/
theorem flushStepOutcome : Obligations.FlushStepOutcome := fun s w removed hs hw hremoved => by
  have hrow : exec .flushWalkStep s = .next (s.flushStep w).finish := by
    change execFlushWalkStep s = _
    unfold execFlushWalkStep
    rw [hw]
  have hhits : s.flushHits w = s.lookup.stations.filter fun x =>
      decide (w.cursor ≤ x.1 / 4 ∧ x.1 / 4 < w.cursor + 64) && !x.2.isStatic && w.item.req.matches x.2 := by
    unfold State.flushHits State.stepEntries inStep
    rw [List.filter_filter]
    exact List.filter_congr fun x _ => by
      cases decide (w.cursor ≤ x.1 / 4 ∧ x.1 / 4 < w.cursor + 64) <;> simp
  have hfind (way : Nat) := LookupUnit.foldl_treat_find flushed s.lookup (fun x =>
    decide (w.cursor ≤ x.1 / 4 ∧ x.1 / 4 < w.cursor + 64) && !x.2.isStatic && w.item.req.matches x.2) hs way
  have hlearned := LookupUnit.foldl_treat_learned flushed s.lookup (s.flushHits w)
  have hframe := LookupUnit.foldl_treat_eq flushed s.lookup (s.flushHits w)
  rw [← hhits] at hfind hremoved
  have hstep : s.flushStep w =
      let s1 : State := { s with lookup := (s.flushHits w).foldl (LookupUnit.treat flushed) s.lookup }
      if w.cursor + 64 < 4096 then
        { s1 with
          lookup := { s1.lookup with flushWalk := some { w with cursor := w.cursor + 64, removed := removed } } }
      else (({ s1 with lookup := { s1.lookup with flushWalk := none } } : State).endFlushSlots w.item.slots removed).startFlush := by
    rw [hremoved, ← State.flushStep_fold]
    rfl
  generalize (s.flushHits w).foldl (LookupUnit.treat flushed) s.lookup = u at hfind hlearned hframe hstep
  obtain ⟨v, hv, hslot, hlook, hend⟩ := State.flushEnd_eq { s with lookup := u } w removed
    ((List.nodup_finRange 16).filter _)
  dsimp only at hstep
  rw [← hv] at hstep
  have hstations : (s.flushStep w).lookup.stations = u.stations ∧ (s.flushStep w).lookup.learned = u.learned ∧
      (s.flushStep w).lookup.sweep = u.sweep ∧ (s.flushStep w).lookup.agingTimer = u.agingTimer := by
    rw [hstep]
    split
    · exact ⟨rfl, rfl, rfl, rfl⟩
    · rw [hlook]; exact ⟨rfl, rfl, rfl, rfl⟩
  obtain ⟨hstat, hlearn, hsweep, haging⟩ := hstations
  refine ⟨_, hrow, fun way => ?find, fun n => ?learned, fun hmore => ?more, fun hlast => ?last, ?sweep, ?aging, ?frame⟩
  case find =>
    rw [State.finish_lookup, hstat, hfind]
    cases s.lookup.stations.find way with
    | none => rfl
    | some e =>
      rw [Option.bind_some, Option.filter_some]
      unfold flushed
      dsimp only
      generalize (_ && _ && _ : Bool) = b
      cases b <;> rfl
  case learned =>
    rw [State.learned, State.finish_lookup, hlearn]
    refine (hlearned n).trans ?_
    rw [hhits, List.filter_filter]
    refine congrArg (fun l => s.learned n - List.length l) (List.filter_congr fun x _ => ?_)
    unfold flushed
    rw [Option.isNone_none, Bool.true_and, Bool.and_comm]
  case more =>
    rw [hstep, if_pos hmore]
    refine ⟨rfl, by rw [hframe]; rfl, rfl, fun hq => State.finish_bus_of_quiet rfl hq⟩
  case last =>
    rw [hstep, if_neg (by omega)]
    refine ⟨hslot, by rw [State.finish_lookup, hlook, hframe], by rw [State.finish_lookup, hlook, hframe], fun hq => ?_⟩
    obtain ⟨h1, h2, h3⟩ := hq
    have hbus : v.finish.bus = (s.sending
        ((allSlots.filter fun k => decide (k ∈ w.item.slots)).map fun k => s.doneWrite k (s.slot k).tag removed).reverse).bus := by
      rw [hend]
      simp only [State.finish, State.sending, h1, h2, h3, List.append_nil, List.nil_append]
      rfl
    refine ⟨hbus, fun k hk => ?_⟩
    have hread := State.readBytes_of_mem (s := s) (t := v.finish) (off := slotOffset k + 52)
      (bytes := leBytes 4 removed ++ statusWordBytes .done .none (s.slot k).tag) (rest := s.bus.sent)
      (by rw [hend]; rfl) (by rw [hbus]; rfl)
      (List.mem_reverse.2 (List.mem_map.2 ⟨k, List.mem_filter.2 ⟨List.mem_finRange k, by simpa using hk⟩, rfl⟩))
      (fun x hx => by
        obtain ⟨j, -, rfl⟩ := List.mem_map.1 (List.mem_reverse.1 hx)
        by_cases hjk : j = k
        · subst hjk; exact .inl rfl
        · exact .inr (State.doneWrite_bytes_length removed _ ▸ s.doneWrite_clearOf hjk _ _))
    rw [State.doneWrite_bytes_length] at hread
    refine hread.trans (congrArg (List.map some) ?_)
    simp only [List.append_assoc]
    rfl
  case sweep => rw [State.finish_lookup, hsweep, hframe]
  case aging => rw [State.finish_lookup, haging, hframe]
  case frame =>
    rw [hstep]
    split
    · simp [State.sameOutside, State.finish]
    · rw [hend]; simp [State.sameOutside, State.finish]

end Sys2Proof.Machine
end

section
/-! The walk over the closed bank (O37, O38). -/
namespace Sys2Proof.Machine

/-! ## The writes of notices -/

/-- Each notice told is a write of 32 bytes into the notice ring. -/
theorem State.noticed_mem {s : State} {asks : List NoticeAsk} {w : BusWrite}
    (h : w ∈ (s.noticed asks).bus.notices) :
    w ∈ s.bus.notices ∨ ∃ i < 1024, ∃ b : List Byte, b.length = 32 ∧ w = s.ownWrite (Config.noticeRing + 32 * i) b := by
  induction asks generalizing s with
  | nil => exact .inl h
  | cons n asks ih =>
    rw [State.noticed_cons] at h
    rcases ih h with h | ⟨i, hi, b, hb, h⟩
    · unfold State.ask at h
      split at h
      · exact .inl h
      · rcases List.mem_cons.1 h with rfl | h
        · exact .inr ⟨_, Nat.mod_lt _ (by decide), _, by simp [noticeBytes], rfl⟩
        · exact .inl h
    · exact .inr ⟨i, hi, b, hb, by rw [h]; unfold State.ownWrite State.windowAddr; rw [State.ask_path]⟩

/-- The notices told lie apart from every other area. -/
theorem State.noticed_clearOf {s : State} (hs : s.bus.notices = []) {asks : List NoticeAsk} {w : BusWrite}
    (h : w ∈ (s.noticed asks).bus.notices) {off n : Nat}
    (hoff : off + n ≤ Config.noticeRing ∨ Config.noticeRing + 0x8000 ≤ off) : w.clearOf (s.windowAddr off) n := by
  rcases State.noticed_mem h with h | ⟨i, hi, b, hb, rfl⟩
  · rw [hs] at h; cases h
  · exact s.ownWrite_clearOf (by rw [hb]; omega)

/-! ## The records of a step -/

@[simp] theorem exportRecord_length (r : TenantRecord) (n : Nat) (epoch : Word32) : (exportRecord r n epoch).length = 64 := by
  simp [exportRecord, TenantRecord.narrowed, List.length_flatMap, Function.comp_def]

/-- The write of one tenant's closed record. -/
def State.recordWrite (s : State) (w : ExportWalk) (n : Nat) : BusWrite :=
  s.ownWrite (exportBank w.bank + 0x40 + 0x40 * n) (exportRecord (s.tenantRecord w.bank n) n w.epoch)

/-- The live record once the closed one has carried its fraction into it (R159). -/
def TenantRecord.carried (l r : TenantRecord) : TenantRecord := if r.chargeSat then l else l.addCharge r.carry

theorem State.exportTenant_eq (w : ExportWalk) (s : State) (n : Nat) :
    State.exportTenant w s n =
      { s with
        acct := { s.acct with records := (State.exportTenant w s n).acct.records }
        bus := { s.bus with writes := s.recordWrite w n :: s.bus.writes } } := by
  unfold State.exportTenant
  dsimp only
  split <;> rfl

theorem State.exportTenant_record {w : ExportWalk} {s : State} {n : Nat} (hn : n < 256)
    (b : Fin 2) {m : Nat} (hm : m < 256) :
    (State.exportTenant w s n).tenantRecord b m =
      if b = w.bank ∧ m = n then TenantRecord.zero
      else if b = s.acct.live ∧ m = n then
        (s.tenantRecord s.acct.live n).carried (s.tenantRecord w.bank n)
      else s.tenantRecord b m := by
  unfold State.exportTenant TenantRecord.carried
  dsimp only
  rw [State.setTenantRecord_tenantRecord _ _ _ _ _ _ hn hm]
  by_cases hb : b = w.bank ∧ m = n
  · rw [if_pos hb, if_pos hb]
  · rw [if_neg hb, if_neg hb]
    split
    · split
      case isTrue h => rw [h.1, h.2]; rfl
      case isFalse => rfl
    · rw [State.setTenantRecord_tenantRecord _ _ _ _ _ _ hn hm]
      rfl

/-- The records of several tenants: each closed one is written as it stood, carried and cleared; the others stand. -/
theorem State.exportTenants_spec {w : ExportWalk} (l : List Nat) (s : State) (hlive : w.bank ≠ s.acct.live) (hnd : l.Nodup)
    (hl : ∀ n ∈ l, n < 256) :
    l.foldl (State.exportTenant w) s =
        { s with
          acct := { s.acct with records := (l.foldl (State.exportTenant w) s).acct.records }
          bus := { s.bus with writes := (l.map (s.recordWrite w)).reverse ++ s.bus.writes } } ∧
      ∀ (b : Fin 2) (m : Nat), m < 256 →
        (l.foldl (State.exportTenant w) s).tenantRecord b m =
          if m ∈ l then
            if b = w.bank then TenantRecord.zero
            else (s.tenantRecord s.acct.live m).carried (s.tenantRecord w.bank m)
          else s.tenantRecord b m := by
  induction l generalizing s with
  | nil => exact ⟨rfl, fun b m _ => by simp⟩
  | cons n l ih =>
    obtain ⟨hn, hnd⟩ := List.nodup_cons.1 hnd
    have hn256 := hl n List.mem_cons_self
    have hone := State.exportTenant_eq w s n
    have hacct : (State.exportTenant w s n).acct.live = s.acct.live := by rw [hone]
    have hrec (b : Fin 2) {m : Nat} (hm : m < 256) := State.exportTenant_record (w := w) (s := s) hn256 b hm
    obtain ⟨heq, hrecords⟩ := ih (State.exportTenant w s n) (by rw [hacct]; exact hlive) hnd
      fun m hm => hl m (List.mem_cons_of_mem _ hm)
    have hsame : ∀ m ∈ l, ∀ b, (State.exportTenant w s n).tenantRecord b m = s.tenantRecord b m := fun m hm b => by
      have hne : m ≠ n := fun e => hn (e ▸ hm)
      rw [hrec b (hl m (List.mem_cons_of_mem _ hm)), if_neg fun h => hne h.2, if_neg fun h => hne h.2]
    refine ⟨?_, fun b m hm => ?_⟩
    · have hmap : l.map ((State.exportTenant w s n).recordWrite w) = l.map (s.recordWrite w) := by
        refine List.map_congr_left fun m hm => ?_
        unfold State.recordWrite
        rw [hsame m hm]
        unfold State.ownWrite State.windowAddr
        rw [hone]
      rw [List.foldl_cons, heq, hmap, List.map_cons, List.reverse_cons, List.append_assoc, hone]
      rfl
    · rw [List.foldl_cons, hrecords b m hm, hacct]
      by_cases hml : m ∈ l
      · rw [if_pos hml, if_pos (List.mem_cons_of_mem _ hml), hsame m hml, hsame m hml]
      · rw [if_neg hml, hrec b hm]
        by_cases hmn : m = n
        · subst hmn
          rw [if_pos List.mem_cons_self]
          by_cases hb : b = w.bank
          · rw [if_pos hb, if_pos ⟨hb, rfl⟩]
          · have hbl : b = s.acct.live := by omega
            rw [if_neg hb, if_neg fun h => hb h.1, if_pos ⟨hbl, rfl⟩]
        · rw [if_neg fun h => hmn h.2, if_neg fun h => hmn h.2,
            if_neg fun h => (List.mem_cons.1 h).elim hmn hml]

theorem TenantRecord.carried_eq (l r : TenantRecord) :
    l.carried r =
      if r.chargeSat then l
      else
        { l with
          charge := min (2 ^ 48 - 1) (l.charge + r.charge % 256)
          chargeSat := l.chargeSat || decide (2 ^ 48 - 1 < l.charge + r.charge % 256) } := by
  unfold TenantRecord.carried TenantRecord.addCharge TenantRecord.carry
  by_cases h : r.chargeSat = true
  · rw [if_pos h, if_pos h]
  · rw [if_neg h, if_neg h, if_neg h]
    have hcharge : satAdd max48 l.charge (r.charge % 256) = min (2 ^ 48 - 1) (l.charge + r.charge % 256) := by
      unfold satAdd max48
      split <;> omega
    rw [hcharge]
    rfl

/-! ## A step -/

/-- The state once the records of a step have been written. -/
def State.exported (s : State) (w : ExportWalk) : State := (stepTenants w.nextTenant).foldl (State.exportTenant w) s

/-- The walk record behind a step. -/
def State.walked (s : State) (w : ExportWalk) : ExportWalk :=
  { w with
    nextTenant := w.nextTenant + 16
    saturated := w.saturated + ((List.range' w.nextTenant 16).filter fun n => (s.tenantRecord w.bank n).chargeSat).length }

/-- The record writes of a step, the newest first. -/
def State.recordWrites (s : State) (w : ExportWalk) : List BusWrite :=
  ((List.range' w.nextTenant 16).map (s.recordWrite w)).reverse

/-- The notice of a finished walk (R160). -/
def ExportWalk.exportedAsks (w : ExportWalk) (sat : Nat) : List NoticeAsk :=
  [{ kind := .epochExported, subject := w.slot, first := w.epoch.toNat, second := 2 ^ 16 * w.bank + sat }]

section
variable {s : State} {w : ExportWalk}

theorem State.exportStep_of_lt (h : w.nextTenant + 16 < 256) :
    s.exportStep w = (s.exported w).setExport (some (s.walked w)) := if_pos h

theorem State.exportStep_of_last (h : w.nextTenant = 240) :
    s.exportStep w =
      (((((s.exported w).emit (exportBank w.bank) (exportHeader (s.walked w))).ask .epochExported w.slot w.epoch.toNat
        (2 ^ 16 * w.bank + (s.walked w).saturated)).done w.slot .none 0).setExport none) :=
  if_neg (by dsimp only; omega)

theorem State.exported_spec (hlive : w.bank ≠ s.acct.live) (hn : w.nextTenant + 16 ≤ 256) :
    s.exported w =
        { s with
          acct := { s.acct with records := (s.exported w).acct.records }
          bus := { s.bus with writes := s.recordWrites w ++ s.bus.writes } } ∧
      ∀ (b : Fin 2) (m : Nat), m < 256 →
        (s.exported w).tenantRecord b m =
          if w.nextTenant ≤ m ∧ m < w.nextTenant + 16 then
            if b = w.bank then TenantRecord.zero
            else (s.tenantRecord s.acct.live m).carried (s.tenantRecord w.bank m)
          else s.tenantRecord b m := by
  obtain ⟨heq, hrec⟩ := State.exportTenants_spec (w := w) (List.range' w.nextTenant 16) s hlive (List.nodup_range')
    fun n hn' => by have := List.mem_range'_1.1 hn'; omega
  refine ⟨heq, fun b m hm => (hrec b m hm).trans ?_⟩
  simp only [List.mem_range'_1]

theorem State.recordWrites_mem {n : Nat} (h1 : w.nextTenant ≤ n) (h2 : n < w.nextTenant + 16) :
    s.recordWrite w n ∈ s.recordWrites w :=
  List.mem_reverse.2 (List.mem_map.2 ⟨n, List.mem_range'_1.2 ⟨h1, h2⟩, rfl⟩)

theorem State.mem_recordWrites {x : BusWrite} (h : x ∈ s.recordWrites w) : ∃ n, x = s.recordWrite w n := by
  obtain ⟨n, -, rfl⟩ := List.mem_map.1 (List.mem_reverse.1 h)
  exact ⟨n, rfl⟩

theorem State.recordWrite_clearOf {m n : Nat} (h : m ≠ n) :
    (s.recordWrite w m).clearOf (s.windowAddr (exportBank w.bank + 0x40 + 0x40 * n)) 64 :=
  s.ownWrite_clearOf (by rw [exportRecord_length]; omega)

/-- The records of a step stand in memory behind it, whatever else is written elsewhere. -/
theorem State.readBytes_record {t : State} {newer : List BusWrite} (hw : t.path.winbase = s.path.winbase)
    (ht : t.bus.sent = (newer ++ s.recordWrites w) ++ s.bus.sent) {n : Nat} (h1 : w.nextTenant ≤ n)
    (h2 : n < w.nextTenant + 16)
    (hclear : ∀ x ∈ newer, x.clearOf (s.windowAddr (exportBank w.bank + 0x40 + 0x40 * n)) 64) :
    t.readBytes (exportBank w.bank + 0x40 + 0x40 * n) 64 =
      (exportRecord (s.tenantRecord w.bank n) n w.epoch).map some := by
  have hread := State.readBytes_of_mem (s := s) (t := t) (off := exportBank w.bank + 0x40 + 0x40 * n)
    (bytes := exportRecord (s.tenantRecord w.bank n) n w.epoch) hw ht
    (List.mem_append_right _ (State.recordWrites_mem h1 h2)) fun x hx => by
      rw [exportRecord_length]
      rcases List.mem_append.1 hx with hx | hx
      · exact .inr (hclear x hx)
      · obtain ⟨m, rfl⟩ := State.mem_recordWrites hx
        by_cases hm : m = n
        · subst hm; exact .inl rfl
        · exact .inr (State.recordWrite_clearOf hm)
  rwa [exportRecord_length] at hread

theorem exportHeader_length (w : ExportWalk) : (exportHeader w).length = 64 := by
  simp [exportHeader, headerMark]

/-- What the last step leaves and sends: the records, the header, EPOCH_EXPORTED and the status word (R158, R160). -/
theorem State.exportStep_last_spec (hq : s.quiet) (hlive : w.bank ≠ s.acct.live) (h : w.nextTenant = 240) :
    ∃ t, t = (s.exportStep w).finish ∧
      s.sends t (s.ownWrite (exportBank w.bank) (exportHeader (s.walked w)) :: s.recordWrites w)
        (w.exportedAsks (s.walked w).saturated)
        [s.endWrite w.slot .done (s.slot w.slot).tag] ∧
      t.slot w.slot = { s.slot w.slot with status := .done } ∧ (∀ k, k ≠ w.slot → t.slot k = s.slot k) ∧
      t.acct = { (s.exported w).acct with walk := none } ∧
      s.sameOutside [.acct, .notices, .slots, .bus] t := by
  refine ⟨_, rfl, ?_⟩
  obtain ⟨heq, -⟩ := State.exported_spec hlive (by omega)
  rw [State.exportStep_of_last h]
  generalize s.exported w = e at heq ⊢
  obtain ⟨u, hu⟩ : ∃ u, u = e.emit (exportBank w.bank) (exportHeader (s.walked w)) := ⟨_, rfl⟩
  have hu' : u = { s with
      acct := e.acct
      bus := { s.bus with
        writes := s.ownWrite (exportBank w.bank) (exportHeader (s.walked w)) :: s.recordWrites w ++ s.bus.writes } } := by
    rw [hu, heq]; rfl
  have hf : Follows (s.ownWrite (exportBank w.bank) (exportHeader (s.walked w)) :: s.recordWrites w) s u := by
    rw [hu']
    exact { Agrees.refl s with writes := by show _ ++ s.bus.writes = s.bus.writes ++ _; rw [hq.1]; simp }
  rw [← hu]
  have hask := hf.ask .epochExported w.slot w.epoch.toNat (2 ^ 16 * w.bank + (s.walked w).saturated)
  have hask_eq := u.ask_eq (k := .epochExported) (a := w.slot) (b := w.epoch.toNat)
    (c := 2 ^ 16 * w.bank + (s.walked w).saturated)
  generalize u.ask _ _ _ _ = v at hask hask_eq ⊢
  rw [hu'] at hask_eq
  have hslots : v.slots = s.slots := by rw [hask_eq]
  have hslot (k : SlotId) : v.slot k = s.slot k := by unfold State.slot; rw [hslots]
  have hset (k : SlotId) : ((v.setSlot w.slot { v.slot w.slot with status := .done }).slot k) =
      if k = w.slot then { v.slot w.slot with status := .done } else v.slot k := State.setSlot_slot _ _ _ _
  have hsent : (v.setSlot w.slot { v.slot w.slot with status := .done }).bus.sent = s.bus.sent := by
    show v.bus.sent = _; rw [hask_eq]
  have hdel := (hask.agrees (State.slots_outside v _).agrees).finish_delivers_status hq
    ((Gathers.refl s).ask _ _ _ _) hsent (slotOffset w.slot + 52)
    (leBytes 4 0 ++ statusWordBytes .done .none (v.slot w.slot).tag)
  rw [hslot] at hdel
  refine ⟨?sends, ?slot, fun k hk => ?others, ?acct, ?frame⟩
  case sends =>
    refine State.delivers_noticed hq ?_
    rw [State.done, State.endSlot, hslot]
    exact hdel
  case slot => exact (hset w.slot).trans (by rw [if_pos rfl, hslot])
  case others => exact (hset k).trans (by rw [if_neg hk, hslot])
  case acct => rw [State.finish_acct]; show { v.acct with walk := none } = _; rw [hask_eq]
  case frame => rw [hask_eq]; simp [State.sameOutside, State.finish, State.setExport, State.done, State.endSlot, State.setSlot, State.emitStatus]

/-- The writes of the last step behind its records are clear of the exported records' area and of the header's place. -/
theorem State.exportLast_clearOf (hq : s.quiet) {asks : List NoticeAsk} {st : SlotStatus} {tag : BitVec 16} {off : Nat}
    (hoff : Config.exportArea ≤ off) (x : BusWrite)
    (hx : x ∈ s.endWrite w.slot st tag :: (s.noticed asks).bus.notices) : x.clearOf (s.windowAddr off) 64 := by
  unfold Config.exportArea at hoff
  rcases List.mem_cons.1 hx with rfl | hx
  · refine s.ownWrite_clearOf (.inl ?_)
    have := w.slot.isLt
    simp only [slotOffset, Config.commandSlots, statusWordBytes, List.length_append, leBytes_length]
    omega
  · exact State.noticed_clearOf hq.2.1 hx (.inr (by unfold Config.noticeRing; omega))

/-- What every step leaves and sends, the last one or not: its records, then writes elsewhere. -/
theorem State.exportStep_spec (hq : s.quiet) (hlive : w.bank ≠ s.acct.live) (hn : w.nextTenant + 16 ≤ 256) :
    ∃ t walk newer, t = (s.exportStep w).finish ∧ t.acct = { (s.exported w).acct with walk := walk } ∧
      t.bus.sent = (newer ++ s.recordWrites w) ++ s.bus.sent ∧
      (∀ n, ∀ x ∈ newer, x.clearOf (s.windowAddr (exportBank w.bank + 0x40 + 0x40 * n)) 64) ∧
      s.sameOutside [.acct, .notices, .slots, .bus] t ∧
      (w.nextTenant + 16 < 256 → walk = some (s.walked w) ∧ t.notices = s.notices ∧ t.slots = s.slots ∧
        t.bus = (s.sending (s.recordWrites w)).bus) := by
  obtain ⟨h1, h2, h3⟩ := hq
  by_cases hlt : w.nextTenant + 16 < 256
  · obtain ⟨heq, -⟩ := State.exported_spec hlive hn
    rw [State.exportStep_of_lt hlt]
    generalize s.exported w = e at heq ⊢
    refine ⟨_, some (s.walked w), [], rfl, rfl, ?_, by simp, ?_, fun _ => ⟨rfl, ?_, ?_, ?_⟩⟩
    all_goals rw [heq]; simp [State.sameOutside, State.finish, State.setExport, State.sending, h1, h2, h3]
  · obtain ⟨t, ht, hsends, -, -, hacct, hframe⟩ := State.exportStep_last_spec (s := s) (w := w) ⟨h1, h2, h3⟩ hlive (by omega)
    refine ⟨t, none, s.endWrite w.slot .done (s.slot w.slot).tag ::
      ((s.noticed (w.exportedAsks (s.walked w).saturated)).bus.notices ++ [s.ownWrite (exportBank w.bank) (exportHeader (s.walked w))]), ht, hacct, ?_, fun n x hx => ?_, hframe,
      fun h => absurd h hlt⟩
    · rw [hsends.2]; simp [State.sending]
    · rcases List.mem_append.1 (show x ∈ (_ :: _) ++ _ from hx) with hx | hx
      · exact State.exportLast_clearOf ⟨h1, h2, h3⟩ (by unfold exportBank; omega) x hx
      · rw [List.mem_singleton.1 hx]
        exact s.ownWrite_clearOf (.inl (by rw [exportHeader_length]; omega))

theorem State.exec_exportWalkStep (hw : s.acct.walk = some w) :
    exec .exportWalkStep s = .next (s.exportStep w).finish := by
  change execExportWalkStep s = _
  unfold execExportWalkStep
  rw [hw]

end

/-- Settles O37: by the records of the step, and by whether it is the last. -/
theorem exportStepWritesAndCarries : Obligations.ExportStepWritesAndCarries := fun s w hq hw hn hlive => by
  obtain ⟨heq, hrec⟩ := State.exported_spec hlive hn
  obtain ⟨t, walk, newer, ht, hacct, hsent, hclear, hframe, hmore⟩ := State.exportStep_spec hq hlive hn
  have htrec (b : Fin 2) (m : Nat) : t.tenantRecord b m = (s.exported w).tenantRecord b m := by
    unfold State.tenantRecord; rw [hacct]
  have hunit : (s.exported w).acct = { s.acct with records := (s.exported w).acct.records } := by rw [heq]
  refine ⟨t, ht ▸ State.exec_exportWalkStep hw, fun n h1 h2 => ⟨?read, ?clear, ?carry⟩, fun n b hn256 hout => ?others,
    fun hlt => ?more, ?_, ?_, ?_, hframe⟩
  case read => exact State.readBytes_record (by rw [hframe.path]) hsent h1 h2 (hclear n)
  case clear => rw [htrec, hrec _ _ (by omega), if_pos ⟨h1, h2⟩, if_pos rfl]
  case carry =>
    rw [htrec, hrec _ _ (by omega), if_pos ⟨h1, h2⟩, if_neg hlive.symm]
    exact TenantRecord.carried_eq _ _
  case others => rw [htrec, hrec _ _ hn256, if_neg hout]
  case more =>
    obtain ⟨hwalk, hnotices, hslots, hbus⟩ := hmore hlt
    refine ⟨?_, hnotices, hslots, hbus⟩
    rw [hacct, hwalk]
    rfl
  all_goals rw [hacct, hunit]

/-- Settles O38. -/
theorem lastExportStepEndsWalk : Obligations.LastExportStepEndsWalk := fun s w sat header hq hw hlast hlive hsat hheader => by
  obtain ⟨t, ht, hsends, hslot, hothers, hacct, hframe⟩ := State.exportStep_last_spec hq hlive hlast
  have hwalked : (s.walked w).saturated = sat := by rw [hsat, State.walked, hlast]
  have hhead : header = exportHeader (s.walked w) := by
    rw [hheader, exportHeader, hwalked, headerMark]
    simp only [State.walked, List.append_assoc]
    rfl
  have hrecords : s.recordWrites w = ((List.range' 240 16).map fun n =>
      s.ownWrite (exportBank w.bank + 0x40 + 0x40 * n) (exportRecord (s.tenantRecord w.bank n) n w.epoch)).reverse := by
    rw [State.recordWrites, hlast]; rfl
  rw [hwalked, ← hhead] at hsends
  have hlen : header.length = 64 := hhead ▸ exportHeader_length _
  refine ⟨t, ht ▸ State.exec_exportWalkStep hw, by rw [hacct], hslot, hothers, hlen, ?read, hrecords ▸ hsends, hframe⟩
  have hread := State.readBytes_of_mem (s := s) (t := t) (off := exportBank w.bank) (bytes := header)
    (l := s.endWrite w.slot .done (s.slot w.slot).tag ::
      ((s.noticed (w.exportedAsks sat)).bus.notices ++ s.ownWrite (exportBank w.bank) header :: s.recordWrites w)) (rest := s.bus.sent) (by rw [hframe.path]) (by rw [hsends.2]; simp [State.sending]) (by simp)
    fun x hx => by
      rw [hlen]
      rcases List.mem_append.1 (show x ∈ (_ :: _) ++ _ from hx) with hx | hx
      · exact .inr (State.exportLast_clearOf hq (by unfold exportBank; omega) x hx)
      · rcases List.mem_cons.1 hx with rfl | hx
        · exact .inl rfl
        · obtain ⟨m, rfl⟩ := State.mem_recordWrites hx
          exact .inr (s.ownWrite_clearOf (.inr (by omega)))
  rwa [hlen] at hread

end Sys2Proof.Machine
end

section
/-! Writes of the control tables: where the granules stand, what a write stages, and refused commits (O39, O41). -/
namespace Sys2Proof.Machine

/-! ## Notices and the parts they do not read -/

/-- Notices do not read the installed tables, the staging copy or the free values. -/
theorem State.noticed_with (u : State) (p : PathMonitor) (hp : p.winbase = u.path.winbase) (T : Installed) (n : Nat)
    (l : List NoticeAsk) :
    ({ u with path := p, tables := T, freeDraws := n } : State).noticed l =
      { u.noticed l with path := p, tables := T, freeDraws := n } := by
  induction l generalizing u with
  | nil => rfl
  | cons a l ih =>
    have hask : ({ u with path := p, tables := T, freeDraws := n } : State).ask a.kind a.subject a.first a.second =
        { u.ask a.kind a.subject a.first a.second with path := p, tables := T, freeDraws := n } := by
      unfold State.ask
      split
      · rfl
      · unfold State.ownWrite State.windowAddr
        rw [show ({ u with path := p, tables := T, freeDraws := n } : State).path.winbase = u.path.winbase from hp]
        rfl
    rw [State.noticed_cons, hask, ih _ (by rw [State.ask_path]; exact hp), State.noticed_cons]

theorem State.noticed_setStaging (u : State) (v : Option Staging) (l : List NoticeAsk) :
    (u.setStaging v).noticed l = (u.noticed l).setStaging v := by
  refine (State.noticed_with u { u.path with staging := v } rfl u.tables u.freeDraws l).trans ?_
  rw [State.noticed_eq]
  rfl

/-! ## Staging -/

/-- The staging copy once a write to entry `e` has been staged (R169). -/
def State.stagedFor (s : State) (e : EntryWrite) : Staging :=
  { table := e.table, index := e.index, bytes := stageBytes e.base e.lanes (s.stagedBytes e.table e.index) }

/-- A share is staged behind the notice of what it abandons. -/
theorem State.stageEntry_eq (s : State) (e : EntryWrite) :
    s.stageEntry e = (s.noticed (s.abandonAsks e)).setStaging (some (s.stagedFor e)) := by
  unfold State.stageEntry State.abandon State.abandonAsks State.stagedFor State.stagedBytes
  cases hs : s.path.staging with
  | none => simp only [hs]; rfl
  | some v =>
    dsimp only
    by_cases hsame : v.table = e.table ∧ v.index = e.index
    · simp only [if_pos hsame, if_pos (Or.inr hsame : v.bytes = [] ∨ _), hs]; rfl
    · simp only [if_neg hsame]
      by_cases hempty : v.bytes = []
      · simp only [hempty, List.isEmpty_nil, if_true, true_or]; rfl
      · have hne : v.bytes.isEmpty = false := by simpa using hempty
        have hor : ¬(v.bytes = [] ∨ v.table = e.table ∧ v.index = e.index) := fun h => h.elim hempty hsame
        have hcomm := s.noticed_setStaging none
          [{ kind := .tableAbandoned, subject := v.index, first := 2 ^ 8 * v.table, second := 0 }]
        change (s.setStaging none).ask _ _ _ _ = _ at hcomm
        simp only [hne, Bool.false_eq_true, if_false, if_neg hor]
        rw [hcomm]
        rfl

theorem State.installedBytes_congr {s t : State} (h : t.tables = s.tables) (table i : Nat) :
    t.installedBytes table i = s.installedBytes table i := by
  unfold State.installedBytes State.scheduleProfile State.tariffSet State.segmentEntry
  rw [h]

/-- What a share of a commit offers for installation (R170). -/
def State.offered (s : State) (e : EntryWrite) : List Byte :=
  overlay (s.installedBytes e.table e.index) (stageBytes e.base e.lanes (s.stagedBytes e.table e.index))

/-- The state in which a commit is installed or refused: the staging copy holds no entry (R170). -/
def State.committing (s : State) (e : EntryWrite) : State := (s.noticed (s.abandonAsks e)).setStaging none

theorem State.stageEntry_commit (s : State) (e : EntryWrite) :
    (s.stageEntry e).commit e =
      if entryReasons e.table (s.offered e) = [] then (s.committing e).install e.table e.index (s.offered e)
      else (s.committing e).reject e.table e.index (entryReasons e.table (s.offered e)) := by
  have htables : (s.noticed (s.abandonAsks e)).tables = s.tables := by rw [State.noticed_eq]
  have hoff : overlay ((s.stageEntry e).installedBytes e.table e.index) ((s.stageEntry e).stagedBytes e.table e.index) =
      s.offered e := by
    have hbytes : (s.stageEntry e).installedBytes e.table e.index = s.installedBytes e.table e.index := by
      rw [State.stageEntry_eq]
      exact State.installedBytes_congr htables _ _
    have hstaged : (s.stageEntry e).stagedBytes e.table e.index =
        stageBytes e.base e.lanes (s.stagedBytes e.table e.index) := by
      rw [State.stageEntry_eq]
      exact if_pos ⟨rfl, rfl⟩
    rw [hbytes, hstaged]
    rfl
  have hnone : (s.stageEntry e).setStaging none = s.committing e := by rw [State.stageEntry_eq]; rfl
  unfold State.commit
  dsimp only
  rw [hoff, hnone]
  split
  · rename_i h; rw [if_pos h]
  · rename_i h; rw [if_neg h]

theorem State.entryWrite_of_staging {s : State} {e : EntryWrite} (h : e.commits = false) :
    s.entryWrite e = s.stageEntry e := if_neg (by simp [h])

theorem State.entryWrite_of_accepted {s : State} {e : EntryWrite} (h : e.commits = true)
    (ha : entryReasons e.table (s.offered e) = []) :
    s.entryWrite e = (s.committing e).install e.table e.index (s.offered e) := by
  rw [State.entryWrite, if_pos h, State.stageEntry_commit, if_pos ha]

theorem State.entryWrite_of_refused {s : State} {e : EntryWrite} (h : e.commits = true)
    (hr : entryReasons e.table (s.offered e) ≠ []) :
    s.entryWrite e = (s.committing e).reject e.table e.index (entryReasons e.table (s.offered e)) := by
  rw [State.entryWrite, if_pos h, State.stageEntry_commit, if_neg hr]

/-! ## A write of one entry -/

/-- A write of a granule that holds one entry is that entry's write. -/
theorem exec_tableStagingWrite_of_single {i : Fin 3584} {g : Lanes} {s : State} {e : EntryWrite}
    (h : entryWrites i g = [e]) :
    exec (.tableStagingWrite i g) s = .next ((s.forward (s.windowAddr (tableOffset i)) g).entryWrite e).finish := by
  change Host.Outcome.next (State.finish ((entryWrites i g).foldl State.entryWrite _)) = _
  rw [h]
  rfl

theorem exec_tableCommit (i : Fin 3584) (g : Lanes) (s : State) :
    exec (.tableCommit i g) s = exec (.tableStagingWrite i g) s := rfl

theorem pickReason_mem {l : List Reason} (h : l ≠ []) (draw : Nat) : pickReason l draw ∈ l := by
  have hsub : ∀ r ∈ l.eraseDups, r ∈ l := fun r => List.mem_eraseDups.1
  unfold pickReason
  cases hl : l.eraseDups with
  | nil =>
    obtain ⟨r, hr⟩ := List.exists_mem_of_ne_nil l h
    have := List.mem_eraseDups.2 hr
    rw [hl] at this
    cases this
  | cons r rest =>
    rw [hl] at hsub
    cases rest with
    | nil => exact hsub r List.mem_cons_self
    | cons r' rest =>
      refine hsub _ ?_
      have hlt : Config.reasonChoice draw % (r :: r' :: rest).length < (r :: r' :: rest).length :=
        Nat.mod_lt _ (by simp)
      show (r :: r' :: rest).getD _ r ∈ _
      rw [List.getD_eq_getElem _ _ hlt]
      exact List.getElem_mem hlt

/-- Settles O41. -/
theorem refusedCommitKeepsInstalledCopy : Obligations.RefusedCommitKeepsInstalledCopy :=
  fun i g s e reasons hq he hc hreasons hne => by
  refine ⟨pickReason reasons s.freeDraws, pickReason_mem hne _, ?_⟩
  rw [exec_tableCommit, exec_tableStagingWrite_of_single he]
  refine congrArg Host.Outcome.next (State.noticed_finish (by exact hq) (congrArg State.finish ?_))
  have hoff : (s.forward (s.windowAddr (tableOffset i)) g).offered e =
      overlay (s.installedBytes e.table e.index) (stageBytes e.base e.lanes (s.stagedBytes e.table e.index)) := rfl
  rw [State.entryWrite_of_refused hc (by rw [hoff, ← hreasons]; exact hne), hoff, ← hreasons, State.noticed_append]
  rw [State.committing, State.reject, show State.abandonAsks (s.forward (s.windowAddr (tableOffset i)) g) e = s.abandonAsks e from rfl]
  obtain ⟨v, hv⟩ : ∃ v, v = (s.forward (s.windowAddr (tableOffset i)) g).noticed (s.abandonAsks e) := ⟨_, rfl⟩
  have hfixed : v.freeDraws = s.freeDraws ∧ v.path = s.path ∧ v.tables = s.tables := by
    rw [hv, State.noticed_eq]; exact ⟨rfl, rfl, rfl⟩
  obtain ⟨hdraws, hpath, htables⟩ := hfixed
  have hcomm := State.noticed_with (s.forward (s.windowAddr (tableOffset i)) g) { s.path with staging := none } rfl
    s.tables (s.freeDraws + 1) (s.abandonAsks e)
  rw [← hv] at hcomm ⊢
  have hleft : ({ v.setStaging none with freeDraws := (v.setStaging none).freeDraws + 1 } : State) =
      { v with path := { s.path with staging := none }, tables := s.tables, freeDraws := s.freeDraws + 1 } := by
    rw [← hdraws, ← hpath, ← htables]; rfl
  rw [hleft, ← hcomm, show (v.setStaging none).freeDraws = s.freeDraws from hdraws]
  rfl

/-! ## Bytes staged -/

theorem stageBytes_find (base : Nat) (g : Lanes) (m : Table Byte) (j : Nat) :
    (stageBytes base g m).find j = ((if base ≤ j then g[j - base]? else none).join).or (m.find j) := by
  induction g generalizing base m with
  | nil => unfold stageBytes; split <;> simp
  | cons l g ih =>
    have hsucc : (if base + 1 ≤ j then g[j - (base + 1)]? else none).join =
        if j = base then none else (if base ≤ j then (l :: g)[j - base]? else none).join := by
      by_cases hj : j = base
      · subst hj; simp
      · rw [if_neg hj]
        by_cases hle : base ≤ j
        · rw [if_pos hle, if_pos (by omega), show j - base = (j - (base + 1)) + 1 by omega, List.getElem?_cons_succ]
        · rw [if_neg hle, if_neg (by omega)]
    cases l with
    | none =>
      rw [stageBytes, ih, hsucc]
      by_cases hj : j = base
      · subst hj; simp
      · rw [if_neg hj]
    | some b =>
      rw [stageBytes, ih, hsucc, Table.find_put]
      by_cases hj : j = base
      · subst hj; simp
      · rw [if_neg hj, if_neg hj]

/-! ## Where the entries stand -/

theorem tableLayout_eq :
    tableLayout = tableAreas.map fun t => (t.offset / 64, t.entries * t.size / 64, t.number, t.size) := rfl

theorem tableAreas_whole {t : TableArea} (h : t ∈ tableAreas) :
    64 * (t.offset / 64) = t.offset ∧ 64 * (t.entries * t.size / 64) = t.entries * t.size ∧
      (t.size = 16 ∨ t.size = 64 ∨ t.size = 128) ∧ (t.size = 16 → t.number = 3 ∨ t.number = 7) := by
  revert t; decide

theorem areaAt_layout (i : Nat) :
    (areaAt (64 * i)).map (fun a => (a.number, a.size)) =
      (tableLayout.find? fun x => decide (x.1 ≤ i ∧ i < x.1 + x.2.1)).map fun x => (x.2.2.1, x.2.2.2) := by
  rw [tableLayout_eq, List.find?_map, Option.map_map]
  unfold areaAt
  refine congrArg _ ?_
  have hcongr : ∀ l : List TableArea, (∀ t ∈ l, t ∈ tableAreas) →
      l.find? (fun t => decide (t.offset ≤ 64 * i ∧ 64 * i < t.offset + t.entries * t.size)) =
        l.find? ((fun x => decide (x.1 ≤ i ∧ i < x.1 + x.2.1)) ∘
          fun t => (t.offset / 64, t.entries * t.size / 64, t.number, t.size)) := by
    intro l hl
    induction l with
    | nil => rfl
    | cons t l ih =>
      obtain ⟨h1, h2, -⟩ := tableAreas_whole (hl t List.mem_cons_self)
      have hp : decide (t.offset ≤ 64 * i ∧ 64 * i < t.offset + t.entries * t.size) =
          decide (t.offset / 64 ≤ i ∧ i < t.offset / 64 + t.entries * t.size / 64) := by
        generalize t.entries * t.size = k at *
        exact decide_eq_decide.2 (by omega)
      rw [List.find?_cons, List.find?_cons, ih fun x hx => hl x (List.mem_cons_of_mem _ hx), hp]
      rfl
  exact hcongr _ fun _ h => h

theorem areaAt_some {off : Nat} {t : TableArea} (h : areaAt off = some t) :
    t ∈ tableAreas ∧ t.offset ≤ off ∧ off < t.offset + t.entries * t.size := by
  refine ⟨List.mem_of_find?_eq_some h, ?_⟩
  simpa using List.find?_some h

/-- The shares of a write are those of the entries whose bytes it covers. -/
theorem entryWrites_share {i : Nat} {g : Lanes} {e : EntryWrite} (h : e ∈ entryWrites i g) :
    ∃ x ∈ tableLayout, x.2.2.1 = e.table ∧ x.2.2.2 = e.size ∧ ∃ off < 64,
      64 * x.1 + e.index * e.size + e.base = 64 * i + off ∧ e.base + 1 ≤ e.size ∧
        e.lanes = if e.size < 64 then (g.drop off).take e.size else g := by
  unfold entryWrites at h
  cases ha : areaAt (64 * i) with
  | none => rw [ha] at h; simp at h
  | some t =>
    obtain ⟨hmem, hle, -⟩ := areaAt_some ha
    obtain ⟨hoff, -, hsize, -⟩ := tableAreas_whole hmem
    have hx : (t.offset / 64, t.entries * t.size / 64, t.number, t.size) ∈ tableLayout := by
      rw [tableLayout_eq]; exact List.mem_map.2 ⟨t, hmem, rfl⟩
    rw [ha] at h
    dsimp only at h
    refine ⟨_, hx, ?_⟩
    have hshare := (List.mem_filter.1 h).1
    split at hshare
    case isTrue hlt =>
      obtain ⟨j, hj, rfl⟩ := List.mem_map.1 hshare
      have h16 : t.size = 16 := by omega
      rw [h16] at hj
      have hj4 := List.mem_range.1 hj
      refine ⟨rfl, rfl, 16 * j, by omega, ?_, ?_, ?_⟩
      · dsimp only; rw [h16, hoff]; omega
      · dsimp only; omega
      · dsimp only; rw [h16, if_pos (by decide)]; rfl
    case isFalse hge =>
      rw [List.mem_singleton.1 hshare]
      refine ⟨rfl, rfl, 0, by decide, ?_, ?_, ?_⟩
      · dsimp only
        rw [hoff]
        have := Nat.div_add_mod (64 * i - t.offset) t.size
        rw [Nat.mul_comm] at this
        omega
      · exact Nat.mod_lt _ (by omega)
      · dsimp only; rw [if_neg hge]

theorem anyStrobe_lanesAt {g : Lanes} (h : anyStrobe g = false) (off n : Nat) : anyStrobe (lanesAt g off n) = false := by
  unfold anyStrobe lanesAt at *
  rw [List.any_eq_false] at h ⊢
  exact fun x hx => h x (List.mem_of_mem_drop (List.mem_of_mem_take hx))

theorem entryWrites_of_gap {i : Nat} {g : Lanes} (h : areaAt (64 * i) = none ∨ anyStrobe g = false) :
    entryWrites i g = [] := by
  unfold entryWrites
  cases ha : areaAt (64 * i) with
  | none => rfl
  | some t =>
    have hg : anyStrobe g = false := h.resolve_left (by rw [ha]; exact Option.some_ne_none _)
    dsimp only
    rw [List.filter_eq_nil_iff]
    intro e he
    split at he
    · obtain ⟨j, -, rfl⟩ := List.mem_map.1 he
      simp [anyStrobe_lanesAt hg]
    · rw [List.mem_singleton.1 he]; simp [hg]

/-! ## Four entries in one granule -/

/-- What `f` tells is the same whatever the stream holds, and it sends nothing else. -/
def Tells (f : State → State) : Prop :=
  ∀ u : State, ∃ told : List BusWrite, (∀ w ∈ told, w.own = true) ∧
    ∀ b : Bus, f { u with bus := b } = { f u with bus := { b with notices := told ++ b.notices } }

namespace Tells

/-- An operation that neither reads nor writes the stream. -/
theorem of_silent {f : State → State} (h : ∀ (u : State) (b : Bus), f { u with bus := b } = { f u with bus := b }) : Tells f :=
  fun u => ⟨[], by simp, fun b => h u b⟩

theorem comp {f g : State → State} (hf : Tells f) (hg : Tells g) : Tells fun u => g (f u) := fun u => by
  obtain ⟨told, hown, hu⟩ := hf u
  obtain ⟨told', hown', hv⟩ := hg (f u)
  refine ⟨told' ++ told, fun w hw => (List.mem_append.1 hw).elim (hown' w) (hown w), fun b => ?_⟩
  show g (f _) = _
  rw [hu, hv, List.append_assoc]

/-- An operation whose choice of what to do does not read the stream. -/
theorem choose {α : Type} (k : State → α) (hk : ∀ (u : State) (b : Bus), k { u with bus := b } = k u)
    {f : α → State → State} (hf : ∀ x, Tells (f x)) : Tells fun u => f (k u) u := fun u => by
  obtain ⟨told, hown, hu⟩ := hf (k u) u
  exact ⟨told, hown, fun b => by dsimp only; rw [hk, hu]⟩

theorem ask (kind : NoticeKind) (a b c : Nat) : Tells fun u => u.ask kind a b c := fun u => by
  by_cases hfull : u.notices.full = true
  · refine ⟨[], by simp, fun bus => ?_⟩
    unfold State.ask
    dsimp only
    rw [if_pos hfull, if_pos (show ({ u with bus := bus } : State).notices.full = true from hfull)]
    rfl
  · refine ⟨[u.noticeWrite kind a b c], by simp [State.noticeWrite, State.ownWrite], fun bus => ?_⟩
    unfold State.ask
    dsimp only
    rw [if_neg hfull, if_neg (show ¬({ u with bus := bus } : State).notices.full = true from hfull)]
    rfl

theorem noticed (l : List NoticeAsk) : Tells fun u => u.noticed l := by
  induction l with
  | nil => exact of_silent fun _ _ => rfl
  | cons n l ih => exact (ask n.kind n.subject n.first n.second).comp ih

theorem setStaging (v : Option Staging) : Tells fun u => u.setStaging v := of_silent fun _ _ => rfl

theorem stageEntry (e : EntryWrite) : Tells fun u => u.stageEntry e := by
  have h := choose (fun u : State => (u.abandonAsks e, some (u.stagedFor e))) (fun _ _ => rfl)
    (f := fun x u => (u.noticed x.1).setStaging x.2) fun x => (noticed x.1).comp (setStaging x.2)
  simpa only [← State.stageEntry_eq] using h

theorem committing (e : EntryWrite) : Tells fun u => u.committing e :=
  choose (fun u : State => u.abandonAsks e) (fun _ _ => rfl) fun l => (noticed l).comp (setStaging none)

theorem install {table : Nat} (ht : table = 3 ∨ table = 7) (i : Nat) (b : List Byte) :
    Tells fun u => u.install table i b := by
  rcases ht with rfl | rfl
  · exact of_silent fun _ _ => rfl
  · exact of_silent fun _ _ => rfl

theorem reject (table i : Nat) (reasons : List Reason) : Tells fun u => u.reject table i reasons :=
  choose (fun u : State => u.freeDraws) (fun _ _ => rfl) fun n =>
    (of_silent (f := fun u => { u with freeDraws := u.freeDraws + 1 }) fun _ _ => rfl).comp
      (ask .tableRejected i (2 ^ 8 * table + (pickReason reasons n).code) 0)

/-- A write of an entry of 16 bytes brings notices alone. -/
theorem entryWrite {e : EntryWrite} (ht : e.table = 3 ∨ e.table = 7) : Tells fun u => u.entryWrite e := by
  by_cases hc : e.commits = true
  · have h := choose (fun u : State => u.offered e) (fun _ _ => rfl)
      (f := fun b u =>
        if entryReasons e.table b = [] then (u.committing e).install e.table e.index b
        else (u.committing e).reject e.table e.index (entryReasons e.table b))
      fun b => by
        by_cases hr : entryReasons e.table b = []
        · simpa only [if_pos hr] using (committing e).comp (install ht e.index b)
        · simpa only [if_neg hr] using (committing e).comp (reject e.table e.index _)
    simpa only [State.entryWrite, if_pos hc, State.stageEntry_commit] using h
  · simpa only [State.entryWrite, if_neg hc] using stageEntry e

theorem foldl {l : List EntryWrite} (h : ∀ e ∈ l, e.table = 3 ∨ e.table = 7) :
    Tells fun u => l.foldl State.entryWrite u := by
  induction l with
  | nil => exact of_silent fun _ _ => rfl
  | cons e l ih => exact (entryWrite (h e List.mem_cons_self)).comp (ih fun x hx => h x (List.mem_cons_of_mem _ hx))

end Tells

/-- The state with nothing gathered and `sent` sent. -/
def State.behind (u : State) (sent : List BusWrite) : State :=
  { u with bus := { sent := sent, writes := [], notices := [], statuses := [] } }

/-- The lanes of one entry of 16 bytes. -/
theorem entryLanes_getElem? (j : Nat) (g : Lanes) (x : Nat) :
    (entryLanes j g)[x]? = if x / 16 = j then g[x]? else g[x]?.map fun _ => none := by
  unfold entryLanes
  rw [List.getElem?_map, List.getElem?_zipIdx, Option.map_map]
  cases g[x]? with
  | none => simp
  | some l => by_cases h : x / 16 = j <;> simp [h]

theorem lanesAt_entryLanes_self (j : Nat) (g : Lanes) : lanesAt (entryLanes j g) (16 * j) 16 = lanesAt g (16 * j) 16 := by
  apply List.ext_getElem?
  intro x
  unfold lanesAt
  rw [List.getElem?_take, List.getElem?_take]
  by_cases hx : x < 16
  · rw [if_pos hx, if_pos hx, List.getElem?_drop, List.getElem?_drop, entryLanes_getElem?, if_pos (by omega)]
  · rw [if_neg hx, if_neg hx]

theorem anyStrobe_entryLanes_ne {j k : Nat} (h : k ≠ j) (g : Lanes) :
    anyStrobe (lanesAt (entryLanes j g) (16 * k) 16) = false := by
  unfold anyStrobe lanesAt
  rw [List.any_eq_false]
  intro l hl
  obtain ⟨x, hx⟩ := List.mem_iff_getElem?.1 hl
  rw [List.getElem?_take] at hx
  split at hx
  · rw [List.getElem?_drop, entryLanes_getElem?, if_neg (by omega)] at hx
    obtain ⟨_, -, rfl⟩ := Option.map_eq_some_iff.1 hx
    simp
  · cases hx

theorem filter_map_cons {α β : Type} (p : α → Bool) (f : α → β) (k : α) (l : List α) :
    ((k :: l).filter p).map f = (if p k = true then [f k] else []) ++ (l.filter p).map f := by
  rw [List.filter_cons]
  split <;> simp

/-- A granule of four entries: the shares of its write are those of the four writes with the lanes of one entry each. -/
theorem entryWrites_quarters {i : Nat} {t : TableArea} (ha : areaAt (64 * i) = some t) (hs : t.size = 16) (g : Lanes) :
    entryWrites i g =
      entryWrites i (entryLanes 0 g) ++ (entryWrites i (entryLanes 1 g) ++
        (entryWrites i (entryLanes 2 g) ++ entryWrites i (entryLanes 3 g))) := by
  have key (f : Lanes) : entryWrites i f =
      (([0, 1, 2, 3] : List Nat).filter fun k => anyStrobe (lanesAt f (16 * k) 16)).map fun k =>
        ⟨t.number, (64 * i - t.offset) / 16 + k, 16, 0, lanesAt f (16 * k) 16⟩ := by
    unfold entryWrites
    rw [ha]
    dsimp only
    rw [hs, if_pos (by decide), List.filter_map]
    rfl
  have hself (j : Nat) := lanesAt_entryLanes_self j g
  have hne (j k : Nat) (h : k ≠ j) := anyStrobe_entryLanes_ne h g
  have one (j : Nat) (hj : j < 4) : entryWrites i (entryLanes j g) =
      if anyStrobe (lanesAt g (16 * j) 16) = true then
        [⟨t.number, (64 * i - t.offset) / 16 + j, 16, 0, lanesAt g (16 * j) 16⟩] else [] := by
    have hfilter : (([0, 1, 2, 3] : List Nat).filter fun k => anyStrobe (lanesAt (entryLanes j g) (16 * k) 16)) =
        if anyStrobe (lanesAt g (16 * j) 16) = true then [j] else [] := by
      have h (k : Nat) : anyStrobe (lanesAt (entryLanes j g) (16 * k) 16) =
          (decide (k = j) && anyStrobe (lanesAt g (16 * j) 16)) := by
        by_cases hk : k = j
        · subst hk; rw [hself]; simp
        · rw [hne j k hk]; simp [hk]
      simp only [h]
      cases anyStrobe (lanesAt g (16 * j) 16) with
      | false => simp
      | true => clear h key hself hne; revert j; decide
    rw [key, hfilter]
    split
    · rw [List.map_singleton, hself]
    · rfl
  rw [one 0 (by decide), one 1 (by decide), one 2 (by decide), one 3 (by decide), key, filter_map_cons,
    filter_map_cons, filter_map_cons, filter_map_cons]
  simp

theorem entryWrites_small {i : Nat} {t : TableArea} (ha : areaAt (64 * i) = some t) (hs : t.size = 16) {f : Lanes}
    {e : EntryWrite} (he : e ∈ entryWrites i f) : e.table = 3 ∨ e.table = 7 := by
  obtain ⟨hmem, -, -⟩ := areaAt_some ha
  obtain ⟨-, -, -, hnum⟩ := tableAreas_whole hmem
  unfold entryWrites at he
  rw [ha] at he
  dsimp only at he
  rw [if_pos (by omega)] at he
  obtain ⟨j, -, rfl⟩ := List.mem_map.1 (List.mem_filter.1 he).1
  exact hnum hs

/-- A write that brings notices alone, from a state that has gathered nothing. -/
theorem Tells.finish_forward {f : State → State} (h : Tells f) (u : State) : ∃ told : List BusWrite, (∀ w ∈ told, w.own = true) ∧
    (∀ b : Bus, f { u with bus := b } = { f u with bus := { b with notices := told ++ b.notices } }) ∧
    ∀ sent a g, (f ((u.behind sent).forward a g)).finish =
      (f u).behind (told ++ { addr := a, lanes := g, own := false } :: sent) := by
  obtain ⟨told, hown, hu⟩ := h u
  refine ⟨told, hown, hu, fun sent a g => ?_⟩
  refine (congrArg State.finish (hu ⟨sent, [⟨a, g, false⟩], [], []⟩)).trans ?_
  simp [State.finish, State.behind]

theorem filter_own_told {l : List BusWrite} (h : ∀ w ∈ l, w.own = true) : l.filter (fun x => x.own) = l :=
  List.filter_eq_self.2 h

/-- A granule of four entries acts as four writes, forwarded once (R165). -/
theorem tableWrite_quarters {i : Fin 3584} {g : Lanes} {s : State} (hq : s.quiet)
    (ha : (areaAt (64 * i)).map (fun a => a.size) = some 16) :
    ∃ t0 t1 t2 t3 t,
      exec (.tableStagingWrite i (entryLanes 0 g)) s = .next t0 ∧ exec (.tableStagingWrite i (entryLanes 1 g)) t0 = .next t1 ∧
      exec (.tableStagingWrite i (entryLanes 2 g)) t1 = .next t2 ∧ exec (.tableStagingWrite i (entryLanes 3 g)) t2 = .next t3 ∧
      exec (.tableStagingWrite i g) s = .next t ∧ { t with bus := t3.bus } = t3 ∧
      t.bus = (s.sending (((t3.bus.sent.take (t3.bus.sent.length - s.bus.sent.length)).filter fun x => x.own) ++
        [s.crossing (tableOffset i) g])).bus := by
  obtain ⟨t, ht, hs⟩ := Option.map_eq_some_iff.1 ha
  have htells (j : Nat) : Tells fun u => (entryWrites i (entryLanes j g)).foldl State.entryWrite u :=
    Tells.foldl fun e he => entryWrites_small ht hs he
  have hfold : ∀ u : State, (entryWrites i g).foldl State.entryWrite u = (entryWrites i (entryLanes 3 g)).foldl State.entryWrite
      ((entryWrites i (entryLanes 2 g)).foldl State.entryWrite ((entryWrites i (entryLanes 1 g)).foldl State.entryWrite
        ((entryWrites i (entryLanes 0 g)).foldl State.entryWrite u))) := fun u => by
    rw [entryWrites_quarters ht hs g, List.foldl_append, List.foldl_append, List.foldl_append]
  have hrow (f : Lanes) (u : State) : exec (.tableStagingWrite i f) u =
      .next ((entryWrites i f).foldl State.entryWrite (u.forward (u.windowAddr (tableOffset i)) f)).finish := rfl
  have hbehind : s = s.behind s.bus.sent := by
    obtain ⟨h1, h2, h3⟩ := hq
    unfold State.behind
    cases s with | mk path tables cells intake lookup admission queues live failover acct notices slots bus freeDraws pending =>
    cases bus
    simp_all
  simp only [hrow, hfold]
  rw [hbehind]
  have h0 := htells 0
  have h1 := htells 1
  have h2 := htells 2
  have h3 := htells 3
  generalize entryWrites i (entryLanes 0 g) = l0 at h0 ⊢
  generalize entryWrites i (entryLanes 1 g) = l1 at h1 ⊢
  generalize entryWrites i (entryLanes 2 g) = l2 at h2 ⊢
  generalize entryWrites i (entryLanes 3 g) = l3 at h3 ⊢
  obtain ⟨n0, own0, c0, e0⟩ := h0.finish_forward s
  obtain ⟨n1, own1, c1, e1⟩ := h1.finish_forward (l0.foldl State.entryWrite s)
  obtain ⟨n2, own2, c2, e2⟩ := h2.finish_forward (l1.foldl State.entryWrite (l0.foldl State.entryWrite s))
  obtain ⟨n3, own3, c3, e3⟩ := h3.finish_forward
    (l2.foldl State.entryWrite (l1.foldl State.entryWrite (l0.foldl State.entryWrite s)))
  have hall := congrArg (fun u => l3.foldl State.entryWrite (l2.foldl State.entryWrite (l1.foldl State.entryWrite u)))
    (c0 ⟨s.bus.sent, [s.crossing (tableOffset i) g], [], []⟩)
  dsimp only at hall c0 c1 c2 c3
  rw [c1, c2, c3] at hall
  refine ⟨_, _, _, _, _, congrArg Host.Outcome.next (e0 _ _ _), congrArg Host.Outcome.next (e1 _ _ _),
    congrArg Host.Outcome.next (e2 _ _ _), congrArg Host.Outcome.next (e3 _ _ _),
    congrArg (fun u => Host.Outcome.next (State.finish u)) hall, rfl, ?_⟩
  have hsince (l : List BusWrite) : (l ++ s.bus.sent).take ((l ++ s.bus.sent).length - s.bus.sent.length) = l :=
    List.take_left' (by simp)
  have hsplit : ∀ x0 x1 x2 x3 : BusWrite, n3 ++ x3 :: (n2 ++ x2 :: (n1 ++ x1 :: (n0 ++ x0 :: s.bus.sent))) =
      (n3 ++ x3 :: (n2 ++ x2 :: (n1 ++ x1 :: (n0 ++ [x0])))) ++ s.bus.sent := by simp
  simp only [State.behind, State.finish, State.sending, hsplit, hsince]
  simp [List.filter_append, filter_own_told own0, filter_own_told own1, filter_own_told own2, filter_own_told own3]
  rfl

/-- Settles O39. -/
theorem tableWriteStages : Obligations.TableWriteStages := by
  refine ⟨fun i => areaAt_layout i, fun i g e he => entryWrites_share he, fun i g s hq hgap => ?gap,
    fun i g s hq ha _ => ?quarters, fun base j g m => stageBytes_find base g m j, fun i g s e hq he hc => ?staged⟩
  case gap =>
    have hnext : exec (.tableStagingWrite i g) s = .next (s.sending [s.crossing (tableOffset i) g]) := by
      change Host.Outcome.next (State.finish ((entryWrites i g).foldl State.entryWrite _)) = _
      rw [entryWrites_of_gap hgap]
      exact congrArg Host.Outcome.next (finish_forward s _ g hq)
    exact ⟨hnext, hnext⟩
  case quarters =>
    obtain ⟨t0, t1, t2, t3, t, e0, e1, e2, e3, e, hframe, hbus⟩ := tableWrite_quarters (g := g) hq ha
    exact ⟨t0, t1, t2, t3, t, e0, e1, e2, e3, e, e, hframe, hbus⟩
  case staged =>
    rw [exec_tableStagingWrite_of_single he]
    refine congrArg Host.Outcome.next (State.noticed_finish (by exact hq) (congrArg State.finish ?_))
    rw [State.entryWrite_of_staging hc, State.stageEntry_eq]
    exact ((s.forward (s.windowAddr (tableOffset i)) g).noticed_setStaging (some (s.stagedFor e)) (s.abandonAsks e)).symm

end Sys2Proof.Machine
end

section
/-! Accepted commits: what each table's install brings (O40). -/
namespace Sys2Proof.Machine

/-! ## Where an accepted commit installs -/

section
variable {s : State} {i : Fin 3584} {g : Lanes} {e : EntryWrite}

/-- The state in which a commit forwarded at granule `i` is installed. -/
def State.committed (s : State) (i : Fin 3584) (g : Lanes) (e : EntryWrite) : State :=
  (s.forward (s.windowAddr (tableOffset i)) g).committing e

theorem exec_tableCommit_of_accepted (he : entryWrites i g = [e]) (hc : e.commits = true)
    (ha : entryReasons e.table (s.offered e) = []) :
    exec (.tableCommit i g) s = .next ((s.committed i g e).install e.table e.index (s.offered e)).finish := by
  rw [exec_tableCommit, exec_tableStagingWrite_of_single he,
    State.entryWrite_of_accepted (s := s.forward _ g) hc ha]
  rfl

/-- The installs begin where the notices of the action have been told, behind its crossing, and nothing is staged. -/
theorem State.committed_eq (hq : s.quiet) :
    s.committed i g e =
      { s.noticed (s.abandonAsks e) with
        path := { s.path with staging := none }
        bus := { (s.noticed (s.abandonAsks e)).bus with writes := [s.crossing (tableOffset i) g] } } := by
  obtain ⟨told, -, htold⟩ := Tells.noticed (s.abandonAsks e) s
  have hfwd := htold (s.forward (s.windowAddr (tableOffset i)) g).bus
  have hself := htold s.bus
  dsimp only at hfwd hself
  unfold State.committed State.committing
  rw [show State.abandonAsks (s.forward (s.windowAddr (tableOffset i)) g) e = s.abandonAsks e from rfl,
    show s.forward (s.windowAddr (tableOffset i)) g =
      { s with bus := (s.forward (s.windowAddr (tableOffset i)) g).bus } from rfl, hfwd,
    show (s.noticed (s.abandonAsks e)).bus = { s.bus with notices := told ++ s.bus.notices } from congrArg State.bus hself]
  have hpath : (s.noticed (s.abandonAsks e)).path = s.path := by rw [State.noticed_eq]
  simp only [State.setStaging, State.forward, hpath, hq.1]
  rfl

theorem State.committed_tables (hq : s.quiet) : (s.committed i g e).tables = s.tables := by
  rw [State.committed_eq hq, State.noticed_eq]

theorem State.committed_follows (hq : s.quiet) (T : Installed) :
    Follows [s.crossing (tableOffset i) g]
      { s.noticed (s.abandonAsks e) with path := { s.path with staging := none }, tables := T }
      ((s.committed i g e).setTables T) := by
  rw [State.committed_eq hq]
  have hwrites : (s.noticed (s.abandonAsks e)).bus.writes = [] := by rw [State.noticed_eq]; exact hq.1
  exact ⟨rfl, rfl, rfl, rfl, rfl, rfl, rfl, rfl, rfl, by rw [hwrites]; rfl, rfl⟩

theorem State.committed_outside (hq : s.quiet) (T : Installed) :
    ({ s.noticed (s.abandonAsks e) with path := { s.path with staging := none }, tables := T } : State).sameOutside [.bus]
      ((s.committed i g e).setTables T) := by
  rw [State.committed_eq hq]
  simp [State.sameOutside, State.setTables]

/-- Beside the tables and the staging copy only the notice writer and the stream have changed when a commit installs. -/
theorem State.committed_base (hq : s.quiet) (T : Installed) :
    ({ s with path := { s.path with staging := none }, tables := T } : State).sameOutside [.notices, .bus]
      ((s.committed i g e).setTables T) := by
  refine State.sameOutside.andThen ?_ (State.committed_outside hq T) (by decide)
  rw [State.noticed_eq]
  simp [State.sameOutside]

/-- An install that changes the tables alone. -/
theorem State.committed_telling (hq : s.quiet) (T : Installed) :
    ((s.committed i g e).setTables T).finish =
      ({ s with path := { s.path with staging := none }, tables := T } : State).telling
        [s.crossing (tableOffset i) g] (s.abandonAsks e) := by
  refine State.noticed_finish (by exact hq) (congrArg State.finish ?_)
  refine Eq.trans ?_ (State.noticed_with (s.forward (s.windowAddr (tableOffset i)) g) { s.path with staging := none } rfl T
    s.freeDraws (s.abandonAsks e)).symm
  unfold State.committed State.committing
  rw [show State.abandonAsks (s.forward (s.windowAddr (tableOffset i)) g) e = s.abandonAsks e from rfl,
    State.noticed_eq (s.forward (s.windowAddr (tableOffset i)) g)]
  rfl

end

/-! ## Reports and refill runs of two states that agree -/

/-- Two states in step hold the same cells and meters where their records are the same. -/
theorem Follows.blocks {own : List BusWrite} {u v : State} (h : Follows own u v) (hr : SameRecords u v) :
    v.cells = u.cells ∧ v.admission = u.admission := by
  cases hu : u.cells; cases hv : v.cells; cases hua : u.admission; cases hva : v.admission
  have := h.freeList; have := h.ports; have := h.shed
  have := hr.frames; have := hr.copies; have := hr.links; have := hr.freeCopies; have := hr.meters; have := hr.held
  simp_all

theorem SameRecords.between {u v u' v' : State} (h : SameRecords u v) (hu : SameRecords u u') (hv : SameRecords v v') :
    SameRecords u' v' :=
  ⟨by rw [hv.frames, h.frames, hu.frames], by rw [hv.copies, h.copies, hu.copies], by rw [hv.links, h.links, hu.links],
    by rw [hv.freeCopies, h.freeCopies, hu.freeCopies], by rw [hv.meters, h.meters, hu.meters],
    by rw [hv.held, h.held, hu.held]⟩

/-! ## The pending flag -/

section
variable (s : State) (p : Port)

/-- The port's egress entry once its pending flag is set: adopted at once on empty queues (R98). -/
theorem State.setPendingSched_egressPort (r : Port) :
    (s.setPendingSched p).egressPort r =
      if r = p then
        if s.queuesEmpty p = true then
          { s.egressPort p with
            schedule := s.scheduleProfile (s.portEntry p).schedProfile, pendingSched := false, phase := 0 }
        else { s.egressPort p with pendingSched := true }
      else s.egressPort r := by
  have hempty : (s.setEgressPort p { s.egressPort p with pendingSched := true }).queuesEmpty p = s.queuesEmpty p := rfl
  unfold State.setPendingSched State.adoptIfEmpty State.adopt
  dsimp only
  rw [State.setEgressPort_egressPort, if_pos rfl, hempty, Bool.true_and]
  by_cases hq : s.queuesEmpty p = true
  · rw [if_pos hq, if_pos hq]
    by_cases hr : r = p
    · subst hr; simp only [State.setEgressPort_egressPort, if_true]; rfl
    · simp only [State.setEgressPort_egressPort, if_neg hr]
  · rw [if_neg hq, if_neg hq]
    by_cases hr : r = p
    · subst hr; simp only [State.setEgressPort_egressPort, if_true]
    · simp only [State.setEgressPort_egressPort, if_neg hr]

theorem State.setPendingSched_outside : s.sameOutside [.queues] (s.setPendingSched p) :=
  (State.setEgressPort_outside _ p _).andThen (State.adoptIfEmpty_outside _ p)

theorem State.adoptIfEmpty_queues : (s.adoptIfEmpty p).queues.queues = s.queues.queues := by
  unfold State.adoptIfEmpty; split <;> rfl

theorem State.setPendingSched_queues : (s.setPendingSched p).queues.queues = s.queues.queues := State.adoptIfEmpty_queues _ p

/-- Ports set pending one after another, each of them once. -/
theorem State.setPendingEach_egressPort (l : List Port) (hl : l.Nodup) (r : Port) :
    (l.foldl State.setPendingSched s).egressPort r =
        (if r ∈ l then
          if s.queuesEmpty r = true then
            { s.egressPort r with
              schedule := s.scheduleProfile (s.portEntry r).schedProfile, pendingSched := false, phase := 0 }
          else { s.egressPort r with pendingSched := true }
        else s.egressPort r) ∧
      (l.foldl State.setPendingSched s).queues.queues = s.queues.queues ∧
      s.sameOutside [.queues] (l.foldl State.setPendingSched s) := by
  refine ⟨?_, ?_, .foldl _ (fun u p => u.setPendingSched_outside p) _ _⟩
  · induction l generalizing s with
    | nil => rw [if_neg List.not_mem_nil]; rfl
    | cons p l ih =>
      obtain ⟨hp, hnd⟩ := List.nodup_cons.1 hl
      have htables := (s.setPendingSched_outside p).tables
      have hempty : (s.setPendingSched p).queuesEmpty r = s.queuesEmpty r := by
        unfold State.queuesEmpty State.queue; rw [s.setPendingSched_queues p]
      have hsched : (s.setPendingSched p).scheduleProfile ((s.setPendingSched p).portEntry r).schedProfile =
          s.scheduleProfile (s.portEntry r).schedProfile := by
        unfold State.scheduleProfile State.portEntry; rw [htables]
      have hport := s.setPendingSched_egressPort p r
      by_cases hr : r = p
      · subst hr
        rw [List.foldl_cons, ih _ hnd, if_neg hp, hport, if_pos rfl, if_pos List.mem_cons_self]
      · rw [if_neg hr] at hport
        rw [List.foldl_cons, ih _ hnd, hempty, hsched, hport]
        simp only [List.mem_cons, hr, false_or]
  · induction l generalizing s with
    | nil => rfl
    | cons p l ih => rw [List.foldl_cons, ih _ (List.nodup_cons.1 hl).2, State.setPendingSched_queues]

end

/-! ## The installs -/

section
variable {s s2 : State} {i : Fin 3584} {g : Lanes} {e : EntryWrite} {b : List Byte}

theorem State.noticed_gathers (s : State) (l : List NoticeAsk) (p : PathMonitor) (hp : p.winbase = s.path.winbase) (T : Installed) :
    Gathers s { s.noticed l with path := p, tables := T } := by
  rw [State.noticed_eq]
  exact ⟨rfl, rfl, hp⟩

theorem State.committed_sent (hq : s.quiet) (T : Installed) : ((s.committed i g e).setTables T).bus.sent = s.bus.sent := by
  rw [State.committed_eq hq, State.noticed_eq]; rfl

/-- A global entry re-evaluates the shed level in ACTIVE (R82). -/
theorem State.installGlobal_spec (hq : s.quiet)
    (hs2 : s2 = { s.noticed (s.abandonAsks e) with
      path := { s.path with staging := none }, tables := { s.tables with globalEntry := readGlobal b } }) :
    ∃ t, t = ((s.committed i g e).installGlobal b).finish ∧ t.path = s2.path ∧ t.tables = s2.tables ∧
      (s.path.mode = .passive → s2.sameOutside [.bus] t ∧ s.delivers t s2 [s.crossing (tableOffset i) g] []) ∧
      (s.path.mode = .active →
        t.admission = s2.report.admission ∧ t.cells = s2.report.cells ∧
          s.delivers t s2.report [s.crossing (tableOffset i) g] []) ∧
      s2.sameOutside [.cells, .admission, .notices, .bus] t := by
  have hf := State.committed_follows (i := i) (g := g) (e := e) hq { s.tables with globalEntry := readGlobal b }
  have ho := State.committed_outside (i := i) (g := g) (e := e) hq { s.tables with globalEntry := readGlobal b }
  have hsent := State.committed_sent (i := i) (g := g) (e := e) hq { s.tables with globalEntry := readGlobal b }
  have hg := s.noticed_gathers (s.abandonAsks e) { s.path with staging := none } rfl
    { s.tables with globalEntry := readGlobal b }
  rw [← hs2] at hf ho hg
  refine ⟨_, rfl, ?_⟩
  unfold State.installGlobal
  dsimp only
  rw [State.committed_tables hq]
  have hmode : ((s.committed i g e).setTables { s.tables with globalEntry := readGlobal b }).path.mode = s.path.mode := by
    rw [ho.path, hs2]
  generalize (s.committed i g e).setTables { s.tables with globalEntry := readGlobal b } = u at hf ho hsent hmode ⊢
  by_cases ha : s.path.mode = .active
  · rw [if_pos (State.isActive_eq_true.2 (hmode.trans ha))]
    have hr : SameRecords s2 u := .of_blocks ho.cells ho.admission
    obtain ⟨hcells, hadm⟩ := hf.report.blocks (hr.between (SameRecords.refl s2).report (SameRecords.refl u).report)
    have hout : s2.sameOutside [.cells, .admission, .notices, .bus] u.report.finish :=
      ((ho.mono (by decide)).andThen u.report_outside).andThen (State.finish_outside _)
    have hsent' : u.report.bus.sent = s.bus.sent := ((Keeps.refl u).report).sent.trans hsent
    exact ⟨hout.path, hout.tables, fun hp => absurd (hp.symm.trans ha) (by decide),
      fun _ => ⟨hadm, hcells, hf.report.finish_delivers hq hg.report hsent'⟩, hout⟩
  · have hmode' : ¬u.isActive = true := fun h => ha (hmode.symm.trans (State.isActive_eq_true.1 h))
    rw [if_neg hmode']
    have hout := ho.andThen (State.finish_outside u)
    exact ⟨hout.path, hout.tables, fun _ => ⟨hout, hf.finish_delivers hq hg hsent⟩, fun h => absurd h ha,
      hout.mono (by decide)⟩

/-- A port entry with another schedule profile number sets the pending flag, and in ACTIVE brings a refill run and a post
attempt (R6, R98, R101). -/
theorem State.installPort_spec {p : Port} {q : EgressPort} (hq : s.quiet)
    (hs2 : s2 = { s.noticed (s.abandonAsks e) with
      path := { s.path with staging := none }
      tables := { s.tables with ports := s.tables.ports.setD p (readPort b) PortEntry.powerOn } })
    (hqe : q =
      (if (readPort b).schedProfile = (s.portEntry p).schedProfile then s.egressPort p
        else if s.queuesEmpty p = true then
          { s.egressPort p with
            schedule := s.scheduleProfile (readPort b).schedProfile, pendingSched := false, phase := 0 }
        else { s.egressPort p with pendingSched := true })) :
    ∃ t, t = ((s.committed i g e).installPort p b).finish ∧ t.portEntry p = readPort b ∧
      (∀ r : Port, r ≠ p → t.portEntry r = s.portEntry r ∧ t.egressPort r = s.egressPort r) ∧
      t.path = s2.path ∧ t.tables = s2.tables ∧ t.queues.queues = s.queues.queues ∧
      (s.path.mode = .passive → t.egressPort p = q ∧ s2.sameOutside [.queues, .bus] t ∧
        s.delivers t s2 [s.crossing (tableOffset i) g] []) ∧
      (s.path.mode = .active →
        t.egressPort p = { q with owed := q.owed + 1 } ∧ t.cells = s2.refill.cells ∧
          t.admission = s2.refill.admission ∧ s.delivers t s2.refill [s.crossing (tableOffset i) g] [] ∧
          s2.sameOutside [.cells, .admission, .queues, .notices, .bus] t) := by
  obtain ⟨T, hT⟩ : ∃ T : Installed, T = { s.tables with ports := s.tables.ports.setD p (readPort b) PortEntry.powerOn } :=
    ⟨_, rfl⟩
  have hf := State.committed_follows (i := i) (g := g) (e := e) hq T
  have ho := State.committed_outside (i := i) (g := g) (e := e) hq T
  have hsent := State.committed_sent (i := i) (g := g) (e := e) hq T
  have hg := s.noticed_gathers (s.abandonAsks e) { s.path with staging := none } rfl T
  rw [← hT] at hs2
  rw [← hs2] at hf ho hg
  have hqueues2 : s2.queues = s.queues := by rw [hs2, State.noticed_eq]
  have htables2 : s2.tables = T := by rw [hs2]
  refine ⟨_, rfl, ?_⟩
  unfold State.installPort
  dsimp only
  have hwas : ((s.committed i g e).portEntry p).schedProfile = (s.portEntry p).schedProfile := by
    unfold State.portEntry; rw [State.committed_tables hq]
  rw [hwas, State.committed_tables hq, ← hT]
  have hmode : ((s.committed i g e).setTables T).path.mode = s.path.mode := by rw [ho.path, hs2]
  generalize (s.committed i g e).setTables T = u at hf ho hsent hmode ⊢
  have hentry (r : Port) : u.portEntry r = if r = p then readPort b else s.portEntry r := by
    unfold State.portEntry
    rw [ho.tables, htables2, hT, Table.getD_setD]
    simp only [fin_val_eq_iff]
  have hegress (r : Port) : u.egressPort r = s.egressPort r := by
    unfold State.egressPort; rw [ho.queues, hqueues2]
  have hsched (k : Nat) : u.scheduleProfile k = s.scheduleProfile k := by
    unfold State.scheduleProfile; rw [ho.tables, htables2, hT]
  have hempty : u.queuesEmpty p = s.queuesEmpty p := by
    unfold State.queuesEmpty State.queue; rw [ho.queues, hqueues2]
  obtain ⟨w, hw, hport, hout, hqueues⟩ : ∃ w, w = (if (readPort b).schedProfile = (s.portEntry p).schedProfile then u
        else u.setPendingSched p) ∧ (∀ r, w.egressPort r = if r = p then q else s.egressPort r) ∧
      u.sameOutside [.queues] w ∧ w.queues.queues = u.queues.queues := by
    refine ⟨_, rfl, fun r => ?_, ?_, ?_⟩
    · rw [hqe]
      by_cases hsame : (readPort b).schedProfile = (s.portEntry p).schedProfile
      · rw [if_pos hsame, if_pos hsame, hegress]
        split
        · subst_vars; rfl
        · rfl
      · rw [if_neg hsame, if_neg hsame, State.setPendingSched_egressPort, hempty, hentry, if_pos rfl, hsched, hegress,
          hegress]
    · split
      exacts [.refl _ _, u.setPendingSched_outside p]
    · split
      exacts [rfl, u.setPendingSched_queues p]
  rw [← hw]
  have hfw : Follows [s.crossing (tableOffset i) g] s2 w := hf.agrees hout.agrees
  have how : s2.sameOutside [.queues, .bus] w := (ho.mono (by decide)).andThen hout
  have hsentw : w.bus.sent = s.bus.sent := by rw [hout.bus]; exact hsent
  have hmodew : w.path.mode = s.path.mode := by rw [hout.path]; exact hmode
  have hqueuesw : w.queues.queues = s.queues.queues := by rw [hqueues, ho.queues, hqueues2]
  have hentryw (r : Port) : w.portEntry r = if r = p then readPort b else s.portEntry r := by
    rw [← hentry]; unfold State.portEntry; rw [hout.tables]
  clear hw hentry hegress hsched hempty hmode hsent
  by_cases ha : s.path.mode = .active
  · rw [if_pos (State.isActive_eq_true.2 (hmodew.trans ha))]
    have hr : SameRecords s2 w := .of_blocks how.cells how.admission
    obtain ⟨hcells, hadm⟩ := hfw.refill.blocks (hr.between (SameRecords.refl s2).refill (SameRecords.refl w).refill)
    have hrefill := w.refill_outside
    have hsentv : w.refill.bus.sent = s.bus.sent := ((Keeps.refl w).refill).sent.trans hsentw
    have hfv := hfw.refill
    generalize w.refill = v at hcells hadm hrefill hsentv hfv ⊢
    have hportv (r : Port) : v.egressPort r = w.egressPort r := by unfold State.egressPort; rw [hrefill.queues]
    have hentryv (r : Port) : v.portEntry r = w.portEntry r := by unfold State.portEntry; rw [hrefill.tables]
    have hwhole : s2.sameOutside [.cells, .admission, .queues, .notices, .bus] (v.owe p).finish :=
      (((how.mono (by decide)).andThen hrefill).andThen (v.owe_outside p)).andThen (State.finish_outside _)
    have howed (r : Port) : (v.owe p).egressPort r = if r = p then { v.egressPort p with owed := (v.egressPort p).owed + 1 }
        else v.egressPort r := State.setEgressPort_egressPort _ _ _ _
    refine ⟨(hentryv p).trans (by rw [hentryw, if_pos rfl]), fun r hne => ⟨(hentryv r).trans (by rw [hentryw, if_neg hne]), ?_⟩,
      hwhole.path, hwhole.tables, ?_, fun hp => absurd (hp.symm.trans ha) (by decide), fun _ => ⟨?_, hcells, hadm, ?_, hwhole⟩⟩
    · exact (howed r).trans (by rw [if_neg hne, hportv, hport, if_neg hne])
    · show v.queues.queues = _
      rw [hrefill.queues, hqueuesw]
    · exact (howed p).trans (by rw [if_pos rfl, hportv, hport, if_pos rfl])
    · exact (hfv.agrees (v.owe_outside p).agrees).finish_delivers hq hg.refill hsentv
  · rw [if_neg fun h => ha (hmodew.symm.trans (State.isActive_eq_true.1 h))]
    have hwhole : s2.sameOutside [.queues, .bus] w.finish := how.andThen (State.finish_outside _)
    exact ⟨(hentryw p).trans (if_pos rfl), fun r hne => ⟨(hentryw r).trans (if_neg hne), (hport r).trans (if_neg hne)⟩,
      hwhole.path, hwhole.tables, hqueuesw, fun _ => ⟨(hport p).trans (if_pos rfl), hwhole, hfw.finish_delivers hq hg hsentw⟩,
      fun h => absurd h ha⟩

/-- An install whose owner brings the notices `more` alone tells them behind the notice of what is abandoned. -/
theorem State.committed_sends {T : Installed} {u v : State} {more : List NoticeAsk} (hq : s.quiet)
    (hu : u = (s.committed i g e).setTables T) (hv : Agrees (u.noticed more) v) (hsent : v.bus.sent = s.bus.sent) :
    s.sends v.finish [s.crossing (tableOffset i) g] (s.abandonAsks e ++ more) [] := by
  have hf := State.committed_follows (i := i) (g := g) (e := e) hq T
  have hbase (l : List NoticeAsk) : ({ s.noticed l with path := { s.path with staging := none }, tables := T } : State) =
      ({ s with path := { s.path with staging := none }, tables := T } : State).noticed l := by
    refine Eq.trans ?_ (State.noticed_with s { s.path with staging := none } rfl T s.freeDraws l).symm
    rw [State.noticed_eq]
  rw [hbase] at hf
  have hfv := (hf.noticed more).agrees (hu ▸ hv)
  rw [← State.noticed_append, ← hbase] at hfv
  have hg := s.noticed_gathers (s.abandonAsks e ++ more) { s.path with staging := none } rfl T
  have hd := hfv.finish_delivers hq hg hsent
  exact State.delivers_noticed hq ⟨hd.1, hd.2⟩

/-- A group entry brings a recompute (R130, R132). -/
theorem State.installGroup_spec {grp : GroupId} (hq : s.quiet)
    (hs2 : s2 = { s with
      path := { s.path with staging := none }
      tables := { s.tables with groups := s.tables.groups.setD grp (readGroup b) (GroupEntry.powerOn grp) } }) :
    ∃ t, t = ((s.committed i g e).installGroup grp b).finish ∧ t.groupEntry grp = readGroup b ∧
      (∀ h : GroupId, h ≠ grp → t.groupEntry h = s.groupEntry h) ∧ t.path = s2.path ∧ t.tables = s2.tables ∧
      s.recomputed t [grp] ∧ s.sends t [s.crossing (tableOffset i) g] (s.abandonAsks e ++ s.groupAsks t [grp]) [] ∧
      t.failover = { s.failover with groupStates := t.failover.groupStates } ∧
      s2.sameOutside [.failover, .notices, .bus] t := by
  obtain ⟨T, hT⟩ : ∃ T : Installed, T = { s.tables with
    groups := s.tables.groups.setD grp (readGroup b) (GroupEntry.powerOn grp) } := ⟨_, rfl⟩
  have hsent := State.committed_sent (i := i) (g := g) (e := e) hq T
  refine ⟨_, rfl, ?_⟩
  unfold State.installGroup
  rw [State.committed_tables hq, ← hT]
  have hbase := State.committed_base (i := i) (g := g) (e := e) hq T
  rw [← hT] at hs2
  rw [← hs2] at hbase
  obtain ⟨u, hu⟩ : ∃ u, u = (s.committed i g e).setTables T := ⟨_, rfl⟩
  rw [← hu] at hbase hsent ⊢
  have hrec := u.recomputeGroups_recomputed [grp]
  have hag := u.recomputeGroups_agrees (l := [grp]) (List.nodup_singleton _)
  have hfail := u.recomputeGroup_failover grp
  have hout := u.recomputeGroups_outside [grp]
  have hsentv : (u.recomputeGroup grp).bus.sent = s.bus.sent := ((Keeps.refl u).recomputeGroup grp).sent.trans hsent
  simp only [List.foldl_cons, List.foldl_nil] at hrec hag hout
  generalize u.recomputeGroup grp = v at hrec hag hfail hout hsentv ⊢
  have hwhole : s2.sameOutside [.failover, .notices, .bus] v.finish :=
    ((hbase.mono (by decide)).andThen hout).andThen (State.finish_outside _)
  have hufail : u.failover = s.failover := by rw [hbase.failover, hs2]
  have hstate (h : GroupId) : u.groupState h = s.groupState h := State.groupState_congr (by rw [hufail]) h
  have hentry (h : GroupId) : v.groupEntry h = if h = grp then readGroup b else s.groupEntry h := by
    unfold State.groupEntry
    rw [hout.tables, hbase.tables, hs2]
    show T.groups.getD h (GroupEntry.powerOn h) = _
    rw [hT]
    by_cases hh : h = grp
    · subst hh; rw [if_pos rfl]; exact Table.getD_setD_self _ _ _ _
    · rw [if_neg hh]; exact Table.getD_setD_ne _ _ _ _ fun h' => hh (Fin.ext h')
  have hasks : u.groupAsks v [grp] = s.groupAsks v.finish [grp] := by
    unfold State.groupAsks
    simp only [hstate]
    rfl
  refine ⟨(hentry grp).trans (if_pos rfl), fun h hne => (hentry h).trans (if_neg hne), hwhole.path, hwhole.tables,
    fun h => ?_, ?_, ?_, hwhole⟩
  · have := hrec h
    rw [hstate] at this
    exact this
  · rw [hasks] at hag
    exact State.committed_sends hq hu hag hsentv
  · rw [hufail] at hfail
    exact hfail

/-- A schedule profile becomes pending on, or is adopted by, each port that names it (R98). -/
theorem State.installSchedule_spec {k : Nat} (hq : s.quiet)
    (hs2 : s2 = { s with
      path := { s.path with staging := none }
      tables := { s.tables with schedules := s.tables.schedules.setD k (readSchedule b) allSkip } }) :
    ∃ t, t = ((s.committed i g e).installSchedule k b).finish ∧ t.scheduleProfile k = readSchedule b ∧
      (∀ j, j ≠ k → t.scheduleProfile j = s.scheduleProfile j) ∧ t.path = s2.path ∧ t.tables = s2.tables ∧
      t.queues.queues = s.queues.queues ∧ s.sends t [s.crossing (tableOffset i) g] (s.abandonAsks e) [] ∧
      (∀ p : Port, t.egressPort p =
        if (s.portEntry p).schedProfile = k then
          if s.queuesEmpty p = true then
            { s.egressPort p with schedule := readSchedule b, pendingSched := false, phase := 0 }
          else { s.egressPort p with pendingSched := true }
        else s.egressPort p) ∧
      s2.sameOutside [.queues, .notices, .bus] t := by
  obtain ⟨T, hT⟩ : ∃ T : Installed, T = { s.tables with schedules := s.tables.schedules.setD k (readSchedule b) allSkip } :=
    ⟨_, rfl⟩
  have hbase := State.committed_base (i := i) (g := g) (e := e) hq T
  have hsent := State.committed_sent (i := i) (g := g) (e := e) hq T
  refine ⟨_, rfl, ?_⟩
  have hports (p : Port) : ((s.committed i g e).portEntry p) = s.portEntry p := by
    unfold State.portEntry; rw [State.committed_tables hq]
  unfold State.installSchedule
  simp only [hports]
  rw [State.committed_tables hq, ← hT]
  rw [← hT] at hs2
  rw [← hs2] at hbase
  obtain ⟨u, hu⟩ : ∃ u, u = (s.committed i g e).setTables T := ⟨_, rfl⟩
  rw [← hu] at hbase hsent ⊢
  obtain ⟨l, hl⟩ : ∃ l, l = allPorts.filter fun p => decide ((s.portEntry p).schedProfile = k) := ⟨_, rfl⟩
  rw [← hl]
  have heach := u.setPendingEach_egressPort l (hl ▸ nodup_allPorts.filter _)
  have hqueues := (heach 0).2.1
  have hout := (heach 0).2.2
  have hport (p : Port) := (heach p).1
  generalize l.foldl State.setPendingSched u = v at hqueues hout hport ⊢
  have hwhole : s2.sameOutside [.queues, .notices, .bus] v.finish :=
    ((hbase.mono (by decide)).andThen hout).andThen (State.finish_outside _)
  have huq : u.queues = s.queues := by rw [hbase.queues, hs2]
  have hsched (j : Nat) {w : State} (hw : w.tables = T) : w.scheduleProfile j = if j = k then readSchedule b else s.scheduleProfile j := by
    unfold State.scheduleProfile
    rw [hw, hT, Table.getD_setD]
  have hut : u.tables = T := by rw [hbase.tables, hs2]
  have hvt : v.finish.tables = T := by rw [hwhole.tables, hs2]
  refine ⟨(hsched k hvt).trans (if_pos rfl), fun j hj => (hsched j hvt).trans (if_neg hj), hwhole.path, hwhole.tables, ?_, ?_,
    fun p => (hport p).trans ?_, hwhole⟩
  · rw [State.finish_queues, hqueues, huq]
  · have := State.committed_sends (more := []) hq hu (hout.agrees) (by rw [hout.bus]; exact hsent)
    rwa [List.append_nil] at this
  · have hname : (p ∈ l) = ((s.portEntry p).schedProfile = k) := by
      rw [hl, List.mem_filter, decide_eq_true_eq]
      exact propext ⟨fun h => h.2, fun h => ⟨mem_allPorts p, h⟩⟩
    have hentry : u.portEntry p = s.portEntry p := by unfold State.portEntry; rw [hut, hT]
    have hempty : u.queuesEmpty p = s.queuesEmpty p := by unfold State.queuesEmpty State.queue; rw [huq]
    have hegress : u.egressPort p = s.egressPort p := by unfold State.egressPort; rw [huq]
    simp only [hname, hempty, hegress, hentry]
    by_cases hk : (s.portEntry p).schedProfile = k
    · rw [if_pos hk, if_pos hk, hsched _ hut, if_pos hk]
    · rw [if_neg hk, if_neg hk]

/-- A tenant entry clamps the tenant's tokens to its depth (R78). -/
theorem State.installTenant_spec {n : Tenant} (hq : s.quiet) :
    ∃ t, t = ((s.committed i g e).installTenant n b).finish ∧ t.tenantEntry n = readTenant b ∧
      (∀ m : Tenant, m ≠ n → t.tenantEntry m = s.tenantEntry m ∧ t.meter m = s.meter m) ∧
      t.meter n = { s.meter n with tokens := min (s.meter n).tokens (readTenant b).depth } ∧
      t.path = { s.path with staging := none } ∧ t.tables = { s.tables with tenants := t.tables.tenants } ∧
      t.admission = { s.admission with meters := t.admission.meters } ∧
      s.sends t [s.crossing (tableOffset i) g] (s.abandonAsks e) [] ∧
      s.sameOutside [.path, .tables, .admission, .notices, .bus] t := by
  obtain ⟨T, hT⟩ : ∃ T : Installed, T = { s.tables with tenants := s.tables.tenants.setD n (readTenant b) TenantEntry.powerOn } :=
    ⟨_, rfl⟩
  have hbase := State.committed_base (i := i) (g := g) (e := e) hq T
  have hsent := State.committed_sent (i := i) (g := g) (e := e) hq T
  refine ⟨_, rfl, ?_⟩
  unfold State.installTenant
  dsimp only
  rw [State.committed_tables hq, ← hT]
  obtain ⟨u, hu⟩ : ∃ u, u = (s.committed i g e).setTables T := ⟨_, rfl⟩
  rw [← hu] at hbase hsent ⊢
  have hum (m : Tenant) : u.meter m = s.meter m := by unfold State.meter; rw [hbase.admission]
  rw [hum]
  obtain ⟨v, hv⟩ : ∃ v, v = u.setMeter n { s.meter n with tokens := min (s.meter n).tokens (readTenant b).depth } := ⟨_, rfl⟩
  have hvm (m : Tenant) : v.meter m = if m = n then { s.meter n with tokens := min (s.meter n).tokens (readTenant b).depth }
      else s.meter m := by rw [hv, State.setMeter_meter, hum]
  have hentry (m : Tenant) : v.tenantEntry m = if m = n then readTenant b else s.tenantEntry m := by
    unfold State.tenantEntry
    rw [hv, State.setMeter_tables, hbase.tables]
    show T.tenants.getD m TenantEntry.powerOn = _
    rw [hT, Table.getD_setD]
    simp only [fin_val_eq_iff]
  rw [← hv]
  have hout : u.sameOutside [.admission] v := hv ▸ u.admission_outside _
  have hwhole : s.sameOutside [.path, .tables, .admission, .notices, .bus] v.finish := by
    have hstart : s.sameOutside [.path, .tables, .admission, .notices, .bus]
        { s with path := { s.path with staging := none }, tables := T } := by simp [State.sameOutside]
    exact ((hstart.andThen hbase).andThen hout).andThen (State.finish_outside _)
  refine ⟨(hentry n).trans (if_pos rfl), fun m hm => ⟨(hentry m).trans (if_neg hm), (hvm m).trans (if_neg hm)⟩,
    (hvm n).trans (if_pos rfl), ?_, ?_, ?_, ?_, hwhole⟩
  · rw [State.finish_path, hout.path, hbase.path]
  · rw [State.finish_tables, hout.tables, hbase.tables, hT]
  · rw [State.finish_admission, hv]
    simp only [State.setMeter, hbase.admission]
  · have hag : Agrees (u.noticed []) v := hv ▸ .of_eq rfl rfl rfl rfl rfl rfl rfl rfl rfl
    have := State.committed_sends (more := []) hq hu hag (by rw [hout.bus]; exact hsent)
    rwa [List.append_nil] at this

end

/-- Settles O40: the install of each table, behind the crossing and the notice of what is abandoned. -/
theorem tenantCommitInstalls : Obligations.TenantCommitInstalls :=
  fun i g s s1 e offered own asks hq he hc hasks hoff ha hown hs1 => by
  have hrow := exec_tableCommit_of_accepted (s := s) he hc (by rw [State.offered, ← hoff]; exact ha)
  have hoffered : s.offered e = offered := hoff.symm
  rw [hoffered] at hrow
  have htelling (T : Installed) (h : (s.committed i g e).install e.table e.index offered = (s.committed i g e).setTables T) :
      exec (.tableCommit i g) s = .next (({ s1 with tables := T } : State).telling [own] asks) := by
    rw [hrow, h, State.committed_telling hq, hown, hasks, hs1]
  have htables := State.committed_tables (i := i) (g := g) (e := e) hq
  refine ⟨fun h => htelling _ ?profile, fun h => htelling _ ?tariffs, fun h => htelling _ ?segment, fun h => htelling _ ?list,
    fun s2 h hs2 => ?global, fun p s2 q h hp hs2 hqe => ?port, fun grp s2 h hg hs2 => ?group, fun s2 h hs2 => ?schedule,
    fun n h hn => ?tenant⟩
  case profile => rw [h, ← htables]; rfl
  case tariffs => rw [h, ← htables]; rfl
  case segment => rw [h, ← htables]; rfl
  case list => rw [h, ← htables]; rfl
  case global =>
    rw [hs1, hasks] at hs2
    obtain ⟨t, ht, hspec⟩ := State.installGlobal_spec (i := i) (g := g) hq hs2
    rw [hown]
    exact ⟨t, by rw [hrow, h, ht]; rfl, hspec⟩
  case port =>
    rw [hs1, hasks] at hs2
    obtain ⟨t, ht, hspec⟩ := State.installPort_spec (i := i) (g := g) hq hs2 hqe
    rw [hown]
    refine ⟨t, ?_, hspec⟩
    rw [hrow, h, hp, ht]
    simp only [State.install, portOf_val]
  case group =>
    rw [hs1] at hs2
    obtain ⟨t, ht, hspec⟩ := State.installGroup_spec (i := i) (g := g) (e := e) hq hs2
    rw [hown, hasks]
    refine ⟨t, ?_, hspec⟩
    rw [hrow, h, hg, ht]
    simp only [State.install, groupOf, Fin.is_lt, dite_true, Fin.eta]
  case schedule =>
    rw [hs1] at hs2
    obtain ⟨t, ht, hspec⟩ := State.installSchedule_spec (i := i) (g := g) (e := e) hq hs2
    rw [hown, hasks]
    refine ⟨t, ?_, hspec⟩
    rw [hrow, h, ht]
    rfl
  case tenant =>
    obtain ⟨t, ht, hspec⟩ := State.installTenant_spec (s := s) (i := i) (g := g) (e := e) (b := offered) (n := n) hq
    rw [hown, hasks, hs1]
    refine ⟨t, ?_, hspec⟩
    rw [hrow, h, hn, ht]
    simp only [State.install, tenantOf, Fin.is_lt, dite_true, Fin.eta]

end Sys2Proof.Machine
end

section
/-! The choice of a post attempt: the strict choice and the phase scan discard what is stale at the heads they examine, and
take the first fresh copy (O22); the bounds of both loops cut nothing off. -/
namespace Sys2Proof.Machine

/-! ## When a port is eligible, and a candidate stale -/

theorem mem_allClasses (c : Cls) : c ∈ allClasses := by revert c; decide

theorem nodup_allClasses : allClasses.Nodup := by decide

theorem State.queuesEmpty_iff (s : State) (p : Port) : s.queuesEmpty p = true ↔ ∀ c : Cls, s.queue p c = [] := by
  unfold State.queuesEmpty
  simp only [List.all_eq_true, List.isEmpty_iff]
  exact ⟨fun h c => h c (mem_allClasses c), fun h c _ => h c⟩

theorem State.eligible_iff (s : State) (p : Port) :
    s.eligible p = true ↔
      s.liveness p = .up ∧ s.postedCount p < (s.portEntry p).window ∧
        (s.egressPort p).slots.find (s.egressPort p).nextWrite = none ∧ ∃ c : Cls, s.queue p c ≠ [] := by
  have hq : s.queuesEmpty p = false ↔ ∃ c : Cls, s.queue p c ≠ [] := by
    rw [← Bool.not_eq_true, State.queuesEmpty_iff, not_forall]
  unfold State.eligible
  simp only [Bool.and_eq_true, State.isUp, decide_eq_true_eq, Option.isNone_iff_eq_none, Bool.not_eq_true', hq, and_assoc]

theorem State.isStale_of_copy {s : State} {p : Port} {c : Cls} {tag : Nat} {k : Copy} (h : s.copy tag = some k) :
    s.isStale p c tag = decide ((s.profileOf p c).ageLimit ≠ 0 ∧ (s.profileOf p c).ageLimit < (s.now - k.enqueued).toNat) := by
  unfold State.isStale
  rw [h]

/-- Staleness is read from the copy's record, the clock and the installed tables. -/
theorem State.isStale_congr {s t : State} {tag : Nat} (hc : t.copy tag = s.copy tag) (ht : t.tables = s.tables)
    (hl : t.live = s.live) (p : Port) (c : Cls) : t.isStale p c tag = s.isStale p c tag := by
  unfold State.isStale State.profileOf State.portEntry State.now
  rw [hc, ht, hl]

/-! ## One discard -/

section
variable (s : State) (p : Port) (c : Cls) (tag : Nat)

theorem State.adoptIfEmpty_queue (q : Port) (b : Cls) : (s.adoptIfEmpty p).queue q b = s.queue q b := by
  unfold State.queue; rw [s.adoptIfEmpty_queues]

/-- The egress entries once a port has adopted on empty queues, or not (R98). -/
theorem State.adoptIfEmpty_egressPort (q : Port) :
    (s.adoptIfEmpty p).egressPort q =
      if q = p then s.adoptedIf p (∀ b : Cls, s.queue p b = []) else s.egressPort q := by
  unfold State.adoptIfEmpty State.adoptedIf State.adopt
  by_cases h : (s.egressPort p).pendingSched = true ∧ ∀ b : Cls, s.queue p b = []
  · rw [if_pos (by rw [Bool.and_eq_true, State.queuesEmpty_iff]; exact h), if_pos h]
    by_cases hq : q = p
    · subst hq; simp only [State.setEgressPort_egressPort, if_true]
    · simp only [State.setEgressPort_egressPort, if_neg hq]
  · rw [if_neg (by rw [Bool.and_eq_true, State.queuesEmpty_iff]; exact h), if_neg h]
    split
    · subst_vars; rfl
    · rfl

theorem State.forgetInWalk_queue (q : Port) (b : Cls) : (s.forgetInWalk p c tag).queue q b = s.queue q b := rfl

theorem State.retire_queues (cause : RetireCause) : (s.retire tag cause).queues = s.queues :=
  (s.retire_outside tag cause).queues

theorem State.discard_outside : s.sameOutside [.cells, .admission, .queues, .failover, .acct] (s.discard p c tag) := by
  have h1 : s.sameOutside [.cells, .admission, .queues, .failover, .acct] (s.dequeue p c tag) :=
    (s.dequeue_outside p c tag).mono (by decide)
  exact ((h1.andThen (State.forgetInWalk_outside _ p c tag)).andThen (State.adoptIfEmpty_outside _ p)).andThen
    (State.retire_outside _ tag .stale)

theorem State.discard_queue (q : Port) (b : Cls) :
    (s.discard p c tag).queue q b = if q = p ∧ b = c then (s.queue p c).erase tag else s.queue q b := by
  have h : (s.discard p c tag).queue q b = (s.dequeue p c tag).queue q b := by
    unfold State.discard
    rw [State.queue, State.retire_queues]
    exact (State.adoptIfEmpty_queue _ p q b).trans (State.forgetInWalk_queue _ p c tag q b)
  rw [h, State.dequeue, State.setQueue_queue]

theorem State.discard_egressPort (q : Port) :
    (s.discard p c tag).egressPort q =
      if q = p then s.adoptedIf p (∀ b : Cls, (s.discard p c tag).queue p b = []) else s.egressPort q := by
  have hqueue (b : Cls) : (s.discard p c tag).queue p b = ((s.dequeue p c tag).forgetInWalk p c tag).queue p b := by
    unfold State.discard
    rw [State.queue, State.retire_queues]
    exact State.adoptIfEmpty_queue _ p p b
  simp only [hqueue]
  unfold State.discard
  rw [State.egressPort, State.retire_queues]
  exact State.adoptIfEmpty_egressPort _ p q

theorem State.retire_copy (cause : RetireCause) (j : Nat) :
    (s.retire tag cause).copy j = if j = tag then none else s.copy j := by
  rcases s.retire_cases tag cause with ⟨hn, e⟩ | ⟨k, hk, h⟩
  · rw [e]
    split
    · subst_vars; exact hn
    · rfl
  have hrel (u : State) (hu : u.cells.copies = s.cells.copies) : (u.releaseRecord tag).copy j = if j = tag then none else s.copy j := by
    unfold State.copy
    rw [← hu]
    exact Table.find_erase _ _ _
  have hleave : (s.leaveCopyPort k).cells.copies = s.cells.copies := by rw [State.leaveCopyPort_eq]
  rcases h with ⟨-, e⟩ | ⟨f, -, ⟨-, e⟩ | ⟨-, e⟩⟩
  · rw [e]; exact hrel _ hleave
  all_goals
    rw [e]
    refine hrel ((s.leaveCopyPort k).countRetired cause f k) ?_
    rw [State.countRetired_eq]
    exact hleave

theorem State.discard_copy (j : Nat) : (s.discard p c tag).copy j = if j = tag then none else s.copy j := by
  unfold State.discard
  rw [State.retire_copy]
  have : (((s.dequeue p c tag).forgetInWalk p c tag).adoptIfEmpty p).copy j = s.copy j := by
    unfold State.copy
    rw [(State.adoptIfEmpty_outside _ p).cells]
    rfl
  rw [this]

end

/-! ## The stale heads of a class -/

/-- The discards of an attempt, one after another. -/
def State.discardEach (s : State) (p : Port) (d : List (Cls × Nat)) : State := d.foldl (fun s x => s.discard p x.1 x.2) s

/-- The stale copies at the head of a class queue are discarded. -/
def State.discardHeads (s : State) (p : Port) (c : Cls) : State := s.discardEach p (s.discards p [c])

section
variable {s : State} {p : Port}

theorem State.discards_append (l m : List Cls) : s.discards p (l ++ m) = s.discards p l ++ s.discards p m :=
  List.flatMap_append

theorem State.discardEach_append (d d' : List (Cls × Nat)) :
    s.discardEach p (d ++ d') = (s.discardEach p d).discardEach p d' := List.foldl_append

theorem State.discardEach_cons (s : State) (p : Port) (x : Cls × Nat) (d : List (Cls × Nat)) :
    s.discardEach p (x :: d) = (s.discard p x.1 x.2).discardEach p d := rfl

theorem State.discardEach_outside (s : State) (p : Port) (d : List (Cls × Nat)) :
    s.sameOutside [.cells, .admission, .queues, .failover, .acct] (s.discardEach p d) := by
  induction d generalizing s with
  | nil => exact .refl _ _
  | cons x d ih => exact (s.discard_outside p x.1 x.2).andThen (ih _)

theorem State.discardEach_copy (s : State) (p : Port) (d : List (Cls × Nat)) (j : Nat) :
    (s.discardEach p d).copy j = if j ∈ d.map (·.2) then none else s.copy j := by
  induction d generalizing s with
  | nil => rfl
  | cons x d ih =>
    rw [State.discardEach_cons, ih, State.discard_copy, List.map_cons]
    by_cases hj : j = x.2
    · rw [if_pos hj, if_pos (show j ∈ x.2 :: d.map (·.2) from hj ▸ List.mem_cons_self)]; split <;> rfl
    · rw [if_neg hj]; simp only [List.mem_cons, hj, false_or]

theorem State.discardEach_queue_of_ne (s : State) (p : Port) (d : List (Cls × Nat)) {q : Port} {b : Cls}
    (h : q ≠ p ∨ ∀ x ∈ d, x.1 ≠ b) : (s.discardEach p d).queue q b = s.queue q b := by
  induction d generalizing s with
  | nil => rfl
  | cons x d ih =>
    rw [State.discardEach_cons, ih _ (h.imp_right fun h y hy => h y (List.mem_cons_of_mem _ hy)), State.discard_queue, if_neg]
    rintro ⟨hq, hb⟩
    exact h.elim (fun h => h hq) fun h => h x List.mem_cons_self hb.symm

/-- Copies at the head of a class queue that are discarded leave what stands behind them. -/
theorem State.discardEach_queue_of_heads (s : State) (p : Port) (c : Cls) (l rest : List Nat) (h : s.queue p c = l ++ rest) :
    (s.discardEach p (l.map fun j => (c, j))).queue p c = rest := by
  induction l generalizing s with
  | nil => exact h
  | cons j l ih =>
    rw [List.map_cons, State.discardEach_cons]
    refine ih _ ?_
    rw [State.discard_queue, if_pos ⟨rfl, rfl⟩, h, List.cons_append, List.erase_cons_head]

theorem State.queue_eq_heads (s : State) (p : Port) (c : Cls) : s.queue p c = s.staleHeads p c ++ s.freshQueue p c :=
  List.takeWhile_append_dropWhile.symm

theorem State.discardHeads_eq (s : State) (p : Port) (c : Cls) :
    s.discardHeads p c = s.discardEach p ((s.staleHeads p c).map fun j => (c, j)) := by
  unfold State.discardHeads State.discards
  rw [List.flatMap_singleton]

/-- The class keeps its fresh copies, every other class what it held. -/
theorem State.discardHeads_queue (s : State) (p : Port) (c : Cls) (q : Port) (b : Cls) :
    (s.discardHeads p c).queue q b = if q = p ∧ b = c then s.freshQueue p c else s.queue q b := by
  rw [State.discardHeads_eq]
  by_cases h : q = p ∧ b = c
  · obtain ⟨rfl, rfl⟩ := h
    rw [if_pos ⟨rfl, rfl⟩]
    exact State.discardEach_queue_of_heads _ _ _ _ _ (s.queue_eq_heads _ _)
  · rw [if_neg h]
    refine State.discardEach_queue_of_ne _ _ _ ?_
    by_cases hq : q = p
    · refine .inr fun x hx => ?_
      obtain ⟨j, -, rfl⟩ := List.mem_map.1 hx
      exact fun hc => h ⟨hq, hc.symm⟩
    · exact .inl hq

end

/-! ## The bounds of the loops -/

section
variable {s : State} {p : Port}

theorem State.waiting_eq (s : State) (p : Port) :
    s.waiting p = (s.queue p 0).length + (s.queue p 1).length + (s.queue p 2).length + (s.queue p 3).length := by
  simp only [State.waiting, State.copyDepth, allClasses, List.map_cons, List.map_nil, List.sum_cons, List.sum_nil]
  omega

/-- A discard from the head of a queue leaves one copy fewer waiting. -/
theorem State.discard_waiting {c : Cls} {tag : Nat} {rest : List Nat} (h : s.queue p c = tag :: rest) :
    (s.discard p c tag).waiting p + 1 = s.waiting p := by
  have hq (b : Cls) : (s.discard p c tag).queue p b = if b = c then rest else s.queue p b := by
    rw [State.discard_queue, h, List.erase_cons_head]
    simp only [true_and]
  simp only [State.waiting_eq, hq]
  match c with
  | 0 => simp [h]; omega
  | 1 => simp [h]; omega
  | 2 => simp [h]; omega
  | 3 => simp [h]; omega

theorem State.advancePhase_queue (s : State) (p q : Port) (b : Cls) : (s.advancePhase p).queue q b = s.queue q b := by
  unfold State.advancePhase
  dsimp only
  split
  · split <;> rfl
  · rfl

theorem State.advancePhase_waiting (s : State) (p : Port) : (s.advancePhase p).waiting p = s.waiting p := by
  simp only [State.waiting_eq, State.advancePhase_queue]

/-- The strict choice is the same with every bound beyond what waits. -/
theorem State.strictPick_bound (m : Nat) (s : State) (n : Nat) (hm : s.waiting p < m) (hn : s.waiting p < n) :
    s.strictPick p m = s.strictPick p n := by
  induction m generalizing s n with
  | zero => omega
  | succ m ih =>
    obtain ⟨n, rfl⟩ : ∃ k, n = k + 1 := ⟨n - 1, by omega⟩
    unfold State.strictPick
    cases hq : s.queue p 0 with
    | nil => rfl
    | cons t rest =>
      dsimp only
      have := State.discard_waiting hq
      split
      · exact ih _ _ (by omega) (by omega)
      · rfl

/-- The scan is the same with every bound beyond what waits and the phases left. -/
theorem State.scanPick_bound (m left : Nat) (s : State) (n : Nat) (hm : left + s.waiting p < m) (hn : left + s.waiting p < n) :
    s.scanPick p m left = s.scanPick p n left := by
  induction m generalizing s n left with
  | zero => omega
  | succ m ih =>
    obtain ⟨n, rfl⟩ : ∃ k, n = k + 1 := ⟨n - 1, by omega⟩
    have hadvance := s.advancePhase_waiting p
    unfold State.scanPick
    by_cases hl : left = 0
    · rw [if_pos hl, if_pos hl]
    · rw [if_neg hl, if_neg hl]
      cases hc : s.phaseClass p with
      | none => exact ih _ _ _ (by omega) (by omega)
      | some c =>
        dsimp only
        cases hq : s.queue p c with
        | nil => exact ih _ _ _ (by omega) (by omega)
        | cons t rest =>
          dsimp only
          have := State.discard_waiting hq
          split
          · exact ih _ _ _ (by omega) (by omega)
          · rfl

end

end Sys2Proof.Machine
end

section
/-! The strict choice and the phase scan, followed phase by phase (O22). -/
namespace Sys2Proof.Machine

/-! ## Lists cut where a predicate changes -/

/-- Two predicates cut a list at one place where they agree on what the first takes and on what it stops at. -/
theorem cut_congr {α : Type} {P Q : α → Bool} {l : List α} (h : ∀ x ∈ l.takeWhile P, Q x = P x)
    (hstop : ∀ x, (l.dropWhile P).head? = some x → Q x = P x) :
    l.takeWhile Q = l.takeWhile P ∧ l.dropWhile Q = l.dropWhile P := by
  induction l with
  | nil => exact ⟨rfl, rfl⟩
  | cons a l ih =>
    by_cases ha : P a = true
    · rw [List.takeWhile_cons_of_pos ha] at h ⊢
      rw [List.dropWhile_cons_of_pos ha] at hstop ⊢
      have hq : Q a = true := (h a List.mem_cons_self).trans ha
      obtain ⟨h1, h2⟩ := ih (fun x hx => h x (List.mem_cons_of_mem _ hx)) hstop
      rw [List.takeWhile_cons_of_pos hq, List.dropWhile_cons_of_pos hq, h1, h2]
      exact ⟨rfl, rfl⟩
    · rw [List.dropWhile_cons_of_neg ha] at hstop ⊢
      have hq : ¬Q a = true := by rw [hstop a rfl]; exact ha
      rw [List.takeWhile_cons_of_neg ha, List.takeWhile_cons_of_neg hq, List.dropWhile_cons_of_neg hq]
      exact ⟨rfl, rfl⟩

/-- What a predicate stops at does not meet it. -/
theorem dropWhile_head {α : Type} {P : α → Bool} {l : List α} {x : α} (h : (l.dropWhile P).head? = some x) : P x = false := by
  have := List.head?_dropWhile_not P l
  rw [h] at this
  exact Bool.eq_false_of_not_eq_true (by simpa using this)

theorem head?_dropWhile {α : Type} (p : α → Bool) (l : List α) : (l.dropWhile p).head? = l.find? fun x => !p x := by
  induction l with
  | nil => rfl
  | cons a l ih =>
    rw [List.dropWhile_cons, List.find?_cons]
    cases p a with
    | true => exact ih
    | false => rfl

/-! ## States that differ in one port's ring -/

/-- `v` is `u` but for the egress ring of port `p`. -/
structure RingOnly (p : Port) (u v : State) : Prop where
  eq : v = { u with queues := v.queues }
  queues : v.queues.queues = u.queues.queues
  others : ∀ q : Port, q ≠ p → v.egressPort q = u.egressPort q

section
variable (s : State) (Q : QueueManager) (F : FailoverController)

theorem State.leavePort_with (first : Nat) (p : Port) :
    ({ s with queues := Q, failover := F } : State).leavePort first p =
      { s.leavePort first p with queues := Q, failover := F } := by
  unfold State.leavePort
  rw [show ({ s with queues := Q, failover := F } : State).frame first = s.frame first from rfl]
  cases s.frame first <;> rfl

/-- A retirement reads and writes neither the queues nor the failover unit. -/
theorem State.retire_with (tag : Nat) (cause : RetireCause) :
    ({ s with queues := Q, failover := F } : State).retire tag cause =
      { s.retire tag cause with queues := Q, failover := F } := by
  have hcount (u : State) (f : Frame) (k : Copy) : ({ u with queues := Q, failover := F } : State).countRetired cause f k =
      { u.countRetired cause f k with queues := Q, failover := F } := by cases cause <;> rfl
  have hframe (u : State) (n : Nat) : ({ u with queues := Q, failover := F } : State).frame n = u.frame n := rfl
  unfold State.retire
  rw [show ({ s with queues := Q, failover := F } : State).copy tag = s.copy tag from rfl]
  cases hk : s.copy tag with
  | none => rfl
  | some k =>
    cases hp : k.port with
    | none =>
      simp only [hp, hframe]
      cases s.frame k.frame with
      | none => rfl
      | some f => simp only [hcount]; split <;> rfl
    | some p =>
      simp only [hp, State.leavePort_with, hframe]
      cases (s.leavePort k.frame p).frame k.frame with
      | none => rfl
      | some f => simp only [hcount]; split <;> rfl

end

theorem State.discard_eq (s : State) (p : Port) (c : Cls) (tag : Nat) :
    s.discard p c tag =
      { s.retire tag .stale with
        queues := (s.discard p c tag).queues
        failover := { s.failover with walk := s.failover.walk.map fun w => w.forget p c tag } } := by
  have hring : ((s.dequeue p c tag).forgetInWalk p c tag).adoptIfEmpty p =
      { s with
        queues := (((s.dequeue p c tag).forgetInWalk p c tag).adoptIfEmpty p).queues
        failover := { s.failover with walk := s.failover.walk.map fun w => w.forget p c tag } } := by
    unfold State.adoptIfEmpty
    split <;> rfl
  have hq : (s.discard p c tag).queues = (((s.dequeue p c tag).forgetInWalk p c tag).adoptIfEmpty p).queues :=
    State.retire_queues _ _ _
  rw [hq]
  unfold State.discard
  rw [hring, State.retire_with]

theorem State.discard_queues_queues (s : State) (p : Port) (c : Cls) (tag : Nat) :
    (s.discard p c tag).queues.queues = (s.dequeue p c tag).queues.queues := by
  unfold State.discard
  rw [State.retire_queues, State.adoptIfEmpty_queues]
  rfl

namespace RingOnly

variable {p : Port} {u v w : State}

theorem refl (u : State) : RingOnly p u u := ⟨rfl, rfl, fun _ _ => rfl⟩

theorem trans (h : RingOnly p u v) (k : RingOnly p v w) : RingOnly p u w :=
  ⟨by rw [k.eq, h.eq], k.queues.trans h.queues, fun q hq => (k.others q hq).trans (h.others q hq)⟩

theorem outside (h : RingOnly p u v) : u.sameOutside [.queues] v := by
  rw [h.eq]
  exact u.queues_outside _

theorem queue (h : RingOnly p u v) (q : Port) (c : Cls) : v.queue q c = u.queue q c := by
  unfold State.queue; rw [h.queues]

theorem copy (h : RingOnly p u v) (j : Nat) : v.copy j = u.copy j := by unfold State.copy; rw [h.outside.cells]

theorem setEgressPort (u : State) (p : Port) (e : EgressPort) : RingOnly p u (u.setEgressPort p e) :=
  ⟨rfl, rfl, fun q hq => by rw [State.setEgressPort_egressPort, if_neg hq]⟩

theorem advancePhase (u : State) (p : Port) : RingOnly p u (u.advancePhase p) := by
  unfold State.advancePhase
  dsimp only
  split
  · split
    · exact (setEgressPort u p _).trans (setEgressPort _ p _)
    · exact setEgressPort u p _
  · exact setEgressPort u p _

theorem discard (h : RingOnly p u v) (c : Cls) (tag : Nat) : RingOnly p (u.discard p c tag) (v.discard p c tag) := by
  obtain ⟨heq, hqueues, hothers⟩ := h
  refine ⟨?_, ?_, fun q hq => ?_⟩
  · rw [State.discard_eq u, State.discard_eq v]
    have hret : v.retire tag .stale = { u.retire tag .stale with queues := v.queues } := by
      have hself : (u.retire tag .stale).failover = u.failover := (u.retire_outside tag .stale).failover
      have := State.retire_with u v.queues u.failover tag .stale
      rw [show ({ u with queues := v.queues, failover := u.failover } : State) = { u with queues := v.queues } from rfl,
        ← heq] at this
      rw [this, ← hself]
    rw [hret, show v.failover = u.failover by rw [heq]]
  · rw [State.discard_queues_queues, State.discard_queues_queues]
    unfold State.dequeue State.setQueue State.queue
    rw [hqueues]
  · rw [State.discard_egressPort, State.discard_egressPort, if_neg hq, if_neg hq, hothers q hq]

theorem discardEach (h : RingOnly p u v) (d : List (Cls × Nat)) : RingOnly p (u.discardEach p d) (v.discardEach p d) := by
  induction d generalizing u v with
  | nil => exact h
  | cons x d ih => exact ih (h.discard x.1 x.2)

end RingOnly

/-! ## The strict choice -/

section
variable {s : State} {p : Port}

/-- A discard makes no other copy stale or fresh. -/
theorem State.discard_isStale {c b : Cls} {tag j : Nat} (h : j ≠ tag) :
    (s.discard p c tag).isStale p b j = s.isStale p b j :=
  State.isStale_congr (by rw [State.discard_copy, if_neg h]) (s.discard_outside p c tag).tables
    (s.discard_outside p c tag).live p b

/-- Where no stale copy stands twice at the head of a class, the discard of the first leaves the others as they are. -/
theorem State.discard_cut {c : Cls} {t : Nat} {l : List Nat} (hq : s.queue p c = t :: l) (hs : s.isStale p c t = true)
    (hnd : (s.staleHeads p c).Nodup) :
    (s.discard p c t).queue p c = l ∧ (s.discard p c t).freshQueue p c = s.freshQueue p c ∧
      s.staleHeads p c = t :: (s.discard p c t).staleHeads p c := by
  have hqueue : (s.discard p c t).queue p c = l := by
    rw [State.discard_queue, if_pos ⟨rfl, rfl⟩, hq, List.erase_cons_head]
  unfold State.staleHeads State.freshQueue at *
  rw [hqueue]
  rw [hq, List.takeWhile_cons_of_pos hs] at hnd ⊢
  rw [List.dropWhile_cons_of_pos hs]
  have hcut := cut_congr (P := s.isStale p c) (Q := (s.discard p c t).isStale p c) (l := l)
    (fun x hx => State.discard_isStale fun e => (List.nodup_cons.1 hnd).1 (e ▸ hx))
    fun x hx => State.discard_isStale fun e => by
      have := dropWhile_head hx
      rw [e, hs] at this
      cases this
  rw [hcut.1, hcut.2]
  exact ⟨rfl, rfl, rfl⟩

theorem State.strictPick_heads (l : List Nat) (s : State) (n : Nat) (hq : s.queue p 0 = l) (hnd : (s.staleHeads p 0).Nodup)
    (hn : l.length < n) :
    s.strictPick p n = ((s.freshQueue p 0).head?, s.discardHeads p 0) := by
  induction l generalizing s n with
  | nil =>
    obtain ⟨n, rfl⟩ : ∃ k, n = k + 1 := ⟨n - 1, by simp at hn; omega⟩
    rw [State.discardHeads_eq]
    unfold State.strictPick State.freshQueue State.staleHeads
    rw [hq]
    rfl
  | cons t l ih =>
    obtain ⟨n, rfl⟩ : ∃ k, n = k + 1 := ⟨n - 1, by omega⟩
    unfold State.strictPick
    rw [hq]
    dsimp only
    by_cases hs : s.isStale p 0 t = true
    · obtain ⟨hqueue, hfresh, hheads⟩ := State.discard_cut hq hs hnd
      rw [hheads] at hnd
      rw [if_pos hs, ih _ n hqueue (List.nodup_cons.1 hnd).2 (by simp at hn; omega), hfresh, State.discardHeads_eq,
        State.discardHeads_eq, hheads]
      rfl
    · rw [if_neg hs, State.discardHeads_eq]
      unfold State.freshQueue State.staleHeads
      rw [hq, List.dropWhile_cons_of_neg hs, List.takeWhile_cons_of_neg hs]
      rfl

theorem State.strictPick_eq (hnd : (s.staleHeads p 0).Nodup) :
    s.strictPick p (s.waiting p + 1) = ((s.freshQueue p 0).head?, s.discardHeads p 0) :=
  State.strictPick_heads _ _ _ rfl hnd (by rw [State.waiting_eq]; omega)

end

/-! ## The phase scan, turn by turn -/

/-- The scan with as many turns as it can take. -/
def State.scan (s : State) (p : Port) (left : Nat) : Option Nat × State := s.scanPick p (left + s.waiting p + 1) left

section
variable {s : State} {p : Port}

theorem State.scan_zero (s : State) (p : Port) : s.scan p 0 = (none, s) := by
  unfold State.scan State.scanPick
  rw [if_pos rfl]

/-- A phase that names no class, or an empty one, is passed over. -/
theorem State.scan_idle {k : Nat} (h : ∀ b, s.phaseClass p = some b → s.queue p b = []) :
    s.scan p (k + 1) = (s.advancePhase p).scan p k := by
  have hw := s.advancePhase_waiting p
  have hb : (s.advancePhase p).scanPick p (k + 1 + s.waiting p) k = (s.advancePhase p).scan p k :=
    State.scanPick_bound _ _ _ _ (by omega) (by omega)
  unfold State.scan State.scanPick
  rw [if_neg (by omega), Nat.add_sub_cancel]
  cases hc : s.phaseClass p with
  | none => exact hb
  | some b =>
    dsimp only
    rw [h b hc]
    exact hb

theorem State.scan_stale {k : Nat} {c : Cls} {t : Nat} {rest : List Nat} (hc : s.phaseClass p = some c)
    (hq : s.queue p c = t :: rest) (hs : s.isStale p c t = true) : s.scan p (k + 1) = (s.discard p c t).scan p (k + 1) := by
  have hw := State.discard_waiting hq
  have hb : (s.discard p c t).scanPick p (k + 1 + s.waiting p) (k + 1) = (s.discard p c t).scan p (k + 1) :=
    State.scanPick_bound _ _ _ _ (by omega) (by omega)
  rw [← hb, State.scan, State.scanPick, if_neg (by omega), hc]
  dsimp only
  rw [hq]
  exact if_pos hs

theorem State.scan_fresh {k : Nat} {c : Cls} {t : Nat} {rest : List Nat} (hc : s.phaseClass p = some c)
    (hq : s.queue p c = t :: rest) (hs : ¬s.isStale p c t = true) : s.scan p (k + 1) = (some t, s.advancePhase p) := by
  rw [State.scan, State.scanPick, if_neg (by omega), hc]
  dsimp only
  rw [hq]
  exact if_neg hs

/-- A port adopts on empty queues alone: what a discard leaves of the ring where copies wait. -/
theorem State.discard_egressPort_of_waiting {c b : Cls} {t : Nat} (h : (s.discard p c t).queue p b ≠ []) (q : Port) :
    (s.discard p c t).egressPort q = s.egressPort q := by
  rw [State.discard_egressPort]
  split
  · subst_vars; exact if_neg fun hall => h (hall.2 b)
  · rfl

/-- The ring of a port once the stale heads of a class have been discarded (R98). -/
theorem State.discardHeads_egressPort (s : State) (p : Port) (c : Cls) :
    (s.discardHeads p c).egressPort p =
      if s.staleHeads p c = [] then s.egressPort p
      else s.adoptedIf p (∀ b : Cls, (s.discardHeads p c).queue p b = []) := by
  have key : ∀ (l rest : List Nat) (u : State), u.queue p c = l ++ rest → l ≠ [] →
      (u.discardEach p (l.map fun j => (c, j))).egressPort p =
        u.adoptedIf p (∀ b : Cls, (u.discardEach p (l.map fun j => (c, j))).queue p b = []) := by
    intro l
    induction l with
    | nil => exact fun _ _ _ h => absurd rfl h
    | cons t l ih =>
      intro rest u hq _
      rw [List.map_cons, State.discardEach_cons]
      cases l with
      | nil => exact (u.discard_egressPort p c t p).trans (if_pos rfl)
      | cons t' l =>
        have hqueue : (u.discard p c t).queue p c = t' :: l ++ rest := by
          rw [State.discard_queue, if_pos ⟨rfl, rfl⟩, hq, List.cons_append, List.erase_cons_head]
        have hport := State.discard_egressPort_of_waiting (s := u) (p := p) (c := c) (t := t) (b := c)
          (by rw [hqueue]; simp) p
        rw [ih rest _ hqueue (by simp)]
        have hsched : (u.discard p c t).scheduleProfile ((u.discard p c t).portEntry p).schedProfile =
            u.scheduleProfile (u.portEntry p).schedProfile := by
          unfold State.scheduleProfile State.portEntry
          rw [(u.discard_outside p c t).tables]
        unfold State.adoptedIf
        rw [hport, hsched]
  rw [State.discardHeads_eq]
  by_cases h : s.staleHeads p c = []
  · rw [if_pos h, h]; rfl
  · rw [if_neg h]
    exact key _ _ s (s.queue_eq_heads p c) h

/-- One phase of the scan (R102): what is stale at the heads of its class is discarded; a fresh copy there ends it. -/
theorem State.scan_class {k : Nat} {c : Cls} (l : List Nat) (s : State) (hc : s.phaseClass p = some c) (hq : s.queue p c = l)
    (hnd : (s.staleHeads p c).Nodup) :
    s.scan p (k + 1) =
      if s.freshQueue p c = [] then ((s.discardHeads p c).advancePhase p).scan p k
      else ((s.freshQueue p c).head?, (s.discardHeads p c).advancePhase p) := by
  induction l generalizing s with
  | nil =>
    have hfresh : s.freshQueue p c = [] := by unfold State.freshQueue; rw [hq]; rfl
    have hheads : s.discardHeads p c = s := by rw [State.discardHeads_eq]; unfold State.staleHeads; rw [hq]; rfl
    rw [if_pos hfresh, hheads]
    exact State.scan_idle fun b hb => by
      rw [hc] at hb
      cases hb
      exact hq
  | cons t l ih =>
    by_cases hs : s.isStale p c t = true
    · obtain ⟨hqueue, hfresh, hcons⟩ := State.discard_cut hq hs hnd
      have hheads : s.discardHeads p c = (s.discard p c t).discardHeads p c := by
        rw [State.discardHeads_eq, State.discardHeads_eq, hcons]; rfl
      rw [hcons] at hnd
      rw [State.scan_stale hc hq hs, ← hfresh, hheads]
      by_cases hall : ∀ b : Cls, (s.discard p c t).queue p b = []
      · have hnil : (s.discard p c t).freshQueue p c = [] := by unfold State.freshQueue; rw [hall c]; rfl
        have hself : (s.discard p c t).discardHeads p c = s.discard p c t := by
          rw [State.discardHeads_eq]; unfold State.staleHeads; rw [hall c]; rfl
        rw [if_pos hnil, hself]
        exact State.scan_idle fun b _ => hall b
      · obtain ⟨b, hb⟩ := not_forall.1 hall
        refine ih _ ?_ hqueue (List.nodup_cons.1 hnd).2
        unfold State.phaseClass
        rw [State.discard_egressPort_of_waiting hb]
        exact hc
    · have hfresh : s.freshQueue p c = t :: l := by
        unfold State.freshQueue; rw [hq, List.dropWhile_cons_of_neg hs]
      have hheads : s.discardHeads p c = s := by
        rw [State.discardHeads_eq]; unfold State.staleHeads; rw [hq, List.takeWhile_cons_of_neg hs]; rfl
      rw [hfresh, if_neg (List.cons_ne_nil _ _), hheads]
      exact State.scan_fresh hc hq hs

end

end Sys2Proof.Machine
end

section
/-! A whole phase scan: how far it comes, what it discards, and where it leaves the ring (O22). -/
namespace Sys2Proof.Machine

/-! ## The phases ahead -/

section
variable {s u : State} {p : Port}

theorem State.classesAhead_succ (s : State) (p : Port) (n : Nat) :
    s.classesAhead p (n + 1) = s.classesAhead p n ++ ((s.phaseAhead p n).cls?).toList := by
  unfold State.classesAhead
  rw [List.range_succ, List.filterMap_append]
  cases h : (s.phaseAhead p n).cls? <;> simp [h]

theorem State.mem_classesAhead {n : Nat} {c : Cls} :
    c ∈ s.classesAhead p n ↔ ∃ j < n, (s.phaseAhead p j).cls? = some c := by
  unfold State.classesAhead
  simp only [List.mem_filterMap, List.mem_range]

theorem State.classesAhead_mono {m n : Nat} (h : m ≤ n) {c : Cls} (hc : c ∈ s.classesAhead p m) : c ∈ s.classesAhead p n := by
  obtain ⟨j, hj, hcls⟩ := State.mem_classesAhead.1 hc
  exact State.mem_classesAhead.2 ⟨j, by omega, hcls⟩

theorem State.advanced_zero (h : (s.egressPort p).phase < 64) : s.advanced p 0 = s.egressPort p := by
  unfold State.advanced
  rw [if_pos (by omega)]
  rfl

theorem State.scheduleProfile_congr (h : u.tables = s.tables) :
    u.scheduleProfile (u.portEntry p).schedProfile = s.scheduleProfile (s.portEntry p).schedProfile := by
  unfold State.scheduleProfile State.portEntry
  rw [h]

/-- The phase at the pointer of a ring that has advanced by `i` phases. -/
theorem State.phaseClass_of_advanced {i : Nat} (h : u.egressPort p = s.advanced p i) :
    u.phaseClass p = (s.phaseAhead p i).cls? := by
  unfold State.phaseClass State.phaseAhead
  rw [h]
  unfold State.advanced
  by_cases hlt : (s.egressPort p).phase + i < 64
  · rw [if_pos hlt, if_pos hlt]
  · rw [if_neg hlt, if_neg hlt]

theorem State.advancePhase_egressPort (u : State) (p : Port) :
    (u.advancePhase p).egressPort p =
      if 63 ≤ (u.egressPort p).phase then
        if (u.egressPort p).pendingSched = true then
          { u.egressPort p with
            phase := 0, schedule := u.scheduleProfile (u.portEntry p).schedProfile, pendingSched := false }
        else { u.egressPort p with phase := 0 }
      else { u.egressPort p with phase := (u.egressPort p).phase + 1 } := by
  have hself (v : State) (e : EgressPort) : (v.setEgressPort p e).egressPort p = e := by
    rw [State.setEgressPort_egressPort, if_pos rfl]
  unfold State.advancePhase State.adopt
  dsimp only
  by_cases h : 63 ≤ (u.egressPort p).phase
  · rw [if_pos h, if_pos h, hself]
    dsimp only
    by_cases hp : (u.egressPort p).pendingSched = true
    · rw [if_pos hp, if_pos hp, hself]; rfl
    · rw [if_neg hp, if_neg hp, hself]
  · rw [if_neg h, if_neg h, hself]

/-- The ring advances by one phase more (R98). -/
theorem State.advancePhase_advanced {i : Nat} (hphase : (s.egressPort p).phase < 64) (hi : i < 64)
    (ht : u.tables = s.tables) (h : u.egressPort p = s.advanced p i) :
    (u.advancePhase p).egressPort p = s.advanced p (i + 1) := by
  rw [State.advancePhase_egressPort, h, State.scheduleProfile_congr ht]
  unfold State.advanced
  by_cases hlt : (s.egressPort p).phase + i < 64
  · simp only [if_pos hlt]
    by_cases hwrap : 63 ≤ (s.egressPort p).phase + i
    · have hnot : ¬(s.egressPort p).phase + (i + 1) < 64 := by omega
      have hzero : (s.egressPort p).phase + (i + 1) - 64 = 0 := by omega
      rw [if_pos hwrap, if_neg hnot, hzero]
      by_cases hp : (s.egressPort p).pendingSched = true
      · rw [if_pos hp, if_pos hp]
      · rw [if_neg hp, if_neg hp, Bool.eq_false_of_not_eq_true hp]
    · have hmore : (s.egressPort p).phase + (i + 1) < 64 := by omega
      rw [if_neg hwrap, if_pos hmore]
      rfl
  · have hnot : ¬(s.egressPort p).phase + (i + 1) < 64 := by omega
    have hsmall : ¬63 ≤ (s.egressPort p).phase + i - 64 := by omega
    have hnext : (s.egressPort p).phase + i - 64 + 1 = (s.egressPort p).phase + (i + 1) - 64 := by omega
    simp only [if_neg hlt, if_neg hnot, if_neg hsmall, hnext]

end

/-! ## Queues without repeats -/

section
variable {s : State} {p : Port}

theorem State.queue_nodup (h : (allClasses.flatMap (s.queue p)).Nodup) (c : Cls) : (s.queue p c).Nodup :=
  (List.nodup_flatMap.1 h).1 c (mem_allClasses c)

theorem State.queue_class_unique (h : (allClasses.flatMap (s.queue p)).Nodup) {b c : Cls} {j : Nat} (hb : j ∈ s.queue p b)
    (hc : j ∈ s.queue p c) : b = c := by
  by_contra hne
  have hsym : Std.Symm (Function.onFun List.Disjoint (s.queue p)) := ⟨fun _ _ h => h.symm⟩
  exact (List.nodup_flatMap.1 h).2.forall (mem_allClasses b) (mem_allClasses c) hne hb hc

theorem State.staleHeads_subset (s : State) (p : Port) (c : Cls) {j : Nat} (h : j ∈ s.staleHeads p c) : j ∈ s.queue p c :=
  (List.takeWhile_prefix _).subset h

theorem State.discards_singleton (s : State) (p : Port) (c : Cls) :
    s.discards p [c] = (s.staleHeads p c).map fun j => (c, j) := List.flatMap_singleton ..

/-- The discards of a list of classes are the stale heads of those classes. -/
theorem State.mem_discards {l : List Cls} {x : Cls × Nat} : x ∈ s.discards p l ↔ x.1 ∈ l ∧ x.2 ∈ s.staleHeads p x.1 := by
  constructor
  · intro h
    obtain ⟨c, hc, hx⟩ := List.mem_flatMap.1 h
    obtain ⟨j, hj, rfl⟩ := List.mem_map.1 hx
    exact ⟨hc, hj⟩
  · exact fun h => List.mem_flatMap.2 ⟨x.1, h.1, List.mem_map.2 ⟨x.2, h.2, rfl⟩⟩

/-- No stale copy stands twice at the heads of these classes, and the first fresh copy of none is a stale one of another. -/
structure State.Apart (s : State) (p : Port) (l : List Cls) : Prop where
  once : ∀ c ∈ l, (s.staleHeads p c).Nodup
  other : ∀ b ∈ l, ∀ c ∈ l, b ≠ c → ∀ j ∈ s.staleHeads p b, j ∉ s.staleHeads p c ∧ (s.freshQueue p c).head? ≠ some j

theorem State.Apart.mono {l m : List Cls} (h : s.Apart p m) (hl : ∀ c ∈ l, c ∈ m) : s.Apart p l :=
  ⟨fun c hc => h.once c (hl c hc), fun b hb c hc => h.other b (hl b hb) c (hl c hc)⟩

theorem State.apart_of_nodup (h : (allClasses.flatMap (s.queue p)).Nodup) (l : List Cls) : s.Apart p l := by
  refine ⟨fun c _ => (List.takeWhile_sublist _).nodup (State.queue_nodup h c), fun b _ c _ hne j hj => ⟨fun hin => ?_, fun hd => ?_⟩⟩
  · exact hne (State.queue_class_unique h (s.staleHeads_subset p b hj) (s.staleHeads_subset p c hin))
  · exact hne (State.queue_class_unique h (s.staleHeads_subset p b hj)
      ((List.dropWhile_sublist _).subset (List.mem_of_mem_head? hd)))

end

/-! ## How far a scan has come -/

/-- The scan of state `s` has passed `i` phases without a fresh copy and is now in `u`, its ring at the phase reached. -/
structure Scanned (s : State) (p : Port) (i : Nat) (u : State) : Prop where
  queue : ∀ c : Cls, u.queue p c = if c ∈ s.classesAhead p i then [] else s.queue p c
  ring : u.egressPort p = s.advanced p i
  rest : RingOnly p (s.discardEach p (s.discards p (s.classesAhead p i).eraseDups)) u

/-- A state in which the discards of these classes have been made, and nothing but the ring of `p` changed besides. -/
structure Examined (s : State) (p : Port) (l : List Cls) (u : State) : Prop where
  queue : ∀ c : Cls, c ∉ l → u.queue p c = s.queue p c
  rest : RingOnly p (s.discardEach p (s.discards p l.eraseDups)) u

section
variable {s u : State} {p : Port} {i : Nat}

theorem Scanned.examined (h : Scanned s p i u) : Examined s p (s.classesAhead p i) u :=
  ⟨fun c hc => by rw [h.queue, if_neg hc], h.rest⟩

namespace Examined

variable {l : List Cls}

theorem outside (h : Examined s p l u) : s.sameOutside [.cells, .admission, .queues, .failover, .acct] u :=
  (s.discardEach_outside p _).andThen h.rest.outside

/-- The heads of a class not yet examined are as they were. -/
theorem heads (h : Examined s p l u) {m : List Cls} (hm : s.Apart p m) (hl : ∀ b ∈ l, b ∈ m) {c : Cls} (hcm : c ∈ m)
    (hc : c ∉ l) : u.staleHeads p c = s.staleHeads p c ∧ u.freshQueue p c = s.freshQueue p c := by
  have hsame (j : Nat) (hj : ∀ b ∈ l, j ∉ s.staleHeads p b) : u.isStale p c j = s.isStale p c j := by
    refine State.isStale_congr ?_ h.outside.tables h.outside.live p c
    rw [h.rest.copy, State.discardEach_copy, if_neg]
    intro hmem
    obtain ⟨x, hx, rfl⟩ := List.mem_map.1 hmem
    obtain ⟨hcls, hin⟩ := State.mem_discards.1 hx
    exact hj x.1 (List.mem_eraseDups.1 hcls) hin
  have hne {b : Cls} (hb : b ∈ l) : b ≠ c := fun e => hc (e ▸ hb)
  unfold State.staleHeads State.freshQueue
  rw [h.queue c hc]
  exact cut_congr (fun j hj => hsame j fun b hb hin => (hm.other b (hl b hb) c hcm (hne hb) j hin).1 hj)
    fun j hj => hsame j fun b hb hin => (hm.other b (hl b hb) c hcm (hne hb) j hin).2 hj

theorem discardHeads_rest (h : Examined s p l u) {c : Cls} (hc : c ∉ l) (hheads : u.staleHeads p c = s.staleHeads p c) :
    RingOnly p (s.discardEach p (s.discards p (l ++ [c]).eraseDups)) (u.discardHeads p c) := by
  have hdups : (l ++ [c]).eraseDups = l.eraseDups ++ [c] := by
    rw [List.eraseDups_append]
    have : ([c].removeAll l) = [c] := by simp [List.removeAll, hc]
    rw [this]
    rfl
  rw [hdups, State.discards_append, State.discardEach_append, State.discardHeads_eq, hheads, State.discards_singleton]
  exact h.rest.discardEach _

end Examined

/-- One phase more without a fresh copy: its class is discarded throughout, and the ring is as it was, unless the port's
last copies have gone (R98). -/
theorem Scanned.turn (h : Scanned s p i u) (hnd : s.Apart p (s.classesAhead p (i + 1))) (hi : i < 64)
    (hfresh : ∀ c, (s.phaseAhead p i).cls? = some c → s.freshQueue p c = []) :
    ∃ v, u.scan p (64 - i) = (v.advancePhase p).scan p (64 - (i + 1)) ∧
      (∀ c : Cls, v.queue p c = if c ∈ s.classesAhead p (i + 1) then [] else s.queue p c) ∧
      RingOnly p (s.discardEach p (s.discards p (s.classesAhead p (i + 1)).eraseDups)) v ∧
      v.egressPort p =
        if (∃ b, u.queue p b ≠ []) ∧ ∀ b, v.queue p b = [] then u.adoptedIf p True else u.egressPort p := by
  have hleft : 64 - i = (64 - (i + 1)) + 1 := by omega
  have hcls := State.phaseClass_of_advanced h.ring
  rw [hleft, State.classesAhead_succ]
  have hkeep : (¬(∃ b, u.queue p b ≠ []) ∧ ∀ b, u.queue p b = []) ∨ ¬∀ b, u.queue p b = [] := by
    by_cases hall : ∀ b, u.queue p b = []
    · exact .inl ⟨fun ⟨b, hb⟩ => hb (hall b), hall⟩
    · exact .inr hall
  have hring : u.egressPort p =
      if (∃ b, u.queue p b ≠ []) ∧ ∀ b, u.queue p b = [] then u.adoptedIf p True else u.egressPort p := by
    rw [if_neg fun hc => hkeep.elim (fun h => h.1 hc.1) fun h => h hc.2]
  cases hc : (s.phaseAhead p i).cls? with
  | none =>
    rw [hc] at hcls
    refine ⟨u, State.scan_idle fun b hb => by (rw [hcls] at hb; cases hb), ?_, ?_, hring⟩
    · simpa using h.queue
    · simpa using h.rest
  | some c =>
    rw [hc] at hcls
    by_cases hin : c ∈ s.classesAhead p i
    · have hempty : u.queue p c = [] := by rw [h.queue, if_pos hin]
      refine ⟨u, State.scan_idle fun b hb => by (rw [hcls] at hb; cases hb; exact hempty), fun b => ?_, ?_, hring⟩
      · rw [h.queue]
        by_cases hb : b ∈ s.classesAhead p i
        · rw [if_pos hb, if_pos (List.mem_append_left _ hb)]
        · rw [if_neg hb, if_neg]
          intro hmem
          rcases List.mem_append.1 hmem with hmem | hmem
          · exact hb hmem
          · rw [Option.toList_some, List.mem_singleton] at hmem
            exact hb (hmem ▸ hin)
      · have hdups : (s.classesAhead p i ++ (some c).toList).eraseDups = (s.classesAhead p i).eraseDups := by
          rw [List.eraseDups_append]
          have : ((some c).toList.removeAll (s.classesAhead p i)) = [] := by simp [List.removeAll, hin]
          rw [this]
          simp
        rw [hdups]
        exact h.rest
    · have hc' : c ∈ s.classesAhead p (i + 1) := State.mem_classesAhead.2 ⟨i, by omega, hc⟩
      obtain ⟨hheads, hfr⟩ := h.examined.heads hnd (fun b hb => State.classesAhead_mono (by omega) hb) hc' hin
      have hnil : u.freshQueue p c = [] := hfr.trans (hfresh c hc)
      have hscan := State.scan_class (k := 64 - (i + 1)) _ u hcls rfl (by rw [hheads]; exact hnd.once c hc')
      rw [if_pos hnil] at hscan
      refine ⟨u.discardHeads p c, hscan, fun b => ?_, h.examined.discardHeads_rest hin hheads, ?_⟩
      · rw [State.discardHeads_queue]
        by_cases hb : b = c
        · subst hb
          rw [if_pos ⟨rfl, rfl⟩, hnil, if_pos (by simp)]
        · rw [if_neg fun hp => hb hp.2, h.queue]
          simp [hb]
      · rw [State.discardHeads_egressPort]
        by_cases hs : u.staleHeads p c = []
        · have hself : u.discardHeads p c = u := by rw [State.discardHeads_eq, hs]; rfl
          rw [if_pos hs, hself]
          exact hring
        · rw [if_neg hs]
          have hne : ∃ b, u.queue p b ≠ [] := ⟨c, fun he => hs (by unfold State.staleHeads; rw [he]; rfl)⟩
          unfold State.adoptedIf
          by_cases hall : ∀ b, (u.discardHeads p c).queue p b = []
          · rw [if_pos (show (∃ b, u.queue p b ≠ []) ∧ ∀ b, (u.discardHeads p c).queue p b = [] from ⟨hne, hall⟩)]
            simp only [hall, implies_true]
          · rw [if_neg fun h => hall h.2, if_neg fun h => hall h.2]

/-- The discards of the next phase, should it be examined, would empty the port's queues while a schedule is pending. -/
def State.adoptsAt (s : State) (p : Port) (i : Nat) : Prop :=
  (s.egressPort p).pendingSched = true ∧ (s.egressPort p).phase + i < 64 ∧ (∃ b : Cls, s.queue p b ≠ []) ∧
    ∀ b : Cls, s.queue p b ≠ [] → b ∈ s.classesAhead p (i + 1)

theorem Scanned.start (hphase : (s.egressPort p).phase < 64) : Scanned s p 0 s :=
  ⟨fun c => by rw [if_neg]; simp [State.classesAhead], (State.advanced_zero hphase).symm, .refl s⟩

theorem State.advanced_pending (s : State) (p : Port) (i : Nat) :
    (s.advanced p i).pendingSched = true ↔ (s.egressPort p).pendingSched = true ∧ (s.egressPort p).phase + i < 64 := by
  unfold State.advanced
  by_cases h : (s.egressPort p).phase + i < 64
  · rw [if_pos h]; simp [h]
  · rw [if_neg h]; simp [h]

/-- One phase more, the port's schedule standing. -/
theorem Scanned.next (h : Scanned s p i u) (hphase : (s.egressPort p).phase < 64)
    (hnd : s.Apart p (s.classesAhead p (i + 1))) (hi : i < 64) (hfresh : ∀ c, (s.phaseAhead p i).cls? = some c → s.freshQueue p c = []) (hno : ¬s.adoptsAt p i) :
    ∃ v, u.scan p (64 - i) = v.scan p (64 - (i + 1)) ∧ Scanned s p (i + 1) v := by
  obtain ⟨v, hscan, hqueue, hrest, hring⟩ := h.turn hnd hi hfresh
  have hsame : v.egressPort p = s.advanced p i := by
    rw [hring, ← h.ring]
    split
    case isTrue hall =>
      refine if_neg fun hpend => hno ?_
      rw [h.ring] at hpend
      obtain ⟨hpending, hlt⟩ := (s.advanced_pending p i).1 hpend.1
      obtain ⟨⟨b, hb⟩, hnil⟩ := hall
      rw [h.queue] at hb
      refine ⟨hpending, hlt, ⟨b, fun he => hb (by rw [he]; split <;> rfl)⟩, fun c hc => ?_⟩
      have := hnil c
      rw [hqueue] at this
      by_contra hnot
      rw [if_neg hnot] at this
      exact hc this
    case isFalse => rfl
  have htables : v.tables = s.tables := ((s.discardEach_outside p _).andThen hrest.outside :
    s.sameOutside [.cells, .admission, .queues, .failover, .acct] v).tables
  exact ⟨_, hscan, fun c => by rw [State.advancePhase_queue, hqueue],
    State.advancePhase_advanced hphase hi htables hsame, hrest.trans (.advancePhase v p)⟩

/-- A scan goes through the phases that hold nothing fresh. -/
theorem Scanned.reach (hphase : (s.egressPort p).phase < 64) (hnd : s.Apart p (s.classesAhead p i)) (hi : i ≤ 64)
    (hfresh : ∀ j < i, ∀ c, (s.phaseAhead p j).cls? = some c → s.freshQueue p c = [])
    (hno : ∀ j < i, ¬s.adoptsAt p j) : ∃ u, s.scan p 64 = u.scan p (64 - i) ∧ Scanned s p i u := by
  induction i with
  | zero => exact ⟨s, rfl, .start hphase⟩
  | succ i ih =>
    obtain ⟨u, hu, h⟩ := ih (hnd.mono fun c hc => State.classesAhead_mono (by omega) hc) (by omega)
      (fun j hj => hfresh j (by omega)) fun j hj => hno j (by omega)
    obtain ⟨v, hv, h'⟩ := h.next hphase hnd (by omega) (hfresh i (by omega)) (hno i (by omega))
    exact ⟨v, hu.trans hv, h'⟩

/-- The first phase whose class holds a fresh copy ends the scan with the first of them. -/
theorem State.scan_found {c : Cls} (hphase : (s.egressPort p).phase < 64) (hnd : s.Apart p (s.classesAhead p (i + 1)))
    (hi : i < 64) (hc : (s.phaseAhead p i).cls? = some c) (hfound : s.freshQueue p c ≠ [])
    (hfresh : ∀ j < i, ∀ c, (s.phaseAhead p j).cls? = some c → s.freshQueue p c = []) :
    c ∉ s.classesAhead p i ∧ (s.scan p 64).1 = (s.freshQueue p c).head? ∧
      (∀ b : Cls, (s.scan p 64).2.queue p b =
        if b = c then s.freshQueue p c else if b ∈ s.classesAhead p i then [] else s.queue p b) ∧
      (s.scan p 64).2.egressPort p = s.advanced p (i + 1) ∧
      RingOnly p (s.discardEach p (s.discards p (s.classesAhead p (i + 1)).eraseDups)) (s.scan p 64).2 := by
  have hnot : c ∉ s.classesAhead p i := fun hin => by
    obtain ⟨j, hj, hcls⟩ := State.mem_classesAhead.1 hin
    exact hfound (hfresh j hj c hcls)
  have hwaits : s.queue p c ≠ [] := fun he => hfound (by unfold State.freshQueue; rw [he]; rfl)
  have hno : ∀ j < i, ¬s.adoptsAt p j := fun j hj ⟨_, _, _, hall⟩ => by
    have := hall c hwaits
    exact hnot (State.classesAhead_mono hj this)
  have hback : ∀ b ∈ s.classesAhead p i, b ∈ s.classesAhead p (i + 1) := fun b hb => State.classesAhead_mono (by omega) hb
  have hc' : c ∈ s.classesAhead p (i + 1) := State.mem_classesAhead.2 ⟨i, by omega, hc⟩
  obtain ⟨u, hu, h⟩ := Scanned.reach hphase (hnd.mono hback) hi.le hfresh hno
  have hcls := State.phaseClass_of_advanced h.ring
  rw [hc] at hcls
  obtain ⟨hheads, hfr⟩ := h.examined.heads hnd hback hc' hnot
  have hscan := State.scan_class (k := 64 - (i + 1)) _ u hcls rfl
    (by rw [hheads]; exact hnd.once c hc')
  rw [show 64 - i = 64 - (i + 1) + 1 by omega, hscan, hfr, if_neg hfound] at hu
  rw [hu]
  have hkeep : (u.discardHeads p c).egressPort p = s.advanced p i := by
    rw [State.discardHeads_egressPort, h.ring]
    split
    · rfl
    · refine (if_neg fun hall => hfound ?_).trans h.ring
      have := hall.2 c
      rw [State.discardHeads_queue, if_pos ⟨rfl, rfl⟩, hfr] at this
      exact this
  have hrest := h.examined.discardHeads_rest hnot hheads
  have hsucc : s.classesAhead p (i + 1) = s.classesAhead p i ++ [c] := by rw [State.classesAhead_succ, hc]; rfl
  have htables : (u.discardHeads p c).tables = s.tables := ((s.discardEach_outside p _).andThen hrest.outside :
    s.sameOutside [.cells, .admission, .queues, .failover, .acct] _).tables
  refine ⟨hnot, rfl, fun b => ?_, State.advancePhase_advanced hphase hi htables hkeep, ?_⟩
  · rw [State.advancePhase_queue, State.discardHeads_queue, hfr]
    by_cases hb : b = c
    · rw [if_pos ⟨rfl, hb⟩, if_pos hb]
    · rw [if_neg fun hp => hb hp.2, if_neg hb, h.queue]
  · rw [hsucc]
    exact hrest.trans (.advancePhase _ p)

/-- With nothing waiting and no schedule pending the scan advances the pointer through the phases left. -/
theorem State.scan_empty (k : Nat) (u : State) (h : ∀ b : Cls, u.queue p b = []) (hphase : (u.egressPort p).phase < 64)
    (hk : (u.egressPort p).phase + k ≤ 64) (hp : (u.egressPort p).pendingSched = false) :
    (u.scan p k).1 = none ∧ RingOnly p u (u.scan p k).2 ∧
      (u.scan p k).2.egressPort p = { u.egressPort p with phase := ((u.egressPort p).phase + k) % 64 } := by
  induction k generalizing u with
  | zero =>
    rw [State.scan_zero]
    refine ⟨rfl, .refl u, ?_⟩
    rw [Nat.add_zero, Nat.mod_eq_of_lt hphase]
  | succ k ih =>
    have hring : (u.advancePhase p).egressPort p = { u.egressPort p with phase := ((u.egressPort p).phase + 1) % 64 } := by
      rw [State.advancePhase_egressPort, hp]
      split
      · rw [if_neg Bool.false_ne_true, show ((u.egressPort p).phase + 1) % 64 = 0 by omega]
      · rw [Nat.mod_eq_of_lt (by omega)]
    have hmod := Nat.mod_lt ((u.egressPort p).phase + 1) (show 0 < 64 by decide)
    rw [State.scan_idle fun b _ => h b]
    have hempty : ∀ b : Cls, (u.advancePhase p).queue p b = [] := fun b => by rw [State.advancePhase_queue, h b]
    obtain ⟨hnone, hrest, hend⟩ := ih (u.advancePhase p) hempty (by rw [hring]; exact hmod)
      (by rw [hring]; show _ % 64 + k ≤ 64; omega) (by rw [hring]; exact hp)
    refine ⟨hnone, (RingOnly.advancePhase u p).trans hrest, ?_⟩
    rw [hend, hring]
    dsimp only
    rw [Nat.mod_add_mod, Nat.add_assoc, Nat.add_comm 1 k]

/-- Classes of which nothing waits add no discards. -/
theorem State.discards_append_empty {l m : List Cls} (h : ∀ c ∈ m, c ∉ l → s.queue p c = []) :
    s.discards p (l ++ m).eraseDups = s.discards p l.eraseDups := by
  rw [List.eraseDups_append, State.discards_append]
  have hnil : s.discards p (m.removeAll l).eraseDups = [] := by
    refine List.flatMap_eq_nil_iff.2 fun c hc => ?_
    have hmem : c ∈ m ∧ c ∉ l := by simpa [List.removeAll] using List.mem_eraseDups.1 hc
    unfold State.staleHeads
    rw [h c hmem.1 hmem.2]
    rfl
  rw [hnil, List.append_nil]

theorem State.classesAhead_add (s : State) (p : Port) (m n : Nat) :
    ∃ l, s.classesAhead p (m + n) = s.classesAhead p m ++ l := by
  induction n with
  | zero => exact ⟨[], by simp⟩
  | succ n ih =>
    obtain ⟨l, hl⟩ := ih
    exact ⟨l ++ ((s.phaseAhead p (m + n)).cls?).toList, by rw [← Nat.add_assoc, State.classesAhead_succ, hl, List.append_assoc]⟩

/-- A scan that finds nothing: where it leaves the ring depends on whether its discards empty the queues (R98). -/
theorem State.scan_through (hphase : (s.egressPort p).phase < 64) (hnd : s.Apart p (s.classesAhead p 64))
    (hfresh : ∀ c ∈ s.classesAhead p 64, s.freshQueue p c = []) :
    (s.scan p 64).1 = none ∧
      (∀ c : Cls, (s.scan p 64).2.queue p c = if c ∈ s.classesAhead p 64 then [] else s.queue p c) ∧
      RingOnly p (s.discardEach p (s.discards p (s.classesAhead p 64).eraseDups)) (s.scan p 64).2 ∧
      ((∃ i < 64, s.adoptsAt p i ∧ (∀ j < i, ¬s.adoptsAt p j) ∧
          (s.scan p 64).2.egressPort p =
            { s.egressPort p with
              schedule := s.scheduleProfile (s.portEntry p).schedProfile, pendingSched := false, phase := (64 - i) % 64 }) ∨
        ((∀ i < 64, ¬s.adoptsAt p i) ∧ (s.scan p 64).2.egressPort p = s.advanced p 64)) := by
  have hfr : ∀ j < 64, ∀ c, (s.phaseAhead p j).cls? = some c → s.freshQueue p c = [] := fun j hj c hc =>
    hfresh c (State.mem_classesAhead.2 ⟨j, hj, hc⟩)
  by_cases hall : ∀ i < 64, ¬s.adoptsAt p i
  · obtain ⟨u, hu, h⟩ := Scanned.reach hphase hnd le_rfl hfr hall
    rw [hu, State.scan_zero]
    exact ⟨rfl, h.queue, h.rest, .inr ⟨hall, h.ring⟩⟩
  · obtain ⟨i, hex⟩ := not_forall.1 hall
    obtain ⟨i, ⟨hi, hadopts⟩, hmin⟩ : ∃ i, (i < 64 ∧ s.adoptsAt p i) ∧ ∀ j < i, ¬(j < 64 ∧ s.adoptsAt p j) := by
      have hexists : ∃ i, i < 64 ∧ s.adoptsAt p i := ⟨i, by simpa using hex⟩
      classical exact ⟨Nat.find hexists, Nat.find_spec hexists, fun j hj => Nat.find_min hexists hj⟩
    have hno : ∀ j < i, ¬s.adoptsAt p j := fun j hj h => hmin j hj ⟨by omega, h⟩
    have hback (k : Nat) (hk : k ≤ 64) : s.Apart p (s.classesAhead p k) := hnd.mono fun b hb => State.classesAhead_mono hk hb
    obtain ⟨u, hu, h⟩ := Scanned.reach hphase (hback i hi.le) hi.le (fun j hj => hfr j (by omega)) hno
    obtain ⟨v, hscan, hqueue, hrest, hring⟩ := h.turn (hback (i + 1) hi) hi (hfr i hi)
    obtain ⟨hpending, hlt, ⟨b, hb⟩, hcovers⟩ := hadopts
    have hvempty : ∀ c : Cls, v.queue p c = [] := fun c => by
      rw [hqueue]
      split
      · rfl
      · by_contra hne; exact ‹c ∉ _› (hcovers c hne)
    have huwaits : ∃ c, u.queue p c ≠ [] := by
      cases i with
      | zero => exact ⟨b, by rw [h.queue, if_neg (by simp [State.classesAhead])]; exact hb⟩
      | succ j =>
        by_contra hnone
        refine hno j (by omega) ⟨hpending, by omega, ⟨b, hb⟩, fun c hc => ?_⟩
        by_contra hnot
        exact hnone ⟨c, by rw [h.queue, if_neg hnot]; exact hc⟩
    have htables : u.tables = s.tables := h.examined.outside.tables
    rw [if_pos ⟨huwaits, hvempty⟩, State.adoptedIf, h.ring, State.scheduleProfile_congr htables,
      if_pos ⟨(s.advanced_pending p i).2 ⟨hpending, hlt⟩, trivial⟩, State.advanced, if_pos hlt] at hring
    have hidle : v.scan p (64 - i) = (v.advancePhase p).scan p (64 - (i + 1)) := by
      rw [show 64 - i = 64 - (i + 1) + 1 by omega]
      exact State.scan_idle fun c _ => hvempty c
    rw [hu, hscan, ← hidle]
    have hvphase : (v.egressPort p).phase = 0 := by rw [hring]
    obtain ⟨hnone, hring', hend⟩ := State.scan_empty (64 - i) v hvempty (by omega) (by omega) (by rw [hring])
    have hstill : ∀ c, (v.scan p (64 - i)).2.queue p c = [] := fun c => by rw [hring'.queue, hvempty]
    have hcls : ∃ l, s.classesAhead p 64 = s.classesAhead p (i + 1) ++ l := by
      have := s.classesAhead_add p (i + 1) (63 - i)
      rwa [show i + 1 + (63 - i) = 64 by omega] at this
    obtain ⟨l, hl⟩ := hcls
    refine ⟨hnone, fun c => ?_, ?_, .inl ⟨i, hi, ⟨hpending, hlt, ⟨b, hb⟩, hcovers⟩, hno, ?_⟩⟩
    · rw [hstill]
      split
      · rfl
      · by_contra hne
        exact ‹c ∉ _› (hl ▸ List.mem_append_left _ (hcovers c fun e => hne e.symm))
    · rw [hl, State.discards_append_empty fun c _ hnot => by
        by_contra hne; exact hnot (hcovers c hne)]
      exact hrest.trans hring'
    · rw [hend, hring]
      dsimp only
      rw [Nat.zero_add]

end

/-- A place among the classes ahead is that of a phase. -/
theorem State.classesAhead_split {s : State} {p : Port} {n : Nat} {l r : List Cls} {c : Cls}
    (h : s.classesAhead p n = l ++ c :: r) : ∃ i < n, s.classesAhead p i = l ∧ (s.phaseAhead p i).cls? = some c := by
  induction n generalizing r with
  | zero => simp [State.classesAhead] at h
  | succ n ih =>
    rw [State.classesAhead_succ] at h
    have before (r' : List Cls) (h' : s.classesAhead p n = l ++ c :: r') :
        ∃ i < n + 1, s.classesAhead p i = l ∧ (s.phaseAhead p i).cls? = some c := by
      obtain ⟨i, hi, hc⟩ := ih h'
      exact ⟨i, by omega, hc⟩
    cases hn : (s.phaseAhead p n).cls? with
    | none => rw [hn, Option.toList_none, List.append_nil] at h; exact before r h
    | some d =>
      rw [hn, Option.toList_some] at h
      rcases List.eq_nil_or_concat r with rfl | ⟨r', x, rfl⟩
      · obtain ⟨h1, h2⟩ := List.append_inj' h rfl
        exact ⟨n, by omega, h1, hn.trans (congrArg some (List.singleton_inj.1 h2))⟩
      · rw [List.concat_eq_append, ← List.cons_append, ← List.append_assoc] at h
        exact before r' (List.append_inj' h rfl).1

/-- What stands behind the elements taken does not meet the predicate. -/
theorem head_of_takeWhile {α : Type} {P : α → Bool} {l r : List α} {c : α} (h : (l ++ c :: r).takeWhile P = l) : P c = false := by
  induction l with
  | nil =>
    rw [List.nil_append, List.takeWhile_cons] at h
    by_contra hc
    rw [if_pos (by simpa using hc)] at h
    cases h
  | cons a l ih =>
    rw [List.cons_append, List.takeWhile_cons] at h
    split at h
    · exact ih (List.cons.inj h).2
    · cases h

/-- Settles O22. -/
theorem strictChoiceIsFirstFresh : Obligations.StrictChoiceIsFirstFresh := by
  have hstale {s : State} {p : Port} (h : (s.queue p 0).Nodup) : (s.staleHeads p 0).Nodup :=
    (List.takeWhile_sublist _).nodup h
  refine ⟨fun p s => s.eligible_iff p, fun p c tag k e s hk he => ?stale, fun p s hnd => ⟨?choice, ?queue⟩,
    fun p s r empty left hnd hphase hr hempty hleft => ?scan⟩
  case stale =>
    rw [State.isStale_of_copy hk, he, decide_eq_true_eq]
    rfl
  case choice => rw [State.strictPick_eq (hstale hnd)]; exact head?_dropWhile _ _
  case queue => rw [State.strictPick_eq (hstale hnd)]; exact (State.discardHeads_queue s p 0 p 0).trans (if_pos ⟨rfl, rfl⟩)
  case scan =>
    have hrs : r = s.scan p 64 := hr
    cases hl : left with
    | nil =>
      have hall : ∀ c ∈ s.classesAhead p 64, s.freshQueue p c = [] := by
        rw [hleft, hl, List.append_nil, hempty]
        exact fun c hc => by simpa using List.mem_takeWhile_imp hc
      obtain ⟨hnone, hqueue, -, -⟩ := State.scan_through hphase (State.apart_of_nodup hnd _) hall
      rw [hrs]
      refine ⟨hnone, fun c => ?_⟩
      rw [hqueue, hleft, hl, List.append_nil]
      by_cases hc : c ∈ empty
      · rw [if_pos hc, if_pos (.inl hc), hall c (hleft ▸ List.mem_append_left _ hc)]
      · rw [if_neg hc, if_neg (by simp [hc])]
    | cons c rest =>
      rw [hl] at hleft
      obtain ⟨i, hi, hahead, hc⟩ := State.classesAhead_split hleft
      have hfound : s.freshQueue p c ≠ [] := by
        have hstops := hempty.symm
        rw [hleft] at hstops
        simpa using head_of_takeWhile hstops
      have hfresh : ∀ j < i, ∀ b, (s.phaseAhead p j).cls? = some b → s.freshQueue p b = [] := fun j hj b hb => by
        have hmem : b ∈ empty := hahead ▸ State.mem_classesAhead.2 ⟨j, hj, hb⟩
        rw [hempty] at hmem
        simpa using List.mem_takeWhile_imp hmem
      obtain ⟨hnot, hpick, hqueue, -, -⟩ := State.scan_found hphase (State.apart_of_nodup hnd _) hi hc hfound hfresh
      rw [hrs]
      refine ⟨hpick, fun b => ?_⟩
      rw [hqueue, hahead]
      by_cases hb : b = c
      · subst hb; rw [if_pos rfl, if_pos (.inr rfl)]
      · rw [if_neg hb]
        by_cases hin : b ∈ empty
        · obtain ⟨j, hj, hcls⟩ := State.mem_classesAhead.1 (hahead ▸ hin)
          rw [if_pos hin, if_pos (.inl hin), hfresh j hj b hcls]
        · rw [if_neg hin, if_neg fun h => h.elim hin fun h => hb (Option.some.inj h).symm]

end Sys2Proof.Machine
end

section
/-! Several retirements one after another (R16, R17): copies of different frames, no cell in two of them. -/
namespace Sys2Proof.Machine

/-! ## The link map of a frame under other frames' frees -/

/-- A chain of the link map is the same in another map that agrees with it there, with any bound that leaves it whole. -/
theorem linkedCells_congr {m m' : Table (Option Nat)} {n n' c : Nat}
    (hsame : ∀ x ∈ linkedCells m n c, m'.find x = m.find x) (hnone : ∀ x, m.find x = none → m'.find x = none)
    (hlen : (linkedCells m n c).length ≤ n') (hcut : (linkedCells m n c).length = n → n' = n) :
    linkedCells m' n' c = linkedCells m n c := by
  induction n generalizing c n' with
  | zero => rw [hcut rfl]; rfl
  | succ n ih =>
    unfold linkedCells at hsame hlen hcut ⊢
    cases hc : m.find c with
    | none =>
      cases n' with
      | zero => rfl
      | succ n' => simp only [hnone c hc]
    | some d =>
      cases d with
      | none =>
        rw [hc] at hsame hlen hcut
        dsimp only at hsame hlen hcut ⊢
        obtain ⟨n', rfl⟩ : ∃ k, n' = k + 1 := ⟨n' - 1, by simp at hlen; omega⟩
        simp only [hsame c List.mem_cons_self, hc]
      | some d =>
        rw [hc] at hsame hlen hcut
        dsimp only at hsame hlen hcut ⊢
        obtain ⟨n', rfl⟩ : ∃ k, n' = k + 1 := ⟨n' - 1, by simp at hlen; omega⟩
        simp only [hsame c List.mem_cons_self, hc]
        rw [ih (fun x hx => hsame x (List.mem_cons_of_mem _ hx)) (by simpa using hlen) fun he => by
          have := hcut (by simp [he]); omega]

theorem linkedCells_found {m : Table (Option Nat)} {n c x : Nat} (h : x ∈ linkedCells m n c) : m.find x ≠ none := by
  induction n generalizing c with
  | zero => cases h
  | succ n ih =>
    unfold linkedCells at h
    cases hc : m.find c with
    | none => rw [hc] at h; cases h
    | some d =>
      rw [hc] at h
      cases d with
      | none => rw [List.mem_singleton.1 h, hc]; exact Option.some_ne_none _
      | some d =>
        rcases List.mem_cons.1 h with rfl | h
        · rw [hc]; exact Option.some_ne_none _
        · exact ih h

/-- Numbers that a table lists are no more than its entries. -/
theorem Table.length_le_of_found {α : Type} {m : Table α} {l : List Nat} (hnd : l.Nodup) (h : ∀ x ∈ l, m.find x ≠ none) :
    l.length ≤ m.length := by
  have hsub : l ⊆ m.map (·.1) := fun x hx => by
    cases hf : Table.find m x with
    | none => exact absurd hf (h x hx)
    | some v => exact List.mem_map.2 ⟨(x, v), Table.find_mem hf, rfl⟩
  have := (hnd.subperm hsub).length_le
  rwa [List.length_map] at this

/-- The map with these cells taken out of it. -/
def Table.without {α : Type} (m : Table α) (l : List Nat) : Table α := l.foldl (fun m c => m.erase c) m

theorem Table.find_without {α : Type} (m : Table α) (l : List Nat) (c : Nat) :
    (Table.without m l).find c = if c ∈ l then none else m.find c := Table.find_foldl_erase l m c

theorem Table.without_length_le {α : Type} (m : Table α) (l : List Nat) : (Table.without m l).length ≤ m.length := by
  unfold Table.without
  induction l generalizing m with
  | nil => exact le_rfl
  | cons c l ih => exact (ih _).trans (List.length_filter_le _ _)

theorem Table.without_append {α : Type} (m : Table α) (l k : List Nat) :
    Table.without m (l ++ k) = Table.without (Table.without m l) k := List.foldl_append ..

/-- A frame's cells without those of other frames. -/
theorem linkedCells_without {m : Table (Option Nat)} {l : List Nat} {c : Nat}
    (hnd : (linkedCells m m.length c).Nodup) (hdis : ∀ x ∈ linkedCells m m.length c, x ∉ l) :
    linkedCells (Table.without m l) (Table.without m l).length c = linkedCells m m.length c := by
  have hfind : ∀ x ∈ linkedCells m m.length c, (Table.without m l).find x = m.find x := fun x hx => by
    rw [Table.find_without, if_neg (hdis x hx)]
  have hlen : (linkedCells m m.length c).length ≤ (Table.without m l).length :=
    Table.length_le_of_found hnd fun x hx => by rw [hfind x hx]; exact linkedCells_found hx
  refine linkedCells_congr hfind (fun x hx => ?_) hlen fun he => ?_
  · rw [Table.find_without, hx, ite_self]
  · have := Table.without_length_le m l
    omega

theorem State.frameCells_without {s u : State} {l : List Nat} {first : Nat} (hu : u.cells.links = Table.without s.cells.links l)
    (hnd : (s.frameCells first).Nodup) (hdis : ∀ x ∈ s.frameCells first, x ∉ l) : u.frameCells first = s.frameCells first := by
  unfold State.frameCells
  rw [hu]
  exact linkedCells_without hnd hdis

/-! ## What one retirement takes out of the link map -/

theorem State.freeFrame_links (s : State) (first : Nat) (f : Frame) :
    (s.freeFrame first f).cells.links = Table.without s.cells.links (s.frameCells first) := rfl

theorem State.frameCells_congr {s u : State} (h : u.cells.links = s.cells.links) (first : Nat) :
    u.frameCells first = s.frameCells first := by unfold State.frameCells; rw [h]

theorem State.retire_links {s : State} {tag : Nat} {k : Copy} {f : Frame} (hk : s.copy tag = some k)
    (hf : s.frame k.frame = some f) (cause : RetireCause) :
    (s.retire tag cause).cells.links = Table.without s.cells.links (s.freedBy k.frame f) := by
  have hframe := State.leaveCopyPort_frame (s := s) (k := k) hf k.frame
  rw [if_pos rfl] at hframe
  have hlinks (g : Frame) : (((s.leaveCopyPort k).countRetired cause g k).releaseRecord tag).cells.links = s.cells.links := by
    rw [State.countRetired_eq, State.leaveCopyPort_eq]; rfl
  have hfr (g : Frame) : (((s.leaveCopyPort k).countRetired cause g k).releaseRecord tag).frame k.frame =
      some { f with ports := k.leaves f } := by rw [← hframe, State.countRetired_eq]; rfl
  rcases s.retire_cases tag cause with ⟨hn, -⟩ | ⟨k', hk', ⟨hn, -⟩ | ⟨g, hg, ⟨h1, e⟩ | ⟨h1, e⟩⟩⟩
  · rw [hk] at hn; cases hn
  · rw [hk] at hk'; cases hk'; rw [hframe] at hn; cases hn
  all_goals
    rw [hk] at hk'
    cases hk'
    rw [hfr] at hg
    cases hg
    rw [e]
  · have hfreed : s.freedBy k.frame f = s.frameCells k.frame := if_neg (by dsimp only at h1; omega)
    rw [State.freeFrame_links, State.frameCells_congr (hlinks _), hlinks, hfreed]
  · have hfreed : s.freedBy k.frame f = [] := if_pos (by dsimp only at h1; omega)
    rw [hfreed]
    exact hlinks _

/-! ## Several retirements -/

/-- The frame of copy `tag` in state `s`, by its first cell. -/
def State.frameKey (s : State) (tag : Nat) : Option Nat := (s.copy tag).map fun k => k.frame

/-- The records once the copies of a list have been retired, each under its cause (R16, R17). -/
structure Losses (s u : State) (l : List (Nat × RetireCause)) : Prop where
  copy : ∀ j, u.copy j = if j ∈ l.map (·.1) then none else s.copy j
  frame : ∀ x ∈ l, ∀ k, s.copy x.1 = some k → ∀ f, s.frame k.frame = some f →
    u.frame k.frame = if 2 ≤ f.copyCount then some { f with copyCount := f.copyCount - 1, ports := k.leaves f } else none
  otherFrames : ∀ j, (∀ x ∈ l, s.frameKey x.1 ≠ some j) → u.frame j = s.frame j
  links : u.cells.links = Table.without s.cells.links (l.flatMap fun x => s.freedByTag x.1)
  held : ∀ m : Tenant, u.heldCells m = s.heldCells m - (l.map fun x => s.lastCells m x.1).sum
  meters : u.admission.meters = s.admission.meters
  shed : u.admission.shed = s.admission.shed
  freeCopies : Runs.toList u.cells.freeCopies = Runs.toList s.cells.freeCopies ++ l.map (·.1)
  freeList : u.cells.freeList = Runs.pushAll s.cells.freeList (l.flatMap fun x => s.freedByTag x.1)
  ports : u.cells.ports = s.cells.ports
  acct : u.acct = (l.foldl (fun a x => s.countTag a x.2 x.1) s).acct

theorem State.freedByTag_of {s : State} {tag : Nat} {k : Copy} {f : Frame} (hk : s.copy tag = some k)
    (hf : s.frame k.frame = some f) : s.freedByTag tag = s.freedBy k.frame f := by
  have hfo : s.frameOf tag = some f := by unfold State.frameOf; rw [hk]; exact hf
  unfold State.freedByTag
  rw [hk, hfo]

theorem State.lastCells_of {s : State} {tag : Nat} {k : Copy} {f : Frame} (hk : s.copy tag = some k)
    (hf : s.frame k.frame = some f) (m : Tenant) :
    s.lastCells m tag = if m = f.tenant ∧ f.copyCount < 2 then f.cellCount else 0 := by
  have hfo : s.frameOf tag = some f := by unfold State.frameOf; rw [hk]; exact hf
  unfold State.lastCells State.tenantCells
  rw [hfo]
  dsimp only
  by_cases h2 : 2 ≤ f.copyCount
  · rw [if_pos h2, if_neg fun h => by omega]
  · rw [if_neg h2]
    by_cases hm : f.tenant = m
    · rw [if_pos hm, if_pos ⟨hm.symm, by omega⟩]
    · rw [if_neg hm, if_neg fun h => hm h.1.symm]

theorem State.countTag_of {s a : State} {tag : Nat} {k : Copy} {f : Frame} (hk : s.copy tag = some k)
    (hf : s.frame k.frame = some f) (cause : RetireCause) : s.countTag a cause tag = a.countRetired cause f k := by
  unfold State.countTag
  rw [hk]
  dsimp only
  rw [hf]

theorem State.countTags_tables (s : State) (l : List (Nat × RetireCause)) (a : State) :
    (l.foldl (fun a x => s.countTag a x.2 x.1) a).tables = a.tables := by
  induction l generalizing a with
  | nil => rfl
  | cons x l ih =>
    rw [List.foldl_cons, ih]
    unfold State.countTag
    split
    · rfl
    · split
      · rfl
      · rw [State.countRetired_eq]

namespace Losses

variable {s u : State} {l : List (Nat × RetireCause)}

theorem refl (s : State) : Losses s s [] :=
  ⟨fun j => by simp, by simp, fun _ _ => rfl, rfl, fun m => by simp, rfl, rfl, by simp, rfl, rfl, rfl⟩

/-- One retirement more, of a copy whose frame is none of those before and whose cells are in none of them. -/
theorem retire (h : Losses s u l) (ht : u.tables = s.tables) {tag : Nat} {k : Copy} {f : Frame} {cause : RetireCause}
    (hk : s.copy tag = some k) (hf : s.frame k.frame = some f) (hframe : ∀ x ∈ l, s.frameKey x.1 ≠ s.frameKey tag)
    (hcells : ((l ++ [(tag, cause)]).flatMap fun x => s.freedByTag x.1).Nodup) :
    Losses s (u.retire tag cause) (l ++ [(tag, cause)]) := by
  have hkey : s.frameKey tag = some k.frame := by unfold State.frameKey; rw [hk]; rfl
  have htag : tag ∉ l.map (·.1) := fun hmem => by
    obtain ⟨x, hx, rfl⟩ := List.mem_map.1 hmem
    exact hframe x hx rfl
  have huk : u.copy tag = some k := by rw [h.copy, if_neg htag, hk]
  have huf : u.frame k.frame = some f := by
    rw [h.otherFrames k.frame fun x hx => hkey ▸ hframe x hx, hf]
  rw [List.flatMap_append, List.flatMap_singleton] at hcells
  have hfreed := State.freedByTag_of hk hf
  obtain ⟨-, hnd, hdis⟩ := List.nodup_append.1 hcells
  have hsame : u.freedBy k.frame f = s.freedBy k.frame f := by
    rw [hfreed] at hnd hdis
    unfold State.freedBy at hnd hdis ⊢
    by_cases h2 : 2 ≤ f.copyCount
    · rw [if_pos h2, if_pos h2]
    · rw [if_neg h2] at hnd hdis
      rw [if_neg h2, if_neg h2]
      exact State.frameCells_without h.links hnd fun x hx hin => hdis x hin x hx rfl
  have hr := State.retire_retired huk huf cause
  refine ⟨fun j => ?_, fun x hx k' hk' f' hf' => ?_, fun j hj => ?_, ?_, fun m => ?_, ?_, ?_, ?_, ?_, ?_, ?_⟩
  · rw [hr.copy, h.copy, List.map_append]
    by_cases hj : j = tag
    · subst hj; rw [if_pos rfl, if_pos (by simp)]
    · rw [if_neg hj, if_congr (show j ∈ l.map (·.1) ↔ j ∈ l.map (·.1) ++ [(tag, cause)].map (·.1) by simp [hj]) rfl rfl]
  · rcases List.mem_append.1 hx with hx | hx
    · have hne : k'.frame ≠ k.frame := fun e => hframe x hx (by
        unfold State.frameKey
        rw [hk', hk]
        exact congrArg some e)
      rw [hr.frame, if_neg hne]
      exact h.frame x hx k' hk' f' hf'
    · rw [List.mem_singleton.1 hx] at hk'
      dsimp only at hk'
      rw [hk] at hk'
      cases hk'
      rw [hf] at hf'
      cases hf'
      rw [hr.frame, if_pos rfl]
  · have hne : j ≠ k.frame := fun e => hj (tag, cause) (by simp) (by rw [hkey, e])
    rw [hr.frame, if_neg hne]
    exact h.otherFrames j fun x hx => hj x (List.mem_append_left _ hx)
  · rw [State.retire_links huk huf, hsame, h.links, List.flatMap_append, List.flatMap_singleton, Table.without_append, hfreed]
  · rw [hr.held, h.held, List.map_append, List.sum_append, ← State.lastCells_of hk hf m]
    exact Nat.sub_sub ..
  · rw [hr.meters, h.meters]
  · rw [hr.shed, h.shed]
  · rw [hr.freeCopies, Runs.toList_push, h.freeCopies, List.map_append, List.append_assoc]; rfl
  · rw [hr.freeList, hsame, h.freeList, List.flatMap_append, List.flatMap_singleton, Runs.pushAll_append, hfreed]
  · rw [hr.ports, h.ports]
  · rw [hr.acct, List.foldl_append, List.foldl_cons, List.foldl_nil, State.countTag_of hk hf]
    exact (State.countRetired_acct_congr h.acct.symm ((State.countTags_tables s l s).trans ht.symm) cause f f.ports k).symm

end Losses

end Sys2Proof.Machine
end

section
/-! What a post attempt chooses and discards (R102, R103), and attempts that post nothing (O20). -/
namespace Sys2Proof.Machine

/-! ## The records behind the discards -/

section
variable {s u : State} {p : Port}

/-- Blocks that later changes leave alone keep what a list of retirements has done. -/
theorem Losses.of_blocks {v : State} {l : List (Nat × RetireCause)} (h : Losses s u l) (hc : v.cells = u.cells)
    (ha : v.admission = u.admission) (hacct : v.acct = u.acct) : Losses s v l := by
  have hcopy (j : Nat) : v.copy j = u.copy j := by unfold State.copy; rw [hc]
  have hframe (j : Nat) : v.frame j = u.frame j := by unfold State.frame; rw [hc]
  have hheld (m : Tenant) : v.heldCells m = u.heldCells m := by unfold State.heldCells; rw [ha]
  exact ⟨fun j => (hcopy j).trans (h.copy j), fun x hx k hk f hf => (hframe _).trans (h.frame x hx k hk f hf),
    fun j hj => (hframe j).trans (h.otherFrames j hj), by rw [hc, h.links], fun m => (hheld m).trans (h.held m),
    by rw [ha, h.meters], by rw [ha, h.shed], by rw [hc, h.freeCopies], by rw [hc, h.freeList], by rw [hc, h.ports],
    by rw [hacct, h.acct]⟩

/-- The cells freed by a list of retirements join the free list; nothing else that reports and refill runs read changes. -/
theorem Losses.agrees {l : List (Nat × RetireCause)} (h : Losses s u l) {bs : List Block}
    (ho : s.sameOutside bs u) (hb : ∀ b ∈ bs, b ∈ [Block.cells, .admission, .queues, .failover, .acct, .intake, .lookup]) :
    Agrees (s.freed (l.flatMap fun x => s.freedByTag x.1)) u := by
  have hout : s.sameOutside [.cells, .admission, .queues, .failover, .acct, .intake, .lookup] u := ho.mono hb
  exact .of_eq (by rw [hout.path]; rfl) (by rw [hout.path]; rfl) hout.tables (by rw [hout.live]; rfl) h.freeList h.ports
    h.shed hout.notices hout.bus

/-- Retirements of copies that may be discarded together, each behind the ones before. -/
theorem State.discardEach_losses (s : State) (p : Port) (d : List (Cls × Nat)) (h : s.discardable p (d.map (·.2))) :
    Losses s (s.discardEach p d) (d.map fun x => (x.2, .stale)) := by
  induction d using List.reverseRecOn with
  | nil => exact .refl s
  | append_singleton d x ih =>
    rw [List.map_append, List.map_singleton] at h ⊢
    obtain ⟨hcopies, hframes, hcells⟩ := h
    rw [List.pairwise_append] at hframes
    obtain ⟨hframes, -, hlast⟩ := hframes
    have hcells' : ((d.map (·.2)).flatMap s.freedByTag).Nodup :=
      (List.Sublist.flatMap (List.sublist_append_left _ _) _).nodup hcells
    have hd := ih ⟨fun j hj => hcopies j (List.mem_append_left _ hj), hframes, hcells'⟩
    obtain ⟨k, hk, -, hf⟩ := hcopies x.2 (by simp)
    obtain ⟨f, hf⟩ := Option.isSome_iff_exists.1 hf
    have hret := hd.retire (cause := .stale) (s.discardEach_outside p d).tables hk hf
      (fun y hy => by
        obtain ⟨z, hz, rfl⟩ := List.mem_map.1 hy
        exact hlast z.2 (List.mem_map_of_mem hz) x.2 (List.mem_singleton_self _))
      (by
        have : (d.map fun x => (x.2, RetireCause.stale)) ++ [(x.2, RetireCause.stale)] =
            (d.map (·.2) ++ [x.2]).map fun j => (j, RetireCause.stale) := by simp
        rw [this, List.flatMap_map]
        exact hcells)
    rw [State.discardEach_append]
    show Losses s ((s.discardEach p d).discard p x.1 x.2) _
    rw [State.discard_eq]
    exact hret.of_blocks rfl rfl rfl

/-- What the running walk keeps of its place as the copies leave (log entry 13). -/
theorem State.discardEach_failover (s : State) (p : Port) (d : List (Cls × Nat)) :
    (s.discardEach p d).failover =
      { s.failover with walk := s.failover.walk.map fun v => d.foldl (fun v x => v.forget p x.1 x.2) v } := by
  induction d generalizing s with
  | nil =>
    show s.failover = { s.failover with walk := s.failover.walk.map fun v => v }
    rw [Option.map_id_fun']
    rfl
  | cons x d ih =>
    rw [State.discardEach_cons, ih, State.discard_eq]
    cases s.failover.walk <;> rfl

/-- The records of a list of discards, as `State.discarded` reads them, whatever reports and refill runs followed. -/
theorem Losses.discarded {tags : List Nat} {t base : State} (h : Losses s u (tags.map fun j => (j, .stale)))
    (hr : SameRecords u t) (ha : t.acct = u.acct) (hb : t.suppliesOf base) : s.discarded t base tags := by
  have htags : (tags.map fun j => (j, RetireCause.stale)).map (·.1) = tags := by
    rw [List.map_map]
    exact List.map_id _
  have hmem {j : Nat} (hj : j ∈ tags) : (j, RetireCause.stale) ∈ tags.map fun j => (j, RetireCause.stale) :=
    List.mem_map.2 ⟨j, hj, rfl⟩
  refine ⟨fun j hj => ⟨?_, fun k hk f hf => ?_⟩, fun j hj => ?_, fun c => ?_, fun m => ?_, hr.meters.trans h.meters, ?_, ?_, hb⟩
  · rw [hr.copy, h.copy, htags, if_pos hj]
  · rw [hr.frame]
    exact h.frame _ (hmem hj) k hk f hf
  · rw [hr.frame]
    refine h.otherFrames j fun x hx => ?_
    obtain ⟨i, hi, rfl⟩ := List.mem_map.1 hx
    exact hj i hi
  · rw [hr.links, h.links, List.flatMap_map]
    exact Table.find_foldl_erase _ _ _
  · rw [hr.heldCells, h.held, List.map_map]
    rfl
  · rw [hr.freeCopies, h.freeCopies, htags]
  · rw [ha, h.acct, List.foldl_map]
    congr 2
    funext a j
    unfold State.countTag State.frameOf
    cases s.copy j with
    | none => rfl
    | some k =>
      dsimp only [Option.bind_some]
      cases s.frame k.frame <;> rfl

/-! ## Which copies are met once -/

theorem State.discards_tags (s : State) (p : Port) (l : List Cls) :
    (s.discards p l).map (·.2) = l.flatMap (s.staleHeads p) := by
  unfold State.discards
  rw [List.map_flatMap]
  congr 1
  funext c
  rw [List.map_map]
  exact List.map_id _

theorem State.discardable_nodup {tags : List Nat} (h : s.discardable p tags) : tags.Nodup := by
  obtain ⟨-, hframes, -⟩ := h
  exact hframes.imp fun hne e => hne (by rw [e])

/-- Copies that may be discarded together are met once, and what is first fresh of a class is none of them. -/
theorem State.apart_of_discardable {l : List Cls} (h : s.discardable p ((s.discards p l).map (·.2)))
    (hfresh : ∀ c ∈ l, ∀ j, (s.freshQueue p c).head? = some j → j ∉ (s.discards p l).map (·.2)) : s.Apart p l := by
  have hnd := State.discardable_nodup h
  rw [State.discards_tags] at hnd hfresh
  obtain ⟨honce, hpair⟩ := List.nodup_flatMap.1 hnd
  have hsym : Std.Symm (Function.onFun List.Disjoint (s.staleHeads p)) := ⟨fun _ _ h => h.symm⟩
  exact ⟨honce, fun b hb c hc hne j hj => ⟨hpair.forall hb hc hne hj, fun hd =>
    hfresh c hc j hd (List.mem_flatMap.2 ⟨b, hb, hj⟩)⟩⟩

/-! ## Behind the strict choice -/

theorem Phase.cls?_ne_zero {f : Phase} : f.cls? ≠ some 0 := by cases f <;> decide

theorem State.zero_notMem_classesAhead (s : State) (p : Port) (n : Nat) : (0 : Cls) ∉ s.classesAhead p n := fun h => by
  obtain ⟨j, -, hj⟩ := State.mem_classesAhead.1 h
  exact Phase.cls?_ne_zero hj

/-- The strict choice has examined class 0 and nothing else. -/
theorem State.discardHeads_examined (s : State) (p : Port) : Examined s p [0] (s.discardHeads p 0) where
  queue c hc := (s.discardHeads_queue p 0 p c).trans (if_neg fun h : p = p ∧ c = 0 => hc (h.2 ▸ List.mem_singleton_self _))
  rest := .refl _

/-- The heads of another class behind the strict choice. -/
theorem State.discardHeads_heads {l : List Cls} (h : s.Apart p (0 :: l)) {c : Cls} (hc : c ∈ l) (h0 : c ≠ 0) :
    (s.discardHeads p 0).staleHeads p c = s.staleHeads p c ∧ (s.discardHeads p 0).freshQueue p c = s.freshQueue p c :=
  (s.discardHeads_examined p).heads h (fun _ hb => List.mem_singleton.1 hb ▸ List.mem_cons_self) (List.mem_cons_of_mem _ hc)
    fun hm => h0 (List.mem_singleton.1 hm)

/-- The phases ahead are read from the ring and the installed tables. -/
theorem State.phaseAhead_congr (he : u.egressPort p = s.egressPort p) (ht : u.tables = s.tables) (j : Nat) :
    u.phaseAhead p j = s.phaseAhead p j := by
  unfold State.phaseAhead
  rw [he, State.scheduleProfile_congr ht]

theorem State.classesAhead_congr (he : u.egressPort p = s.egressPort p) (ht : u.tables = s.tables) (n : Nat) :
    u.classesAhead p n = s.classesAhead p n := by
  unfold State.classesAhead
  simp only [State.phaseAhead_congr he ht]

theorem State.advanced_congr (he : u.egressPort p = s.egressPort p) (ht : u.tables = s.tables) (n : Nat) :
    u.advanced p n = s.advanced p n := by
  unfold State.advanced
  rw [he, State.scheduleProfile_congr ht]

theorem State.discards_congr {l : List Cls} (h : ∀ c ∈ l, u.staleHeads p c = s.staleHeads p c) : u.discards p l = s.discards p l :=
  List.flatMap_congr fun c hc => by rw [h c hc]

/-- A port that has something waiting behind the strict choice keeps its ring in it. -/
theorem State.discardHeads_egressPort_of_waiting {c b : Cls} (h : (s.discardHeads p c).queue p b ≠ []) :
    (s.discardHeads p c).egressPort p = s.egressPort p := by
  rw [State.discardHeads_egressPort]
  split
  · rfl
  · exact if_neg fun hall => h (hall.2 b)

theorem State.Apart.discardHeads {n : Nat} (h : s.Apart p (0 :: s.classesAhead p n)) :
    (s.discardHeads p 0).Apart p (s.classesAhead p n) := by
  have hne {c : Cls} (hc : c ∈ s.classesAhead p n) : c ≠ 0 := fun e => s.zero_notMem_classesAhead p n (e ▸ hc)
  refine ⟨fun c hc => ?_, fun b hb c hc hbc j hj => ?_⟩
  · rw [(State.discardHeads_heads h hc (hne hc)).1]
    exact h.once c (List.mem_cons_of_mem _ hc)
  · rw [(State.discardHeads_heads h hb (hne hb)).1] at hj
    obtain ⟨h1, h2⟩ := State.discardHeads_heads h hc (hne hc)
    rw [h1, h2]
    exact h.other b (List.mem_cons_of_mem _ hb) c (List.mem_cons_of_mem _ hc) hbc j hj

/-! ## What an attempt chooses -/

/-- A fresh copy of class 0 is chosen ahead of every phase (R102 step 1). -/
theorem State.pick_strict {tag : Nat} {rest : List Nat} (hnd : (s.staleHeads p 0).Nodup) (hf : s.freshQueue p 0 = tag :: rest) :
    s.pick p = (some tag, s.discardHeads p 0) := by
  unfold State.pick
  rw [State.strictPick_eq hnd, hf]
  rfl

/-- Without one the choice is the scan's, behind the discards of class 0 (R102 step 2). -/
theorem State.pick_of_nil (hnd : (s.staleHeads p 0).Nodup) (hf : s.freshQueue p 0 = []) :
    s.pick p = (s.discardHeads p 0).scan p 64 := by
  unfold State.pick
  rw [State.strictPick_eq hnd, hf]
  rfl

theorem State.discards_order {n : Nat} (h : s.Apart p (0 :: s.classesAhead p n)) (u : State)
    (hu : RingOnly p ((s.discardHeads p 0).discardEach p ((s.discardHeads p 0).discards p (s.classesAhead p n).eraseDups)) u) :
    RingOnly p (s.discardEach p (s.discards p (0 :: (s.classesAhead p n).eraseDups))) u := by
  have hsame : (s.discardHeads p 0).discards p (s.classesAhead p n).eraseDups = s.discards p (s.classesAhead p n).eraseDups :=
    State.discards_congr fun c hc => (State.discardHeads_heads h (List.mem_eraseDups.1 hc) fun e =>
      s.zero_notMem_classesAhead p n (e ▸ List.mem_eraseDups.1 hc)).1
  rw [show (0 : Cls) :: (s.classesAhead p n).eraseDups = [0] ++ (s.classesAhead p n).eraseDups from rfl, State.discards_append,
    State.discardEach_append]
  rw [hsame] at hu
  exact hu

/-- The first phase whose class holds a fresh copy gives the choice, where class 0 holds none. -/
theorem State.pick_scanned {i : Nat} {c : Cls} (hphase : (s.egressPort p).phase < 64)
    (h : s.Apart p (0 :: s.classesAhead p (i + 1))) (hi : i < 64) (hc : (s.phaseAhead p i).cls? = some c)
    (hzero : s.freshQueue p 0 = []) (hfound : s.freshQueue p c ≠ [])
    (hfresh : ∀ j < i, ∀ b, (s.phaseAhead p j).cls? = some b → s.freshQueue p b = []) :
    (s.pick p).1 = (s.freshQueue p c).head? ∧
      (∀ b : Cls, (s.pick p).2.queue p b =
        if b = c then s.freshQueue p c else if b ∈ 0 :: (s.classesAhead p (i + 1)).eraseDups then [] else s.queue p b) ∧
      (s.pick p).2.egressPort p = s.advanced p (i + 1) ∧
      RingOnly p (s.discardEach p (s.discards p (0 :: (s.classesAhead p (i + 1)).eraseDups))) (s.pick p).2 := by
  have hmem {j : Nat} {b : Cls} (hj : j ≤ i) (hb : (s.phaseAhead p j).cls? = some b) : b ∈ s.classesAhead p (i + 1) :=
    State.mem_classesAhead.2 ⟨j, by omega, hb⟩
  have hne {b : Cls} (hb : b ∈ s.classesAhead p (i + 1)) : b ≠ 0 := fun e => s.zero_notMem_classesAhead p _ (e ▸ hb)
  have hfr {b : Cls} (hb : b ∈ s.classesAhead p (i + 1)) := (State.discardHeads_heads h hb (hne hb)).2
  have hcm := hmem le_rfl hc
  have hwaits : (s.discardHeads p 0).queue p c ≠ [] := fun e => hfound (by rw [← hfr hcm]; unfold State.freshQueue; rw [e]; rfl)
  have hring := State.discardHeads_egressPort_of_waiting hwaits
  have ht : (s.discardHeads p 0).tables = s.tables := (s.discardHeads_examined p).outside.tables
  obtain ⟨hnot, hpick, hqueue, hadv, hrest⟩ := State.scan_found (s := s.discardHeads p 0) (c := c) (by rw [hring]; exact hphase)
    (by rw [State.classesAhead_congr hring ht]; exact h.discardHeads) hi (by rw [State.phaseAhead_congr hring ht]; exact hc)
    (by rw [hfr hcm]; exact hfound) (fun j hj b hb => by
      rw [State.phaseAhead_congr hring ht] at hb
      rw [hfr (hmem hj.le hb)]
      exact hfresh j hj b hb)
  rw [State.classesAhead_congr hring ht] at hrest hqueue
  rw [State.pick_of_nil (h.once 0 List.mem_cons_self) hzero]
  refine ⟨hpick.trans (by rw [hfr hcm]), fun b => ?_, hadv.trans (State.advanced_congr hring ht _), State.discards_order h _ hrest⟩
  rw [hqueue, hfr hcm]
  by_cases hb : b = c
  · rw [if_pos hb, if_pos hb]
  · rw [if_neg hb, if_neg hb, State.discardHeads_queue]
    have hsucc : b ∈ s.classesAhead p (i + 1) ↔ b ∈ s.classesAhead p i := by
      rw [State.classesAhead_succ, hc]
      simp [hb]
    by_cases hin : b ∈ s.classesAhead p i
    · rw [if_pos hin, if_pos (List.mem_cons_of_mem _ (List.mem_eraseDups.2 (hsucc.2 hin)))]
    · rw [if_neg hin]
      by_cases h0 : b = 0
      · rw [if_pos ⟨rfl, h0⟩, if_pos (h0 ▸ List.mem_cons_self), hzero]
      · rw [if_neg fun e => h0 e.2, if_neg]
        rw [List.mem_cons, List.mem_eraseDups, hsucc]
        exact fun e => e.elim h0 hin

end

end Sys2Proof.Machine
end

section
/-! A post attempt that finds no fresh copy (O20). -/
namespace Sys2Proof.Machine

section
variable {s : State} {p : Port}

theorem State.scannedThrough_some {order : List Cls} {i : Nat} (hpend : (s.egressPort p).pendingSched = true)
    (hall : ∀ c : Cls, s.queue p c ≠ [] → c ∈ order) (hi : i < 64) (hlt : (s.egressPort p).phase + i < 64)
    (hcov : ∀ c : Cls, s.queue p c ≠ [] → c ∈ 0 :: s.classesAhead p (i + 1))
    (hmin : ∀ j < i, ¬∀ c : Cls, s.queue p c ≠ [] → c ∈ 0 :: s.classesAhead p (j + 1)) :
    s.scannedThrough p order =
      { s.egressPort p with
        schedule := s.scheduleProfile (s.portEntry p).schedProfile, pendingSched := false, phase := (64 - i) % 64 } := by
  unfold State.scannedThrough
  have hfind : ((List.range 64).find? fun i =>
      decide ((s.egressPort p).phase + i < 64 ∧ ∀ c : Cls, s.queue p c ≠ [] → c ∈ 0 :: s.classesAhead p (i + 1))) = some i :=
    List.find?_range_eq_some.2 ⟨decide_eq_true ⟨hlt, hcov⟩, List.mem_range.2 hi, fun j hj => by
      rw [Bool.not_eq_true', decide_eq_false_iff_not]
      exact fun h => hmin j hj h.2⟩
  rw [if_pos ⟨hpend, hall⟩, hfind]

theorem State.scannedThrough_none {order : List Cls}
    (h : (s.egressPort p).pendingSched = true → ∀ i < 64, (s.egressPort p).phase + i < 64 →
      ¬∀ c : Cls, s.queue p c ≠ [] → c ∈ 0 :: s.classesAhead p (i + 1)) :
    s.scannedThrough p order = s.advanced p 64 := by
  unfold State.scannedThrough
  by_cases hc : (s.egressPort p).pendingSched = true ∧ ∀ c : Cls, s.queue p c ≠ [] → c ∈ order
  · have hfind : ((List.range 64).find? fun i =>
        decide ((s.egressPort p).phase + i < 64 ∧ ∀ c : Cls, s.queue p c ≠ [] → c ∈ 0 :: s.classesAhead p (i + 1))) = none :=
      List.find?_eq_none.2 fun i hi => by
        rw [decide_eq_true_eq]
        exact fun hp => h hc.1 i (List.mem_range.1 hi) hp.1 hp.2
    rw [if_pos hc, hfind]
  · exact if_neg hc

/-- The queues behind the strict choice that finds nothing fresh. -/
theorem State.discardHeads_queue_of_nil (hzero : s.freshQueue p 0 = []) (b : Cls) :
    (s.discardHeads p 0).queue p b = if b = 0 then [] else s.queue p b := by
  rw [State.discardHeads_queue]
  by_cases h : b = 0
  · rw [if_pos ⟨rfl, h⟩, if_pos h, hzero]
  · rw [if_neg fun e => h e.2, if_neg h]

/-- The scan behind a strict choice that has left the ring as it was, where nothing is fresh. -/
theorem State.scan_behind (hphase : (s.egressPort p).phase < 64) (h : s.Apart p (0 :: s.classesAhead p 64))
    (hzero : s.freshQueue p 0 = []) (hfresh : ∀ c ∈ s.classesAhead p 64, s.freshQueue p c = [])
    (hring : (s.discardHeads p 0).egressPort p = s.egressPort p)
    (hwaits : (s.egressPort p).pendingSched = true → ∃ b : Cls, (s.discardHeads p 0).queue p b ≠ []) :
    ((s.discardHeads p 0).scan p 64).1 = none ∧
      (∀ c : Cls, ((s.discardHeads p 0).scan p 64).2.queue p c =
        if c ∈ 0 :: (s.classesAhead p 64).eraseDups then [] else s.queue p c) ∧
      ((s.discardHeads p 0).scan p 64).2.egressPort p = s.scannedThrough p (0 :: (s.classesAhead p 64).eraseDups) ∧
      RingOnly p (s.discardEach p (s.discards p (0 :: (s.classesAhead p 64).eraseDups))) ((s.discardHeads p 0).scan p 64).2 := by
  have ht : (s.discardHeads p 0).tables = s.tables := (s.discardHeads_examined p).outside.tables
  have hahead := State.classesAhead_congr hring ht
  have hqueue := State.discardHeads_queue_of_nil hzero
  obtain ⟨hnone, hq, hrest, hend⟩ := State.scan_through (s := s.discardHeads p 0) (by rw [hring]; exact hphase)
    (by rw [hahead]; exact h.discardHeads) fun c hc => by
      rw [hahead] at hc
      rw [(State.discardHeads_heads h hc fun e => s.zero_notMem_classesAhead p _ (e ▸ hc)).2]
      exact hfresh c hc
  rw [hahead] at hq hrest
  refine ⟨hnone, fun c => ?_, ?_, State.discards_order h _ hrest⟩
  · rw [hq, hqueue]
    by_cases hc : c ∈ s.classesAhead p 64
    · rw [if_pos hc, if_pos (List.mem_cons_of_mem _ (List.mem_eraseDups.2 hc))]
    · rw [if_neg hc]
      by_cases h0 : c = 0
      · rw [if_pos h0, if_pos (h0 ▸ List.mem_cons_self)]
      · rw [if_neg h0, if_neg]
        rw [List.mem_cons, List.mem_eraseDups]
        exact fun e => e.elim h0 hc
  · have hcov (i : Nat) : (∀ b : Cls, (s.discardHeads p 0).queue p b ≠ [] → b ∈ s.classesAhead p (i + 1)) ↔
        ∀ c : Cls, s.queue p c ≠ [] → c ∈ 0 :: s.classesAhead p (i + 1) := by
      refine forall_congr' fun b => ?_
      rw [hqueue]
      by_cases h0 : b = 0
      · simp [h0]
      · simp [h0]
    have hadopts (i : Nat) : (s.discardHeads p 0).adoptsAt p i ↔
        (s.egressPort p).pendingSched = true ∧ (s.egressPort p).phase + i < 64 ∧
          (∃ b : Cls, (s.discardHeads p 0).queue p b ≠ []) ∧ ∀ c : Cls, s.queue p c ≠ [] → c ∈ 0 :: s.classesAhead p (i + 1) := by
      unfold State.adoptsAt
      rw [hring, hahead, hcov]
    rcases hend with ⟨i, hi, hat, hmin, he⟩ | ⟨hno, he⟩
    · obtain ⟨hpend, hlt, hex, hc⟩ := (hadopts i).1 hat
      rw [he, hring, State.scheduleProfile_congr ht]
      refine (State.scannedThrough_some hpend (fun c hne => ?_) hi hlt hc fun j hj hj' => ?_).symm
      · rcases List.mem_cons.1 (hc c hne) with e | hm
        · exact e ▸ List.mem_cons_self
        · exact List.mem_cons_of_mem _ (List.mem_eraseDups.2 (State.classesAhead_mono (by omega) hm))
      · exact hmin j hj ((hadopts j).2 ⟨hpend, by omega, hex, hj'⟩)
    · rw [he, State.advanced_congr hring ht]
      exact (State.scannedThrough_none fun hpend i hi hlt hc =>
        hno i hi ((hadopts i).2 ⟨hpend, hlt, hwaits hpend, hc⟩)).symm

/-- An attempt that finds nothing fresh: what it chooses, discards and leaves of the ring (R98, R102; log entry 14). -/
theorem State.pick_through (hphase : (s.egressPort p).phase < 64) (h : s.Apart p (0 :: s.classesAhead p 64))
    (hsome : ∃ b : Cls, s.queue p b ≠ []) (hfresh : ∀ c ∈ 0 :: s.classesAhead p 64, s.freshQueue p c = []) :
    (s.pick p).1 = none ∧
      (∀ c : Cls, (s.pick p).2.queue p c = if c ∈ 0 :: (s.classesAhead p 64).eraseDups then [] else s.queue p c) ∧
      (s.pick p).2.egressPort p = s.scannedThrough p (0 :: (s.classesAhead p 64).eraseDups) ∧
      RingOnly p (s.discardEach p (s.discards p (0 :: (s.classesAhead p 64).eraseDups))) (s.pick p).2 := by
  have hzero := hfresh 0 List.mem_cons_self
  have hqueue := State.discardHeads_queue_of_nil hzero
  rw [State.pick_of_nil (h.once 0 List.mem_cons_self) hzero]
  have hstands (hring : (s.discardHeads p 0).egressPort p = s.egressPort p)
      (hwaits : (s.egressPort p).pendingSched = true → ∃ b : Cls, (s.discardHeads p 0).queue p b ≠ []) :=
    State.scan_behind hphase h hzero (fun c hc => hfresh c (List.mem_cons_of_mem _ hc)) hring hwaits
  by_cases hwaits : ∃ b : Cls, (s.discardHeads p 0).queue p b ≠ []
  · obtain ⟨b, hb⟩ := hwaits
    exact hstands (State.discardHeads_egressPort_of_waiting hb) fun _ => ⟨b, hb⟩
  have hempty : ∀ b : Cls, (s.discardHeads p 0).queue p b = [] := fun b => by_contra fun hb => hwaits ⟨b, hb⟩
  by_cases hpend : (s.egressPort p).pendingSched = true
  case neg =>
    refine hstands ?_ fun e => absurd e hpend
    rw [State.discardHeads_egressPort]
    split
    · rfl
    · exact if_neg fun e => hpend e.1
  have hothers (c : Cls) (hc : s.queue p c ≠ []) : c = 0 := by
    by_contra h0
    have := hempty c
    rw [hqueue, if_neg h0] at this
    exact hc this
  have hstale : s.staleHeads p 0 ≠ [] := fun e => by
    obtain ⟨b, hb⟩ := hsome
    have := s.queue_eq_heads p 0
    rw [e, hzero] at this
    exact hb (hothers b hb ▸ this)
  have hring : (s.discardHeads p 0).egressPort p =
      { s.egressPort p with
        schedule := s.scheduleProfile (s.portEntry p).schedProfile, pendingSched := false, phase := 0 } := by
    rw [State.discardHeads_egressPort, if_neg hstale]
    exact if_pos ⟨hpend, hempty⟩
  obtain ⟨hnone, hrest, hend⟩ := State.scan_empty 64 (s.discardHeads p 0) hempty (by rw [hring]; show 0 < 64; decide)
    (by rw [hring]) (by rw [hring])
  have hcov (l : List Cls) (c : Cls) (hc : s.queue p c ≠ []) : c ∈ 0 :: l := hothers c hc ▸ List.mem_cons_self
  refine ⟨hnone, fun c => ?_, ?_, ?_⟩
  · rw [hrest.queue, hempty]
    split
    · rfl
    · by_contra hne
      exact ‹c ∉ _› (hcov _ c fun e => hne e.symm)
  · rw [hend, hring]
    exact (State.scannedThrough_some (i := 0) hpend (hcov _) (by decide) (by omega) (hcov _) fun j hj => absurd hj (by omega)).symm
  · have hnil : s.discards p (s.classesAhead p 64).eraseDups = [] := List.flatMap_eq_nil_iff.2 fun c hc => by
      have h0 : c ≠ 0 := fun e => s.zero_notMem_classesAhead p _ (e ▸ List.mem_eraseDups.1 hc)
      have hq : s.queue p c = [] := by_contra fun hne => h0 (hothers c hne)
      unfold State.staleHeads
      rw [hq]
      rfl
    rw [show (0 : Cls) :: (s.classesAhead p 64).eraseDups = [0] ++ (s.classesAhead p 64).eraseDups from rfl, State.discards_append,
      hnil, List.append_nil]
    exact hrest

end

/-! ## The attempt counted -/

/-- The state once one of the attempts called for has been counted off. -/
def State.counted (s : State) (p : Port) : State := s.setEgressPort p { s.egressPort p with owed := (s.egressPort p).owed - 1 }

section
variable {s u : State} {p : Port}

theorem State.counted_egressPort (q : Port) : (s.counted p).egressPort q =
    if q = p then { s.egressPort p with owed := (s.egressPort p).owed - 1 } else s.egressPort q :=
  State.setEgressPort_egressPort ..

theorem State.counted_ringOnly (s : State) (p : Port) : RingOnly p s (s.counted p) := .setEgressPort s p _

theorem State.counted_phaseAhead (j : Nat) : (s.counted p).phaseAhead p j = s.phaseAhead p j := by
  unfold State.phaseAhead
  rw [State.counted_egressPort, if_pos rfl]
  rfl

theorem State.counted_classesAhead (n : Nat) : (s.counted p).classesAhead p n = s.classesAhead p n := by
  unfold State.classesAhead
  simp only [State.counted_phaseAhead]

theorem State.counted_advanced (n : Nat) :
    (s.counted p).advanced p n = { s.advanced p n with owed := (s.egressPort p).owed - 1 } := by
  unfold State.advanced
  rw [State.counted_egressPort, if_pos rfl]
  split <;> rfl

theorem State.counted_eligible : (s.counted p).eligible p = s.eligible p := by
  unfold State.eligible State.postedCount
  rw [State.counted_egressPort, if_pos rfl]
  rfl

theorem State.counted_scannedThrough (order : List Cls) :
    (s.counted p).scannedThrough p order = { s.scannedThrough p order with owed := (s.egressPort p).owed - 1 } := by
  have hq (c : Cls) : (s.counted p).queue p c = s.queue p c := rfl
  have hs : (s.counted p).scheduleProfile ((s.counted p).portEntry p).schedProfile =
      s.scheduleProfile (s.portEntry p).schedProfile := rfl
  unfold State.scannedThrough
  simp only [State.counted_egressPort, State.counted_classesAhead, State.counted_advanced, if_true, hq, hs]
  split
  · generalize List.find? _ _ = o
    cases o <;> rfl
  · rfl

theorem State.counted_freshQueue (c : Cls) : (s.counted p).freshQueue p c = s.freshQueue p c := rfl
theorem State.counted_discards (l : List Cls) : (s.counted p).discards p l = s.discards p l := rfl

theorem State.counted_apart {l : List Cls} (h : s.Apart p l) : (s.counted p).Apart p l := ⟨h.once, h.other⟩

/-- What an attempt has discarded, with the report of the cells freed and the refill run behind it (R4, R17). -/
structure Discards (s : State) (p : Port) (d : List (Cls × Nat)) (v : State) : Prop where
  losses : Losses s v (d.map fun x => (x.2, .stale))
  outside : s.sameOutside [.cells, .admission, .queues, .failover, .acct] v
  failover : v.failover =
    { s.failover with walk := s.failover.walk.map fun v => d.foldl (fun v x => v.forget p x.1 x.2) v }
  others : ∀ q : Port, q ≠ p → v.egressPort q = s.egressPort q
  otherQueues : ∀ q : Port, q ≠ p → ∀ c : Cls, v.queue q c = s.queue q c
  nothing : d = [] → v.queues.queues = s.queues.queues ∧ s.sameOutside [.queues] v

theorem Discards.of_ringOnly {d : List (Cls × Nat)} (hd : s.discardable p (d.map (·.2)))
    (h : RingOnly p ((s.counted p).discardEach p d) u) : Discards s p d u := by
  have hring := ((State.counted_ringOnly s p).discardEach d).trans h
  have hblocks : u.cells = (s.discardEach p d).cells ∧ u.admission = (s.discardEach p d).admission ∧
      u.acct = (s.discardEach p d).acct ∧ u.failover = (s.discardEach p d).failover := by
    rw [hring.eq]; exact ⟨rfl, rfl, rfl, rfl⟩
  obtain ⟨hcells, hadm, hacct, hfail⟩ := hblocks
  refine ⟨(State.discardEach_losses s p d hd).of_blocks hcells hadm hacct,
    (s.discardEach_outside p d).andThen hring.outside, hfail.trans (State.discardEach_failover s p d), fun q hq => ?_,
    fun q hq c => ?_, fun hnil => ?_⟩
  · rw [hring.others q hq]
    clear hring hcells hadm hacct hfail h hd
    induction d generalizing s with
    | nil => rfl
    | cons x d ih => rw [State.discardEach_cons, ih, State.discard_egressPort, if_neg hq]
  · rw [hring.queue, State.discardEach_queue_of_ne _ _ _ (.inl hq)]
  · subst hnil
    exact ⟨hring.queues, hring.outside⟩

theorem Discards.agrees {d : List (Cls × Nat)} (h : Discards s p d u) :
    Agrees (s.freed ((d.map (·.2)).flatMap s.freedByTag)) u := by
  have := h.losses.agrees h.outside (by decide)
  rw [List.flatMap_map] at this ⊢
  exact this

/-- The end of the frees of an attempt's discards keeps step with `State.settled` (R17). -/
theorem Discards.settled {d : List (Cls × Nat)} (h : Discards s p d u) :
    Agrees (s.settled ((d.map (·.2)).flatMap s.freedByTag)) (u.settle s.freeCount) :=
  Follows.settled h.agrees

theorem Discards.records {d : List (Cls × Nat)} {t base : State} (h : Discards s p d u) (hr : SameRecords u t) (ha : t.acct = u.acct)
    (hb : t.suppliesOf base) : s.discarded t base (d.map (·.2)) := by
  have hl := h.losses
  rw [show (d.map fun x => (x.2, RetireCause.stale)) = (d.map (·.2)).map fun j => (j, RetireCause.stale) by
    rw [List.map_map]; rfl] at hl
  exact hl.discarded hr ha hb

end

theorem State.execPostAttempt_of_owed {s : State} {p : Port} (h : 0 < (s.egressPort p).owed) :
    exec (.postAttempt p) s = .next ((s.counted p).attempt p).finish := by
  show execPostAttempt p s = _
  unfold execPostAttempt
  rw [if_neg (by omega)]
  rfl

theorem Gathers.settle {r s : State} (h : Gathers r s) (n : Nat) : Gathers r (s.settle n) := by
  unfold State.settle; split; exacts [h, h.report.refill]

theorem State.queue_congr {s t : State} (h : t.queues = s.queues) (p : Port) (c : Cls) : t.queue p c = s.queue p c := by
  unfold State.queue; rw [h]

theorem State.ring_congr {s t : State} (h : t.queues = s.queues) (p : Port) : t.egressPort p = s.egressPort p :=
  egressPort_congr (congrArg QueueManager.ports h) p

theorem State.settle_of_eq {s : State} {n : Nat} (h : s.freeCount = n) : s.settle n = s := if_pos h

/-- Settles O20. -/
theorem attemptsThatPostNothing : Obligations.AttemptsThatPostNothing := by
  intro p s hq howed
  refine ⟨fun hel => ?_, fun order d tags base hel hphase horder hfresh hd htags hdisc hbase => ?_⟩
  · rw [State.execPostAttempt_of_owed howed]
    unfold State.attempt
    rw [State.counted_eligible, if_neg (by rw [hel]; decide)]
    exact congrArg Host.Outcome.next (finish_of_quiet _ hq)
  · have hap : s.Apart p (0 :: s.classesAhead p 64) := by
      have hap := State.apart_of_discardable (l := order) (by rw [← hd, ← htags]; exact hdisc) fun c hc j hj => by
        rw [hfresh c hc] at hj; cases hj
      refine hap.mono fun c hc => ?_
      rw [horder]
      rcases List.mem_cons.1 hc with e | hc
      · exact e ▸ List.mem_cons_self
      · exact List.mem_cons_of_mem _ (List.mem_eraseDups.2 hc)
    have hsome := ((s.eligible_iff p).1 hel).2.2.2
    obtain ⟨hnone, hqueue, hring, hrest⟩ := State.pick_through (s := s.counted p) (p := p)
      (by rw [State.counted_egressPort, if_pos rfl]; exact hphase)
      (by rw [State.counted_classesAhead]; exact State.counted_apart hap) hsome
      (by
        rw [State.counted_classesAhead]
        intro c hc
        refine hfresh c ?_
        rw [horder]
        rcases List.mem_cons.1 hc with e | hc
        · exact e ▸ List.mem_cons_self
        · exact List.mem_cons_of_mem _ (List.mem_eraseDups.2 hc))
    rw [State.counted_classesAhead, ← horder] at hqueue hring hrest
    rw [State.counted_discards, ← hd] at hrest
    have hdis : Discards s p d ((s.counted p).pick p).2 := .of_ringOnly (htags ▸ hdisc) hrest
    have hexec : exec (.postAttempt p) s = .next ((((s.counted p).pick p).2.settle s.freeCount).finish) := by
      rw [State.execPostAttempt_of_owed howed]
      unfold State.attempt
      rw [State.counted_eligible, if_pos hel, hnone]
      rfl
    have hfol := hdis.settled
    rw [← htags, ← hbase] at hfol
    generalize ((s.counted p).pick p).2 = u at hqueue hring hdis hexec hfol
    have hout := State.settle_outside u s.freeCount
    have hsame := (SameRecords.refl u).settle s.freeCount
    have hnothing (hn : tags = []) : u.settle s.freeCount = u ∧ d = [] := by
      have hdn : d = [] := List.map_eq_nil_iff.1 (htags ▸ hn)
      refine ⟨State.settle_of_eq ?_, hdn⟩
      have := hdis.agrees.freeCount
      rw [hdn] at this
      exact this
    have hgath : Gathers s base := by rw [hbase]; exact (Gathers.refl s).settled _
    have hsent : (u.settle s.freeCount).bus.sent = s.bus.sent := by
      rw [((Gathers.refl u).settle _).sent, hdis.outside.bus]
    refine ⟨_, hexec, ?_, fun c => ?_, fun r hr => ⟨?_, fun c => ?_⟩, ?_, fun j hj => ?_, ?_, ?_, fun hn => ?_, ?_⟩
    · exact (State.ring_congr hout.queues p).trans (hring.trans (State.counted_scannedThrough order))
    · exact (State.queue_congr hout.queues p c).trans (hqueue c)
    · exact (State.ring_congr hout.queues r).trans (hdis.others r hr)
    · exact (State.queue_congr hout.queues r c).trans (hdis.otherQueues r hr c)
    · rw [htags]
      exact hdis.records (hsame.trans ⟨rfl, rfl, rfl, rfl, rfl, rfl⟩) hout.acct hfol.suppliesOf
    · refine (hsame.copy j).trans ?_
      rw [hdis.losses.copy, if_neg]
      rw [List.map_map]
      rw [htags] at hj
      exact hj
    · exact hout.failover.trans hdis.failover
    · exact hfol.finish_delivers hq hgath hsent
    · obtain ⟨he, hdn⟩ := hnothing hn
      rw [he]
      obtain ⟨h1, h2⟩ := hdis.nothing hdn
      rw [finish_of_quiet u (by unfold State.quiet; rw [h2.bus]; exact hq)]
      exact ⟨h1, h2⟩
    · exact ((hdis.outside.mono (by decide)).andThen hout).andThen (State.finish_outside _)

end Sys2Proof.Machine
end

section
/-! A post attempt that posts (O21). -/
namespace Sys2Proof.Machine

/-! ## The post -/

section
variable (s : State) (p : Port) (tag : Nat) (k : Copy) (f : Frame)

/-- The post before the port looks whether its queues are empty (R104 steps 1 to 5). -/
def State.filled : State :=
  let s1 := (s.dequeue p k.cls tag).forgetInWalk p k.cls tag
  let s2 := s1.setCopy tag { k with state := .posted }
  let s3 := s2.emit (egressOffset p (s.egressPort p).nextWrite) (descriptorBytes tag k f (s.egressPort p).lap)
  let s4 := s3.setEgressPort p ((s.egressPort p).fill tag)
  if s.postedCount p = 0 then s4.startStall p else s4

theorem State.post_filled : s.post p tag k f = ((s.filled p tag k f).adoptIfEmpty p).owe p := rfl

theorem State.filled_eq :
    s.filled p tag k f =
      { s with
        cells := { s.cells with copies := s.cells.copies.put tag { k with state := .posted } }
        queues := (s.filled p tag k f).queues
        live := (s.filled p tag k f).live
        failover := { s.failover with walk := s.failover.walk.map fun v => v.forget p k.cls tag }
        bus := (s.emit (egressOffset p (s.egressPort p).nextWrite) (descriptorBytes tag k f (s.egressPort p).lap)).bus } := by
  unfold State.filled
  dsimp only
  split <;> rfl

theorem State.filled_queue (q : Port) (b : Cls) :
    (s.filled p tag k f).queue q b = if q = p ∧ b = k.cls then (s.queue p k.cls).erase tag else s.queue q b := by
  have h : (s.filled p tag k f).queue q b = (s.dequeue p k.cls tag).queue q b := by
    unfold State.filled
    dsimp only
    split <;> rfl
  rw [h, State.dequeue, State.setQueue_queue]

theorem State.filled_egressPort (q : Port) :
    (s.filled p tag k f).egressPort q = if q = p then (s.egressPort p).fill tag else s.egressPort q := by
  unfold State.filled
  dsimp only
  split <;> exact State.setEgressPort_egressPort ..

theorem State.filled_livePort (q : Port) :
    (s.filled p tag k f).livePort q =
      if q = p ∧ s.postedCount p = 0 then { s.livePort p with stall := some (s.expiry (s.portEntry p).stall) } else s.livePort q := by
  unfold State.filled
  dsimp only
  by_cases h : s.postedCount p = 0
  · rw [if_pos h]
    refine (State.setLivePort_livePort ..).trans ?_
    by_cases hq : q = p
    · rw [if_pos hq, if_pos ⟨hq, h⟩]; rfl
    · rw [if_neg hq, if_neg fun e => hq e.1]; rfl
  · rw [if_neg h, if_neg fun e => h e.2]
    rfl

/-- The queues behind a post: the copy has left its own (R104 step 1). -/
theorem State.post_queue (q : Port) (b : Cls) :
    (s.post p tag k f).queue q b = if q = p ∧ b = k.cls then (s.queue p k.cls).erase tag else s.queue q b := by
  rw [← State.filled_queue s p tag k f]
  exact State.adoptIfEmpty_queue _ p q b

/-- The ring behind a post: its slot filled, a pending schedule adopted on empty queues, a further attempt called for. -/
theorem State.post_egressPort (q : Port) :
    (s.post p tag k f).egressPort q =
      if q = p then
        (if ((s.egressPort p).fill tag).pendingSched = true ∧ ∀ b : Cls, (s.post p tag k f).queue p b = [] then
          { (s.egressPort p).fill tag with
            schedule := s.scheduleProfile (s.portEntry p).schedProfile, pendingSched := false, phase := 0
            owed := (s.egressPort p).owed + 1 }
        else { (s.egressPort p).fill tag with owed := (s.egressPort p).owed + 1 })
      else s.egressPort q := by
  have hqueue (b : Cls) : (s.post p tag k f).queue p b = (s.filled p tag k f).queue p b := State.adoptIfEmpty_queue _ p p b
  have ht : (s.filled p tag k f).tables = s.tables := by rw [State.filled_eq]
  simp only [hqueue]
  rw [State.post_filled]
  refine (State.setEgressPort_egressPort ..).trans ?_
  by_cases hq : q = p
  · rw [if_pos hq, if_pos hq, State.adoptIfEmpty_egressPort, if_pos rfl]
    unfold State.adoptedIf
    rw [State.filled_egressPort, if_pos rfl, State.scheduleProfile_congr ht]
    split <;> rfl
  · rw [if_neg hq, if_neg hq, State.adoptIfEmpty_egressPort, if_neg hq, State.filled_egressPort, if_neg hq]

theorem State.post_eq :
    s.post p tag k f =
      { s with
        cells := { s.cells with copies := s.cells.copies.put tag { k with state := .posted } }
        queues := (s.post p tag k f).queues
        live := (s.filled p tag k f).live
        failover := { s.failover with walk := s.failover.walk.map fun v => v.forget p k.cls tag }
        bus := (s.emit (egressOffset p (s.egressPort p).nextWrite) (descriptorBytes tag k f (s.egressPort p).lap)).bus } := by
  have h : s.post p tag k f = { s.filled p tag k f with queues := (s.post p tag k f).queues } := by
    rw [State.post_filled]
    unfold State.adoptIfEmpty
    split <;> rfl
  rw [h, State.filled_eq]

theorem State.post_outside : s.sameOutside [.cells, .queues, .live, .failover, .bus] (s.post p tag k f) := by
  rw [State.post_eq]
  simp [State.sameOutside]

theorem State.post_agrees :
    Agrees (s.emit (egressOffset p (s.egressPort p).nextWrite) (descriptorBytes tag k f (s.egressPort p).lap)) (s.post p tag k f) := by
  have hlive : (s.filled p tag k f).live.timebase = s.live.timebase := by
    unfold State.filled
    dsimp only
    split <;> rfl
  rw [State.post_eq]
  exact .of_eq rfl rfl rfl hlive rfl rfl rfl rfl rfl

end

/-! ## What the attempt leaves to the post -/

section
variable {s : State} {p : Port}

/-- What the attempt chooses, with the ring and the queues behind its discards. -/
structure Chosen (s : State) (p : Port) (c : Cls) (ahead tag : Nat) (rest : List Nat) (order : List Cls) (v : State) : Prop where
  choice : ((s.counted p).pick p).1 = some tag
  queue : ∀ b : Cls, v.queue p b = if b = c then tag :: rest else if b ∈ order then [] else s.queue p b
  ring : v.egressPort p = { s.advanced p ahead with owed := (s.egressPort p).owed - 1 }
  discards : Discards s p (s.discards p order) v

theorem Chosen.of_strict {tag : Nat} {rest : List Nat} (hphase : (s.egressPort p).phase < 64)
    (hdisc : s.discardable p ((s.discards p [0]).map (·.2))) (hap : s.Apart p [0]) (hf : s.freshQueue p 0 = tag :: rest) :
    Chosen s p 0 0 tag rest [0] ((s.counted p).pick p).2 := by
  have hpick := State.pick_strict (s := s.counted p) (p := p) (hap.once 0 List.mem_cons_self) hf
  have hqueue (b : Cls) : ((s.counted p).discardHeads p 0).queue p b = if b = 0 then tag :: rest else s.queue p b := by
    rw [State.discardHeads_queue, State.counted_freshQueue, hf]
    simp only [true_and]
    rfl
  rw [hpick]
  refine ⟨by rw [hpick], fun b => ?_, ?_, .of_ringOnly hdisc (.refl _)⟩
  · rw [hqueue]
    by_cases hb : b = 0
    · rw [if_pos hb, if_pos hb]
    · rw [if_neg hb, if_neg hb, if_neg fun h => hb (List.mem_singleton.1 h)]
  · rw [State.discardHeads_egressPort_of_waiting (b := 0) (by rw [hqueue, if_pos rfl]; exact List.cons_ne_nil _ _),
      State.counted_egressPort, if_pos rfl, State.advanced_zero hphase]

theorem Chosen.of_scan {c : Cls} {i tag : Nat} {rest : List Nat} (hphase : (s.egressPort p).phase < 64)
    (hdisc : s.discardable p ((s.discards p (0 :: (s.classesAhead p (i + 1)).eraseDups)).map (·.2)))
    (hap : s.Apart p (0 :: s.classesAhead p (i + 1))) (hi : i < 64) (hc : (s.phaseAhead p i).cls? = some c)
    (hzero : s.freshQueue p 0 = []) (hf : s.freshQueue p c = tag :: rest)
    (hfresh : ∀ j < i, ∀ b, (s.phaseAhead p j).cls? = some b → s.freshQueue p b = []) :
    Chosen s p c (i + 1) tag rest (0 :: (s.classesAhead p (i + 1)).eraseDups) ((s.counted p).pick p).2 := by
  obtain ⟨hpick, hqueue, hring, hrest⟩ := State.pick_scanned (s := s.counted p) (p := p) (i := i) (c := c)
    (by rw [State.counted_egressPort, if_pos rfl]; exact hphase)
    (by rw [State.counted_classesAhead]; exact State.counted_apart hap) hi (by rw [State.counted_phaseAhead]; exact hc) hzero
    (by rw [State.counted_freshQueue, hf]; exact List.cons_ne_nil _ _)
    fun j hj b hb => hfresh j hj b (by rw [State.counted_phaseAhead] at hb; exact hb)
  rw [State.counted_freshQueue, hf] at hpick hqueue
  rw [State.counted_classesAhead] at hqueue hrest
  exact ⟨hpick, hqueue, hring.trans (State.counted_advanced _), .of_ringOnly hdisc hrest⟩

end

/-- What `State.discarded` says of the frames, the link map and the counts does not read the other copies. -/
theorem State.discarded_of_copies {s t u base : State} {tags : List Nat} (h : s.discarded u base tags)
    (hcopy : ∀ j ∈ tags, t.copy j = u.copy j) (hcells : t.cells = { u.cells with copies := t.cells.copies })
    (hadm : t.admission = u.admission) (hacct : t.acct = u.acct) : s.discarded t base tags := by
  have hframe (j : Nat) : t.frame j = u.frame j := by unfold State.frame; rw [hcells]
  have hheld (m : Tenant) : t.heldCells m = u.heldCells m := by unfold State.heldCells; rw [hadm]
  obtain ⟨h1, h2, h3, h4, h5, h6, h7, h8, h9, h10⟩ := h
  exact ⟨fun j hj => ⟨(hcopy j hj).trans (h1 j hj).1, fun k hk f hf => (hframe _).trans ((h1 j hj).2 k hk f hf)⟩,
    fun j hj => (hframe j).trans (h2 j hj), fun c => by rw [hcells]; exact h3 c, fun m => (hheld m).trans (h4 m),
    by rw [hadm, h5], by rw [hcells]; exact h6, by rw [hacct, h7], by rw [hcells]; exact h8, by rw [hcells]; exact h9,
    by rw [hadm, h10]⟩

/-- Settles O21. -/
theorem strictClassIsPosted : Obligations.StrictClassIsPosted := by
  intro p s c ahead i tag rest k f e order d tags base hq howed hel hf hk hcls hfr hphase hwhere hd htags hdisc hapart hbase he
  have htag : tag ∉ tags := fun hin => hapart tag hin (by rw [hk]; rfl)
  have hfreshTag (hnil : ∀ b ∈ order, b ≠ c → s.freshQueue p b = []) :
      ∀ b ∈ order, ∀ j, (s.freshQueue p b).head? = some j → j ∉ (s.discards p order).map (·.2) := fun b hb j hj => by
    rw [← hd, ← htags]
    by_cases hbc : b = c
    · rw [hbc, hf] at hj
      cases hj
      exact htag
    · rw [hnil b hb hbc] at hj; cases hj
  rw [hd] at htags
  have hchosen : Chosen s p c ahead tag rest order ((s.counted p).pick p).2 := by
    by_cases h0 : c = 0
    · rw [if_pos h0] at hwhere
      obtain ⟨rfl, rfl⟩ := hwhere
      subst h0
      refine .of_strict hphase (htags ▸ hdisc) (State.apart_of_discardable (htags ▸ hdisc)
        (hfreshTag fun b hb hne => absurd (List.mem_singleton.1 hb) hne)) hf
    · rw [if_neg h0] at hwhere
      obtain ⟨rfl, hi, rfl, hzero, hc, hbefore⟩ := hwhere
      have hnil : ∀ b ∈ 0 :: (s.classesAhead p (i + 1)).eraseDups, b ≠ c → s.freshQueue p b = [] := fun b hb hne => by
        rcases List.mem_cons.1 hb with e | hb
        · exact e ▸ hzero
        · obtain ⟨j, hj, hcl⟩ := State.mem_classesAhead.1 (List.mem_eraseDups.1 hb)
          refine hbefore j (Nat.lt_of_le_of_ne (by omega) fun e => hne ?_) b hcl
          rw [e, hc] at hcl
          exact (Option.some.inj hcl).symm
      have hap := State.apart_of_discardable (htags ▸ hdisc) (hfreshTag hnil)
      refine .of_scan hphase (htags ▸ hdisc) (hap.mono fun b hb => ?_) hi hc hzero hf hbefore
      rcases List.mem_cons.1 hb with e | hb
      · exact e ▸ List.mem_cons_self
      · exact List.mem_cons_of_mem _ (List.mem_eraseDups.2 hb)
  obtain ⟨hpick, hqueue, hring, hdis⟩ := hchosen
  rw [← hd] at htags hdis
  have hexec : exec (.postAttempt p) s =
      .next (((((s.counted p).pick p).2.settle s.freeCount).postChosen p (some tag)).finish) := by
    rw [State.execPostAttempt_of_owed howed]
    unfold State.attempt
    rw [State.counted_eligible, if_pos hel, hpick]
    rfl
  have hfol := hdis.settled
  generalize ((s.counted p).pick p).2 = u at hqueue hring hdis hexec hfol
  have hout := State.settle_outside u s.freeCount
  have hsame := (SameRecords.refl u).settle s.freeCount
  have hnothing (hn : tags = []) : u.settle s.freeCount = u ∧ d = [] := by
    have hdn : d = [] := List.map_eq_nil_iff.1 (htags ▸ hn)
    refine ⟨State.settle_of_eq ?_, hdn⟩
    have := hdis.agrees.freeCount
    rw [hdn] at this
    exact this
  generalize hw : u.settle s.freeCount = w at *
  have hwcopy (j : Nat) : w.copy j = if j ∈ tags then none else s.copy j := by
    rw [hsame.copy, hdis.losses.copy, List.map_map, htags]; rfl
  have hwk : w.copy tag = some k := by rw [hwcopy, if_neg htag, hk]
  have hwf : w.frame k.frame = some f := by
    rw [hsame.frame, hdis.losses.otherFrames k.frame fun x hx => ?_, hfr]
    obtain ⟨y, hy, rfl⟩ := List.mem_map.1 hx
    exact hapart y.2 (htags ▸ List.mem_map_of_mem hy)
  have hpost : w.postChosen p (some tag) = w.post p tag k f := by
    show (match w.copy tag with
      | none => w
      | some k => match w.frame k.frame with
        | none => w
        | some f => w.post p tag k f) = _
    rw [hwk]
    dsimp only
    rw [hwf]
  rw [hpost] at hexec
  have hwring : w.egressPort p = { s.advanced p ahead with owed := (s.egressPort p).owed - 1 } :=
    (State.ring_congr hout.queues p).trans hring
  have hadv : (s.advanced p ahead).nextWrite = (s.egressPort p).nextWrite ∧ (s.advanced p ahead).lap = (s.egressPort p).lap ∧
      (s.advanced p ahead).slots = (s.egressPort p).slots ∧ (s.advanced p ahead).owed = (s.egressPort p).owed := by
    unfold State.advanced
    split <;> exact ⟨rfl, rfl, rfl, rfl⟩
  obtain ⟨hnext, hlap, hslots, howedAdv⟩ := hadv
  have hwnext : (w.egressPort p).nextWrite = (s.egressPort p).nextWrite := by rw [hwring]; exact hnext
  have hwlap : (w.egressPort p).lap = (s.egressPort p).lap := by rw [hwring]; exact hlap
  have hbaseFol : Agrees base (w.post p tag k f) := by
    have h1 := (hfol.emit (egressOffset p (s.egressPort p).nextWrite) (descriptorBytes tag k f (s.egressPort p).lap))
    have h2 := State.post_agrees w p tag k f
    rw [hwnext, hwlap] at h2
    rw [hbase, htags]
    exact h1.agrees h2
  have hgath : Gathers s base := by rw [hbase]; exact ((Gathers.refl s).settled _).emit _ _
  have hwbus : w.bus.sent = s.bus.sent := by
    rw [← hw, ((Gathers.refl u).settle _).sent, hdis.outside.bus]
  have hwqueue (q : Port) (b : Cls) : w.queue q b = u.queue q b := State.queue_congr hout.queues q b
  have hpqueue (b : Cls) : (w.post p tag k f).queue p b = if b = c then rest else if b ∈ order then [] else s.queue p b := by
    rw [State.post_queue, hcls, hwqueue, hwqueue, hqueue, hqueue, if_pos rfl, List.erase_cons_head]
    by_cases hb : b = c
    · rw [if_pos ⟨rfl, hb⟩, if_pos hb]
    · rw [if_neg fun e => hb e.2, if_neg hb, if_neg hb]
  have hwholeOut : s.sameOutside [.cells, .admission, .queues, .failover, .acct, .notices, .bus] w := by
    rw [← hw]; exact (hdis.outside.mono (by decide)).andThen (State.settle_outside u _)
  have hfill : { (w.egressPort p).fill tag with owed := (w.egressPort p).owed + 1 } = e := by
    rw [he, hwring]
    unfold EgressPort.fill nextEgressSlot
    dsimp only
    rw [hnext, hlap, hslots, howedAdv, Nat.sub_add_cancel howed]
    split <;> rfl
  have hposted : w.postedCount p = s.postedCount p := by
    unfold State.postedCount
    rw [hwring]
    exact congrArg List.length hslots
  have hexpiry : w.expiry (w.portEntry p).stall = s.expiry (s.portEntry p).stall := by
    unfold State.expiry State.now State.portEntry
    rw [hwholeOut.live, hwholeOut.tables]
  have hwlive (q : Port) : w.livePort q = s.livePort q := by unfold State.livePort; rw [hwholeOut.live]
  have hplive (q : Port) : (w.post p tag k f).livePort q = (w.filled p tag k f).livePort q := by
    rw [State.post_eq]; rfl
  refine ⟨_, hexec, ?_, fun j hj hjt => ?_, hpqueue, ?_, ?_, fun r hr => ⟨?_, ?_, fun b => ?_⟩, ?_, ?_, ?_, fun hn => ?_, ?_⟩
  · show (w.post p tag k f).copy tag = _
    rw [State.post_eq]
    exact (Table.find_put ..).trans (if_pos rfl)
  · show (w.post p tag k f).copy j = _
    rw [State.post_eq]
    exact ((Table.find_put ..).trans (if_neg hj)).trans ((hwcopy j).trans (if_neg hjt))
  · show (w.post p tag k f).egressPort p = _
    rw [State.post_egressPort, if_pos rfl]
    have hsched : w.scheduleProfile (w.portEntry p).schedProfile = s.scheduleProfile (s.portEntry p).schedProfile :=
      State.scheduleProfile_congr hwholeOut.tables
    have hpend : ((w.egressPort p).fill tag).pendingSched = e.pendingSched := by rw [← hfill]
    rw [hpend, hsched, ← hfill]
    rfl
  · show (w.post p tag k f).livePort p = _
    rw [hplive, State.filled_livePort, hposted, hexpiry, hwlive]
    by_cases h0 : s.postedCount p = 0
    · rw [if_pos ⟨rfl, h0⟩, if_pos h0]
    · rw [if_neg fun e => h0 e.2, if_neg h0]
  · show (w.post p tag k f).egressPort r = _
    rw [State.post_egressPort, if_neg hr, State.ring_congr hout.queues, hdis.others r hr]
  · show (w.post p tag k f).livePort r = _
    rw [hplive, State.filled_livePort, if_neg fun e => hr e.1, hwlive]
  · show (w.post p tag k f).queue r b = _
    rw [State.post_queue, if_neg fun e => hr e.1, hwqueue, hdis.otherQueues r hr]
  · have hrec : s.discarded w base tags := by
      have := hdis.records hsame hout.acct (t := w) (base := base) (by
        rw [hbase, htags]
        exact hfol.suppliesOf)
      rwa [← htags] at this
    refine State.discarded_of_copies hrec (fun j hj => ?_) ?_ ?_ ?_
    · show (w.post p tag k f).copy j = _
      rw [State.post_eq]
      exact (Table.find_put ..).trans (if_neg fun e : j = tag => htag (e ▸ hj))
    · show (w.post p tag k f).cells = { w.cells with copies := (w.post p tag k f).cells.copies }
      rw [State.post_eq]
    · exact (State.post_outside w p tag k f).admission
    · exact (State.post_outside w p tag k f).acct
  · exact hbaseFol.finish_delivers hq hgath ((by rw [State.post_eq]; rfl : (w.post p tag k f).bus.sent = w.bus.sent).trans hwbus)
  · show (w.post p tag k f).failover = _
    rw [State.post_eq]
    dsimp only
    rw [hout.failover, hdis.failover, hcls]
    cases s.failover.walk <;> rfl
  · obtain ⟨he', hdn⟩ := hnothing hn
    obtain ⟨-, h2⟩ := hdis.nothing hdn
    rw [← he'] at h2
    have hcells := h2.cells
    refine ⟨?_, ((h2.mono (by decide)).andThen (State.post_outside w p tag k f)).andThen (State.finish_outside _)⟩
    show (w.post p tag k f).cells = { s.cells with copies := (w.post p tag k f).cells.copies }
    rw [State.post_eq, ← hcells]
  · exact ((hwholeOut.mono (by decide)).andThen (State.post_outside w p tag k f)).andThen (State.finish_outside _)

end Sys2Proof.Machine
end

section
/-! The bounds of the model's loops (O60): each loop's turns are counted by a measure that every turn lowers. -/
namespace Sys2Proof.Machine

/-! ## A replication walk (R62) -/

/-- The passes that a list with `r` entries left can take, with lists of at most 16 entries nested `k` deep below it. -/
def passesFor : Nat → Nat → Nat
  | 0, r => r + 1
  | k + 1, r => r * (1 + passesFor k 16) + 1

theorem passesFor_pos (k r : Nat) : 0 < passesFor k r := by cases k <;> exact Nat.succ_pos _

theorem passesFor_mono (k : Nat) {a b : Nat} (h : a ≤ b) : passesFor k a ≤ passesFor k b := by
  cases k with
  | zero => exact Nat.succ_le_succ h
  | succ k => exact Nat.succ_le_succ (Nat.mul_le_mul_right _ h)

theorem passesFor_succ (k r : Nat) : passesFor (k + 1) (r + 1) = passesFor (k + 1) r + 1 + passesFor k 16 := by
  show (r + 1) * (1 + passesFor k 16) + 1 = r * (1 + passesFor k 16) + 1 + 1 + passesFor k 16
  rw [Nat.succ_mul]
  omega

theorem passesFor_lt (k r : Nat) : passesFor k r < passesFor k (r + 1) := by
  cases k with
  | zero => exact Nat.lt_succ_self _
  | succ k => rw [passesFor_succ]; omega

/-- The passes that a position and the lists it was reached from can still take. -/
def passesLeft : List WalkPos → Nat
  | [] => 0
  | t :: rest => passesFor (4 - rest.length) t.remaining + passesLeft rest

theorem passesLeft_singleton (t : WalkPos) : passesLeft [t] = passesFor 4 t.remaining := by
  simp only [passesLeft, List.length_nil, Nat.sub_zero, Nat.add_zero]

/-- The walker is in at most five lists, none of them longer than 16 entries. -/
structure RepWalk.Fits (x : RepWalk × State) : Prop where
  deep : x.1.stack.length ≤ 4
  lists : ∀ m : ListId, (x.2.repList m).count ≤ 16

theorem repCandidate_pos (f : Forming) (p : Port) (via : Option GroupId) (x : RepWalk × State) :
    (repCandidate f p via x).1.pos = x.1.pos ∧ (repCandidate f p via x).1.stack = x.1.stack := by
  unfold repCandidate
  split <;> exact ⟨rfl, rfl⟩

theorem repGroup_pos (f : Forming) (g : GroupId) (x : RepWalk × State) :
    (repGroup f g x).1.pos = x.1.pos ∧ (repGroup f g x).1.stack = x.1.stack := by
  unfold repGroup
  split
  · split <;> exact ⟨rfl, rfl⟩
  · split
    · exact ⟨rfl, rfl⟩
    · exact repCandidate_pos ..

/-- An entry leaves the walker where it is, or takes it one list deeper (R63). -/
theorem repEntry_pos (f : Forming) (l : ListId) (i : Nat) (x : RepWalk × State) :
    ((repEntry f l i x).1.pos = x.1.pos ∧ (repEntry f l i x).1.stack = x.1.stack) ∨
      x.1.stack.length < 4 ∧ (∃ m, (repEntry f l i x).1.pos = x.2.startOf m) ∧ (repEntry f l i x).1.stack = x.1.pos :: x.1.stack := by
  unfold repEntry
  dsimp only
  split
  · split
    exacts [.inl (repCandidate_pos ..), .inl ⟨rfl, rfl⟩]
  · split
    exacts [.inl (repGroup_pos ..), .inl ⟨rfl, rfl⟩]
  · split
    · unfold repSublist
      split
      case isTrue h => exact .inr ⟨h, ⟨_, rfl⟩, rfl⟩
      case isFalse =>
        split
        exacts [.inl ⟨rfl, rfl⟩, .inl ⟨rfl, rfl⟩]
    · exact .inl ⟨rfl, rfl⟩
  · exact .inl ⟨rfl, rfl⟩

/-- The walker once the next entry of its list has been taken (R62). -/
def RepWalk.taken (w : RepWalk) : RepWalk :=
  { w with pos := { w.pos with next := w.pos.next + 1, remaining := w.pos.remaining - 1 } }

theorem repPass_of_entry {f : Forming} {x : RepWalk × State} (h : x.1.pos.remaining ≠ 0) :
    repPass f x = some (repEntry f x.1.pos.list x.1.pos.next (x.1.taken, x.2)) := if_neg h

theorem repPass_of_end {f : Forming} {x y : RepWalk × State} (h : x.1.pos.remaining = 0) (hp : repPass f x = some y) :
    y.2 = x.2 ∧ x.1.stack = y.1.pos :: y.1.stack := by
  unfold repPass at hp
  dsimp only at hp
  rw [if_pos h] at hp
  split at hp
  · cases hp
  · next t rest hstack =>
    cases hp
    exact ⟨rfl, hstack⟩

/-- A pass leaves fewer passes to make. -/
theorem repPass_lowers {f : Forming} {x y : RepWalk × State} (h : RepWalk.Fits x) (hp : repPass f x = some y) :
    RepWalk.Fits y ∧ passesLeft (y.1.pos :: y.1.stack) < passesLeft (x.1.pos :: x.1.stack) := by
  obtain ⟨hdeep, hlists⟩ := h
  by_cases hzero : x.1.pos.remaining = 0
  · obtain ⟨hst, hstack⟩ := repPass_of_end hzero hp
    rw [hstack] at hdeep ⊢
    exact ⟨⟨Nat.le_of_succ_le hdeep, fun m => by rw [hst]; exact hlists m⟩, Nat.lt_add_of_pos_left (passesFor_pos _ _)⟩
  · rw [repPass_of_entry hzero] at hp
    obtain rfl := Option.some.inj hp
    obtain ⟨r, hr⟩ := Nat.exists_eq_succ_of_ne_zero hzero
    have hkeeps := (Keeps.repEntry f x.1.pos.list x.1.pos.next (x.1.taken, x.2) (Keeps.refl x.2)).tables
    have hsame : ∀ m : ListId,
        ((repEntry f x.1.pos.list x.1.pos.next (x.1.taken, x.2)).2.repList m).count ≤ 16 := fun m => by
      unfold State.repList
      rw [hkeeps]
      exact hlists m
    have htaken : x.1.taken.pos.remaining = r := by show x.1.pos.remaining - 1 = r; rw [hr, Nat.succ_sub_one]
    rcases repEntry_pos f x.1.pos.list x.1.pos.next (x.1.taken, x.2) with ⟨hpos, hstack⟩ | ⟨hlen, ⟨m, hpos⟩, hstack⟩
    · rw [hpos, hstack]
      refine ⟨⟨by rw [hstack]; exact hdeep, hsame⟩, ?_⟩
      show passesFor _ x.1.taken.pos.remaining + _ < passesFor _ x.1.pos.remaining + _
      rw [htaken, hr]
      exact Nat.add_lt_add_right (passesFor_lt _ r) _
    · rw [hpos, hstack]
      refine ⟨⟨by rw [hstack]; exact hlen, hsame⟩, ?_⟩
      have hlen' : x.1.stack.length < 4 := hlen
      obtain ⟨k, hk⟩ : ∃ k, 4 - x.1.stack.length = k + 1 := ⟨4 - x.1.stack.length - 1, by omega⟩
      have hk' : 4 - (x.1.stack.length + 1) = k := by omega
      have hmono := passesFor_mono k (hlists m)
      have hsucc := passesFor_succ k r
      show passesFor (4 - (x.1.stack.length + 1)) (x.2.repList m).count +
          (passesFor (4 - x.1.stack.length) x.1.taken.pos.remaining + passesLeft x.1.stack) <
        passesFor (4 - x.1.stack.length) x.1.pos.remaining + passesLeft x.1.stack
      rw [htaken, hk, hk', hr, hsucc]
      omega

/-- A walk is the same with any bound above the passes it can take. -/
theorem repWalk_bound (f : Forming) (n k : Nat) (x : RepWalk × State) (h : RepWalk.Fits x)
    (hn : passesLeft (x.1.pos :: x.1.stack) ≤ n) : repWalk f (n + k) x = repWalk f n x := by
  induction n generalizing x with
  | zero => exact absurd hn (Nat.not_le_of_lt (Nat.lt_of_lt_of_le (passesFor_pos _ _) (Nat.le_add_right _ _)))
  | succ n ih =>
    rw [Nat.succ_add]
    unfold repWalk
    cases hp : repPass f x with
    | none => rfl
    | some y =>
      obtain ⟨hfits, hlow⟩ := repPass_lowers h hp
      exact ih y hfits (by omega)

theorem walkPasses_enough {r : Nat} (h : r ≤ 16) : passesFor 4 r ≤ Config.walkPasses :=
  (passesFor_mono 4 h).trans (by decide)

/-! ## A walk step (R136) -/

theorem StepState.visit_cls (kind : WorkKind) (p : Port) (c : Cls) (tag : Nat) (x : StepState) :
    (x.visit kind p c tag).cls = x.cls := by
  unfold StepState.visit
  split
  · rfl
  · split <;> rfl

/-- A step makes at most its visits, and passes from each class to the next. -/
theorem walkVisits_bound (kind : WorkKind) (p : Port) (tails : List (Option Nat)) (m visits n : Nat) (x : StepState)
    (hm : visits + (4 - x.cls) < m) : walkVisits kind p tails (m + n) visits x = walkVisits kind p tails m visits x := by
  induction m generalizing visits x with
  | zero => omega
  | succ m ih =>
    rw [Nat.succ_add]
    unfold walkVisits
    by_cases hc : x.cls < 4
    · rw [dif_pos hc, dif_pos hc]
      dsimp only
      cases x.next? tails p ⟨x.cls, hc⟩ with
      | none => exact ih _ _ (by show _ + (4 - (x.cls + 1)) < m; omega)
      | some t =>
        dsimp only
        by_cases hv : visits = 0
        · rw [if_pos hv, if_pos hv]
        · rw [if_neg hv, if_neg hv]
          have hy := StepState.visit_cls kind p ⟨x.cls, hc⟩ t x
          split
          · refine ih _ _ ?_
            show _ + (4 - ((x.visit kind p ⟨x.cls, hc⟩ t).cls + 1)) < m
            omega
          · exact ih _ _ (by omega)
    · rw [dif_neg hc, dif_neg hc]

/-! ## The cells of a frame (R9) -/

/-- Each cell of a frame is put into the link map with the next cell's number, the last without one. -/
def linkEach : List Nat → Table (Option Nat) → Table (Option Nat)
  | [], m => m
  | c :: rest, m => linkEach rest (m.put c rest.head?)

theorem State.writeLinks_links (cells : List Nat) (s : State) : (State.writeLinks cells s).cells.links = linkEach cells s.cells.links := by
  induction cells generalizing s with
  | nil => rfl
  | cons c rest ih =>
    cases rest with
    | nil => rfl
    | cons d rest => exact ih _

theorem linkEach_find {cells : List Nat} {c : Nat} (m : Table (Option Nat)) (h : c ∉ cells) : (linkEach cells m).find c = m.find c := by
  induction cells generalizing m with
  | nil => rfl
  | cons d rest ih =>
    obtain ⟨hne, hrest⟩ := not_or.1 (mt List.mem_cons.2 h)
    exact (ih _ hrest).trans ((Table.find_put ..).trans (if_neg hne))

/-- The chain from a frame's first cell is its cells in frame order. -/
theorem linkedCells_linkEach {c : Nat} {rest : List Nat} (m : Table (Option Nat)) (n : Nat) (hnd : (c :: rest).Nodup)
    (hn : (c :: rest).length ≤ n) : linkedCells (linkEach (c :: rest) m) n c = c :: rest := by
  induction rest generalizing c m n with
  | nil =>
    obtain ⟨n, rfl⟩ : ∃ k, n = k + 1 := ⟨n - 1, by simp at hn; omega⟩
    have hc : (linkEach [c] m).find c = some none := Table.find_put_self ..
    unfold linkedCells
    rw [hc]
  | cons d rest ih =>
    obtain ⟨n, rfl⟩ : ∃ k, n = k + 1 := ⟨n - 1, by simp at hn; omega⟩
    obtain ⟨hc, hnd'⟩ := List.nodup_cons.1 hnd
    have hfind : (linkEach (c :: d :: rest) m).find c = some (some d) := (linkEach_find _ hc).trans (Table.find_put_self ..)
    unfold linkedCells
    rw [hfind]
    dsimp only
    exact congrArg (List.cons c) (ih _ _ hnd' (by simpa using hn))

theorem linkEach_found {cells : List Nat} (m : Table (Option Nat)) {c : Nat} (h : c ∈ cells) : (linkEach cells m).find c ≠ none := by
  induction cells generalizing m with
  | nil => cases h
  | cons d rest ih =>
    by_cases hr : c ∈ rest
    · exact ih _ hr
    · have hcd : c = d := (List.mem_cons.1 h).resolve_right hr
      have : (linkEach (d :: rest) m).find c = some rest.head? := by
        refine (linkEach_find _ hr).trans ?_
        rw [hcd]
        exact Table.find_put_self ..
      rw [this]
      exact Option.some_ne_none _

/-- Settles O60: each loop is the same with any bound above its measure. -/
theorem loopBoundsSuffice : Obligations.LoopBoundsSuffice := by
  refine ⟨fun s f l n hl => ?_, fun s p n => ⟨?_, ?_⟩, fun kind p tails x n => ?_, fun s n => ?_,
    fun s t cells n hne hnd _ ht => ?_⟩
  · refine repWalk_bound f _ n _ ⟨Nat.zero_le _, hl⟩ ?_
    show passesLeft [s.startOf l] ≤ _
    rw [passesLeft_singleton]
    exact walkPasses_enough (hl l)
  · exact State.strictPick_bound _ s _ (by omega) (by omega)
  · exact State.scanPick_bound _ 64 s _ (by omega) (by omega)
  · have hcls : 4 - x.cls ≤ 4 := Nat.sub_le ..
    exact walkVisits_bound kind p tails (Config.walkVisits + 5) Config.walkVisits n x (Nat.add_lt_add_left (Nat.lt_succ_of_le hcls) _)
  · have := s.admission.shed.code_lt
    exact State.reportFree_eq_of_code_lt (by omega) (by omega)
  · obtain ⟨c, rest, rfl⟩ := List.exists_cons_of_ne_nil hne
    have hlen := Table.length_le_of_found hnd fun x hx => linkEach_found s.cells.links hx
    rw [ht, State.writeLinks_links]
    exact linkedCells_linkEach _ _ hnd (Nat.le_add_right_of_le hlen)

end Sys2Proof.Machine
end

section
/-! The end of a completion (R110, R120, R123), and completions that retire their copy (O24). -/
namespace Sys2Proof.Machine

/-! ## Attempts called for -/

theorem nodup_eraseDups {α : Type} [BEq α] [LawfulBEq α] (l : List α) : l.eraseDups.Nodup := by
  match l with
  | [] => exact List.nodup_nil
  | a :: l =>
    rw [List.eraseDups_cons, List.nodup_cons, List.mem_eraseDups]
    exact ⟨by simp, nodup_eraseDups _⟩
termination_by l.length
decreasing_by exact Nat.lt_succ_of_le (List.length_filter_le _ _)

/-- Each port named is owed one attempt more (log entry 9). -/
theorem State.oweEach_egressPort (s : State) (l : List Port) (q : Port) :
    (s.oweEach l).egressPort q = { s.egressPort q with owed := (s.egressPort q).owed + if q ∈ l then 1 else 0 } := by
  have key (l : List Port) (s : State) (hnd : l.Nodup) :
      (l.foldl State.owe s).egressPort q = { s.egressPort q with owed := (s.egressPort q).owed + if q ∈ l then 1 else 0 } := by
    induction l generalizing s with
    | nil => rfl
    | cons r l ih =>
      obtain ⟨hr, hnd⟩ := List.nodup_cons.1 hnd
      have howe : (s.owe r).egressPort q = if q = r then { s.egressPort r with owed := (s.egressPort r).owed + 1 } else s.egressPort q :=
        State.setEgressPort_egressPort ..
      rw [List.foldl_cons, ih _ hnd, howe]
      by_cases hq : q = r
      · subst hq
        rw [if_pos rfl, if_neg hr, if_pos List.mem_cons_self]
      · rw [if_neg hq]
        simp only [List.mem_cons, hq, false_or]
  unfold State.oweEach
  rw [key _ _ (nodup_eraseDups l)]
  simp only [List.mem_eraseDups]

theorem State.oweEach_queues (s : State) (l : List Port) : (s.oweEach l).queues.queues = s.queues.queues := by
  unfold State.oweEach
  generalize l.eraseDups = m
  induction m generalizing s with
  | nil => rfl
  | cons p m ih => rw [List.foldl_cons, ih]; rfl

/-! ## A change of liveness state seen from the ends of its action -/

theorem LiveChange.liveAsks_of_groupStates {s s1 t : State} {p : Port} (hl : s1.liveness p = s.liveness p)
    (ht : s1.tables = s.tables) (hf : s1.failover.groupStates = s.failover.groupStates) (hk : s1.lookup = s.lookup)
    (cause : StateCause) : s1.liveAsks t p cause = s.liveAsks t p cause := by
  have hgs (g : GroupId) : s1.groupState g = s.groupState g := State.groupState_congr hf g
  unfold State.liveAsks State.groupAsks
  rw [hl, (State.offerFlush_congr hk _ _).1, State.groupsOf_congr ht]
  simp only [hgs]

theorem State.groupsFollow_of_groupStates {s s1 t : State} {p : Port} (hl : s1.liveness p = s.liveness p)
    (ht : s1.tables = s.tables) (hf : s1.failover.groupStates = s.failover.groupStates) (h : s1.groupsFollow t p) :
    s.groupsFollow t p := fun g => by
  have := h g
  rw [hl, State.groupsOf_congr ht, State.groupState_congr (s := s) (t := s1) hf] at this
  exact this

/-- The notices of a change read the port, its posted count and the groups of the state it leads to. -/
theorem State.liveAsks_of_end {s t u : State} {p : Port} (hp : t.livePort p = u.livePort p) (hn : t.postedCount p = u.postedCount p)
    (hg : ∀ g ∈ s.groupsOf p, t.groupState g = u.groupState g) (hu : ∀ g : GroupId, t.usable g = u.usable g)
    (he : ∀ g : GroupId, t.evacuatingMembers g = u.evacuatingMembers g) (cause : StateCause) :
    s.liveAsks t p cause = s.liveAsks u p cause := by
  have hl : t.liveness p = u.liveness p := by rw [← State.livePort_liveness, hp]; rfl
  unfold State.liveAsks
  rw [hl, hn, hp, State.groupAsks_congr hg (fun g _ => hu g) fun g _ => he g]

/-! ## The report to the liveness monitor -/

/-- What the liveness monitor makes of a port's entry at the report of its posted count (R110, R120, R123). -/
def State.reportedPort (s : State) (p : Port) : LivePort :=
  match s.liveness p with
  | .up => { s.livePort p with stall := if s.postedCount p = 0 then none else some (s.expiry (s.portEntry p).stall) }
  | .stalled => { s.livePort p with state := .trial, trial := some (s.expiry (s.portEntry p).trial) }
  | _ => s.livePort p

theorem State.completionReport_change (s : State) (p : Port) :
    LiveChange s (s.completionReport p) p .completion ∧ (s.completionReport p).livePort p = s.reportedPort p ∧
      (s.completionReport p).failover = { s.failover with groupStates := (s.completionReport p).failover.groupStates } ∧
      s.sameOutside [.live, .failover, .notices, .bus] (s.completionReport p) := by
  have hset (v : LivePort) (hv : v.state = s.liveness p) : LiveChange s (s.setLivePort p v) p .completion ∧
      (s.setLivePort p v).livePort p = v ∧
      (s.setLivePort p v).failover = { s.failover with groupStates := (s.setLivePort p v).failover.groupStates } ∧
      s.sameOutside [.live, .failover, .notices, .bus] (s.setLivePort p v) :=
    ⟨.setLivePort hv _, State.setLivePort_livePort_self .., rfl, (s.setLivePort_outside p v).mono (by decide)⟩
  unfold State.completionReport State.reportedPort
  cases hl : s.liveness p with
  | up =>
    dsimp only
    by_cases h : 0 < s.postedCount p
    · rw [if_pos h, if_neg (by omega)]
      exact hset _ rfl
    · rw [if_neg h, if_pos (by omega)]
      exact hset _ rfl
  | stalled =>
    refine ⟨.enterTrial s p .completion (by rw [hl]; decide), s.enterTrial_livePort p .completion, s.enterTrial_failover p .completion, ?_⟩
    rw [State.enterTrial_eq]
    exact (((s.setLivePort_outside p _).mono (by decide)).andThen (State.setLivePort_outside _ p _)).andThen
      (State.announce_outside _ _ _ _)
  | down | trial | adminDown => exact ⟨.refl s p _, rfl, rfl, .refl _ _⟩

/-! ## The end of a completion -/

/-- The copy of a completion of `p` has been handled between `s` and `u`, and has freed these cells; its write is forwarded. -/
structure Handled (s u : State) (p : Port) (n : RingSlot) (g : Lanes) (freed : List Nat) : Prop where
  follows : Follows [s.crossing (egressOffset p n) g] (s.freed freed) u
  outside : s.sameOutside [.cells, .admission, .queues, .failover, .acct, .bus] u
  failover : u.failover = { s.failover with hold := u.failover.hold }
  meters : u.admission.meters = s.admission.meters
  sent : u.bus.sent = s.bus.sent
  ring : ∀ q : Port, u.egressPort q =
    if q = p then { s.egressPort p with slots := (s.egressPort p).slots.erase n } else s.egressPort q

/-- What the end of a completion leaves of what has been handled. -/
structure CompletionEnd (s u t : State) (p : Port) (n : RingSlot) (g : Lanes) (freed : List Nat) (l : List Port) : Prop where
  completed : s.completed t p n g freed
  records : SameRecords u t
  acct : t.acct = u.acct
  queues : t.queues.queues = u.queues.queues
  hold : t.failover.hold = u.failover.hold
  ring : ∀ q : Port, t.egressPort q =
    { s.egressPort q with
      slots := if q = p then (s.egressPort p).slots.erase n else (s.egressPort q).slots
      owed := (s.egressPort q).owed + if q ∈ l then 1 else 0 }
  nothing : freed = [] → t.cells = u.cells ∧ t.admission = u.admission

/-- The state at the end of a completion. -/
def State.completionEnd (s u : State) (p : Port) (l : List Port) : State :=
  (((u.settle s.freeCount).completionReport p).oweEach l).finish

theorem Handled.completion {s u : State} {p : Port} {n : RingSlot} {g : Lanes} {freed : List Nat} (hq : s.quiet)
    (h : Handled s u p n g freed) (l : List Port) :
    CompletionEnd s u (s.completionEnd u p l) p n g freed l := by
  have hw := State.settle_outside u s.freeCount
  have hrec := (SameRecords.refl u).settle s.freeCount
  have hfol : Follows [s.crossing (egressOffset p n) g] (s.settled freed) (u.settle s.freeCount) := h.follows.settled
  have hsent : (u.settle s.freeCount).bus.sent = s.bus.sent := ((Gathers.refl u).settle _).sent.trans h.sent
  have hnothing : freed = [] → u.settle s.freeCount = u := fun hn => State.settle_of_eq (by
    have := h.follows.freeCount
    rw [hn] at this
    exact this)
  have hwhole : s.sameOutside [.cells, .admission, .queues, .failover, .acct, .notices, .bus] (u.settle s.freeCount) :=
    (h.outside.mono (by decide)).andThen hw
  unfold State.completionEnd
  generalize hwd : u.settle s.freeCount = w at *
  obtain ⟨hch, hport, hfail, hchOut⟩ := w.completionReport_change p
  have hkeeps := (Keeps.refl w).completionReport p
  have hwfail : w.failover = { s.failover with hold := w.failover.hold } := by rw [hw.failover]; exact h.failover
  have hgs : w.failover.groupStates = s.failover.groupStates := by rw [hwfail]
  have hwl (q : Port) : w.livePort q = s.livePort q := livePort_congr (by rw [hwhole.live]) q
  have hwring (q : Port) : w.egressPort q = u.egressPort q := State.ring_congr hw.queues q
  have hposted : w.postedCount p = ((s.egressPort p).slots.erase n).length := by
    unfold State.postedCount
    rw [hwring, h.ring, if_pos rfl]
  have hexpiry (f : TimerField) : w.expiry f = s.expiry f := by
    unfold State.expiry State.now
    rw [hwhole.live]
  have hentry : w.portEntry p = s.portEntry p := by unfold State.portEntry; rw [hwhole.tables]
  have hlive : w.liveness p = s.liveness p := congrArg LivePort.state (hwl p)
  have hchQueues := hch.outside.queues
  have hchRecords := SameRecords.of_blocks hch.outside.cells hch.outside.admission
  have hchTables := hch.outside.tables
  generalize hv : w.completionReport p = v at *
  have how := v.oweEach_outside l
  have hring (q : Port) : (v.oweEach l).finish.egressPort q =
      { s.egressPort q with
        slots := if q = p then (s.egressPort p).slots.erase n else (s.egressPort q).slots
        owed := (s.egressPort q).owed + if q ∈ l then 1 else 0 } := by
    refine (v.oweEach_egressPort l q).trans ?_
    rw [State.ring_congr hchQueues, hwring, h.ring]
    by_cases hqp : q = p
    · subst hqp; rw [if_pos rfl, if_pos rfl]
    · rw [if_neg hqp, if_neg hqp]
  have hout : v.sameOutside [.queues, .bus] (v.oweEach l).finish := (how.mono (by decide)).andThen (State.finish_outside _)
  have hlv (q : Port) : (v.oweEach l).finish.livePort q = v.livePort q := livePort_congr (by rw [hout.live]) q
  have hasks : s.liveAsks (v.oweEach l).finish p .completion = w.liveAsks v p .completion := by
    rw [LiveChange.liveAsks_of_groupStates hlive hwhole.tables hgs hwhole.lookup]
    refine State.liveAsks_of_end (hlv p) ?_ (fun g _ => State.groupState_congr (by rw [hout.failover]) g)
      (fun g => State.usable_congr hout.tables (by rw [hout.live]) g)
      (fun g => State.evacuatingMembers_congr hout.tables (by rw [hout.failover]) (by rw [hout.failover]) g) _
    unfold State.postedCount
    rw [hring p, if_pos rfl, State.ring_congr hchQueues, hwring, h.ring, if_pos rfl]
  have hfol2 : Follows [s.crossing (egressOffset p n) g]
      ((s.settled freed).noticed (s.liveAsks (v.oweEach l).finish p .completion)) (v.oweEach l) := by
    rw [hasks]
    exact ((hfol.noticed _).agrees hch.follows).agrees how.agrees
  have hxq := v.oweEach_queues l
  generalize v.oweEach l = x at *
  refine ⟨⟨?_, fun q hqp => ?_, ?_, ?_, ?_, ?_, ?_, ?_⟩, ?_, ?_, ?_, ?_, hring, fun hn => ?_⟩
  · rw [hlv, hport]
    unfold State.reportedPort
    rw [hlive, hwl, hposted, hentry]
    simp only [hexpiry] <;> cases s.liveness p <;> rfl
  · rw [hlv, hch.others q hqp, hwl]
  · refine State.groupsFollow_of_groupStates hlive hwhole.tables hgs fun gr => ?_
    have hl : x.finish.liveness p = v.liveness p := congrArg LivePort.state (hlv p)
    rw [hl]
    rw [State.groupState_congr (s := v) (t := x.finish) (by rw [hout.failover]),
      State.computeGroup_congr (s := v) (t := x.finish) hout.tables (by rw [hout.live]) (by rw [hout.failover]) (by rw [hout.failover])]
    exact hch.groups gr
  · rw [hout.failover, hfail, hwfail]
  · exact ⟨by rw [hout.cells, hch.outside.cells]; exact hfol.freeList, by rw [hout.cells, hch.outside.cells]; exact hfol.ports,
      by rw [hout.admission, hch.outside.admission]; exact hfol.shed⟩
  · rw [hout.admission, hch.outside.admission]
    exact hrec.meters.trans h.meters
  · exact hfol2.finish_delivers hq (((Gathers.refl s).settled _).noticed _)
      (by rw [how.bus]; exact hkeeps.sent.trans hsent)
  · exact ((hwhole.mono (by decide)).andThen hchOut).andThen hout
  · exact (hrec.trans hchRecords).trans (.of_blocks hout.cells hout.admission)
  · rw [hout.acct, hch.outside.acct, hw.acct]
  · exact hxq.trans ((congrArg QueueManager.queues hchQueues).trans (congrArg QueueManager.queues hw.queues))
  · rw [hout.failover, hfail]
    show w.failover.hold = _
    rw [hw.failover]
  · rw [hout.cells, hout.admission, hch.outside.cells, hch.outside.admission, hnothing hn]
    exact ⟨rfl, rfl⟩

/-! ## The slot emptied -/

/-- The write of a completion has been forwarded and its slot emptied (R106, R108). -/
def State.slotEmptied (s : State) (p : Port) (n : RingSlot) (g : Lanes) : State :=
  (s.forward (s.windowAddr (egressOffset p n)) g).emptySlot p n

section
variable {s u : State} {p : Port} {n : RingSlot} {g : Lanes}

theorem State.slotEmptied_eq (s : State) (p : Port) (n : RingSlot) (g : Lanes) :
    s.slotEmptied p n g =
      { s with queues := (s.slotEmptied p n g).queues, bus := (s.forward (s.windowAddr (egressOffset p n)) g).bus } := rfl

theorem State.slotEmptied_follows (hq : s.quiet) : Follows [s.crossing (egressOffset p n) g] s (s.slotEmptied p n g) :=
  (Follows.forward s hq _ _).agrees (State.queues_outside _ _).agrees

theorem State.slotEmptied_ring (q : Port) : (s.slotEmptied p n g).egressPort q =
    if q = p then { s.egressPort p with slots := (s.egressPort p).slots.erase n } else s.egressPort q :=
  State.setEgressPort_egressPort ..

theorem State.slotEmptied_outside (s : State) (p : Port) (n : RingSlot) (g : Lanes) :
    s.sameOutside [.queues, .bus] (s.slotEmptied p n g) := by
  rw [State.slotEmptied_eq]
  simp [State.sameOutside]

/-- What is handled of the copy, its slot emptied, touches no ring. -/
theorem Handled.of_slotEmptied {freed : List Nat} (hq : s.quiet) (hf : Agrees ((s.slotEmptied p n g).freed freed) u)
    (ho : (s.slotEmptied p n g).sameOutside [.cells, .admission, .queues, .failover, .acct] u)
    (hfail : u.failover = { s.failover with hold := u.failover.hold }) (hm : u.admission.meters = s.admission.meters)
    (hring : u.queues.ports = (s.slotEmptied p n g).queues.ports) : Handled s u p n g freed where
  follows := ((State.slotEmptied_follows hq).freed freed).agrees hf
  outside := ((s.slotEmptied_outside p n g).mono (by decide)).andThen ho
  failover := hfail
  meters := hm
  sent := by rw [ho.bus]; rfl
  ring q := (egressPort_congr hring q).trans (State.slotEmptied_ring q)

/-- A copy that has been retired. -/
theorem Handled.of_retired {tag : Nat} {k : Copy} {f : Frame} {cause : RetireCause} (hq : s.quiet)
    (h : Retired (s.slotEmptied p n g) u tag k f cause) (ho : (s.slotEmptied p n g).sameOutside [.cells, .admission, .acct] u) :
    Handled s u p n g (s.freedBy k.frame f) :=
  .of_slotEmptied hq (h.agrees ho) (ho.mono (by decide)) (by rw [ho.failover]; rfl) h.meters (by rw [ho.queues])

end

/-- A completion whose tag matches: its copy is handled, and the completion ends (R106 to R110). -/
theorem exec_completion {s : State} {p : Port} {n : RingSlot} {g : Lanes} {rec : SlotRecord} {k : Copy}
    (hc : s.completes p n g = some rec) (he : (CompletionWord.read g).echo = rec.tag) (hk : s.copy rec.tag = some k) :
    exec (.completion p n g) s =
      .next (s.completionEnd
        (if (CompletionWord.read g).status = 1 then ((s.slotEmptied p n g).retire rec.tag .sent, none)
          else if (CompletionWord.read g).status = 3 then (s.slotEmptied p n g).aborted p rec.tag k
          else ((s.slotEmptied p n g).retire rec.tag .egressError, (none : Option Port))).1 p
        ((if (CompletionWord.read g).status = 1 then ((s.slotEmptied p n g).retire rec.tag .sent, none)
          else if (CompletionWord.read g).status = 3 then (s.slotEmptied p n g).aborted p rec.tag k
          else ((s.slotEmptied p n g).retire rec.tag .egressError, (none : Option Port))).2.toList ++ [p])) := by
  have htake : (s.forward (s.windowAddr (egressOffset p n)) g).egressWrite p n g =
      (s.forward (s.windowAddr (egressOffset p n)) g).takeCompletion p n rec (CompletionWord.read g) :=
    State.egressWrite_of_some (u := s.forward _ g) hc
  have hcopy : (s.slotEmptied p n g).completeCopy p rec.tag (CompletionWord.read g).status =
      if (CompletionWord.read g).status = 1 then ((s.slotEmptied p n g).retire rec.tag .sent, none)
      else if (CompletionWord.read g).status = 3 then (s.slotEmptied p n g).aborted p rec.tag k
      else ((s.slotEmptied p n g).retire rec.tag .egressError, none) := by
    unfold State.completeCopy
    rw [show (s.slotEmptied p n g).copy rec.tag = some k from hk]
  refine congrArg Host.Outcome.next ((congrArg State.finish htake).trans ?_)
  rw [← hcopy]
  unfold State.takeCompletion
  rw [if_neg (by rw [he]; exact fun h => h rfl)]
  rfl

/-- The causes that a completion counts, read at its beginning. -/
theorem State.lostCopy_of_slotEmptied {s t : State} {p : Port} {n : RingSlot} {g : Lanes} {tag : Nat} {k : Copy} {f : Frame}
    {cause : RetireCause}
    (h : (s.slotEmptied p n g).lostCopy t tag k f ((s.slotEmptied p n g).countRetired cause f k)) :
    s.lostCopy t tag k f (s.countRetired cause f k) := by
  obtain ⟨h1, h2, h3, h4, h5, h6⟩ := h
  exact ⟨h1, h2, h3, h4, h5, h6.trans (State.countRetired_acct_congr (s := s) (u := s.slotEmptied p n g) rfl rfl cause f f.ports k)⟩

/-- What a completion leaves that has retired its copy (R16, R17, R108, R109). -/
theorem State.completionEnd_retired {s u : State} {p : Port} {n : RingSlot} {g : Lanes} {tag : Nat} {k : Copy} {f : Frame}
    {cause : RetireCause} (hq : s.quiet) (h : Retired (s.slotEmptied p n g) u tag k f cause)
    (ho : (s.slotEmptied p n g).sameOutside [.cells, .admission, .acct] u) :
    s.lostCopy (s.completionEnd u p [p]) tag k f (s.countRetired cause f k) ∧
      (∀ j, j ≠ tag → (s.completionEnd u p [p]).copy j = s.copy j) ∧
      (∀ j, j ≠ k.frame → (s.completionEnd u p [p]).frame j = s.frame j) ∧
      (s.completionEnd u p [p]).queues.queues = s.queues.queues ∧
      (s.completionEnd u p [p]).failover.hold = s.failover.hold ∧
      (∀ q : Port, (s.completionEnd u p [p]).egressPort q =
        { s.egressPort q with
          slots := if q = p then (s.egressPort p).slots.erase n else (s.egressPort q).slots
          owed := (s.egressPort q).owed + if q = p then 1 else 0 }) ∧
      s.completed (s.completionEnd u p [p]) p n g (s.freedBy k.frame f) := by
  have hend := (Handled.of_retired hq h ho).completion hq [p]
  have hqueues := ho.queues
  have hhold := ho.failover
  refine ⟨State.lostCopy_of_slotEmptied (h.lostCopy hend.records hend.acct), fun j hj => ?_, fun j hj => ?_, ?_, ?_, fun q => ?_,
    hend.completed⟩
  · rw [hend.records.copy, h.copy, if_neg hj]; rfl
  · rw [hend.records.frame, h.frame, if_neg hj]; rfl
  · rw [hend.queues, hqueues]; rfl
  · rw [hend.hold, hhold]; rfl
  · rw [hend.ring]
    simp only [List.mem_singleton]

/-- Settles O24: the retirement, its frees, and the report to the liveness monitor. -/
theorem sentCopyIsRetired : Obligations.SentCopyIsRetired := by
  intro p n g s rec k f hq hc he hst hk hkp hf
  obtain ⟨cause, hcount, hrow⟩ : ∃ cause : RetireCause,
      (if (CompletionWord.read g).status = 1 then s.countDelivered f.tenant f.length f.colour k.cls k.mark
        else s.countDrop .egressError f.tenant) = s.countRetired cause f k ∧
      exec (.completion p n g) s = .next (s.completionEnd ((s.slotEmptied p n g).retire rec.tag cause) p [p]) := by
    rw [exec_completion hc he hk]
    by_cases h1 : (CompletionWord.read g).status = 1
    · exact ⟨.sent, if_pos h1, by rw [if_pos h1]; rfl⟩
    · exact ⟨.egressError, if_neg h1, by rw [if_neg h1, if_neg hst]; rfl⟩
  obtain ⟨hlost, hcopies, hframes, hqueues, hhold, hring, hdone⟩ := State.completionEnd_retired hq
    (State.retire_retired (s := s.slotEmptied p n g) (tag := rec.tag) (k := k) (f := f) hk hf cause) (State.retire_outside _ _ _)
  rw [hcount]
  generalize s.completionEnd ((s.slotEmptied p n g).retire rec.tag cause) p [p] = t at *
  refine ⟨t, hrow, ?_, fun q hqp => ?_, hlost, hcopies, hframes, hqueues, hhold, hdone⟩
  · rw [hring, if_pos rfl, if_pos rfl]
  · rw [hring, if_neg hqp, if_neg hqp]
    rfl

end Sys2Proof.Machine
end

section
/-! ABORTED completions (R109, R143): the return of a direct copy, and the late abort of a via-group copy (O26). -/
namespace Sys2Proof.Machine

/-! ## A via-group copy taken off its port -/

/-- An ABORTED via-group copy has left its port: the port its frame's target-port set, the record the port (R143). -/
def State.detached (s : State) (tag : Nat) (k : Copy) (p : Port) : State :=
  (s.leavePort k.frame p).setCopy tag { k with port := none }

section
variable {s u : State} {tag : Nat} {k : Copy} {p : Port} {f : Frame}

theorem State.lateAbort_of_port (hp : k.port = some p) (s : State) (tag : Nat) (grp : GroupId) :
    s.lateAbort tag k grp =
      if (s.detached tag k p).walkWork then
        if (s.detached tag k p).holdCount < Config.holdRoom then
          ((s.detached tag k p).hold tag { k with port := none } grp, none)
        else ((s.detached tag k p).retire tag .holdFull, none)
      else (s.detached tag k p).rechoose tag { k with port := none } grp := by
  unfold State.lateAbort
  rw [hp]
  rfl

theorem State.detached_eq (hf : s.frame k.frame = some f) :
    s.detached tag k p =
      { s with
        cells := { s.cells with
          frames := s.cells.frames.put k.frame { f with ports := f.ports.filter (· ≠ p) }
          copies := s.cells.copies.put tag { k with port := none } } } := by
  unfold State.detached
  rw [State.leavePort_of_frame hf]
  rfl

theorem State.detached_copy (hf : s.frame k.frame = some f) (j : Nat) :
    (s.detached tag k p).copy j = if j = tag then some { k with port := none } else s.copy j := by
  rw [State.detached_eq hf]
  exact Table.find_put ..

theorem State.detached_frame (hf : s.frame k.frame = some f) (j : Nat) :
    (s.detached tag k p).frame j = if j = k.frame then some { f with ports := f.ports.filter (· ≠ p) } else s.frame j := by
  rw [State.detached_eq hf]
  exact Table.find_put ..

theorem State.detached_outside (hf : s.frame k.frame = some f) : s.sameOutside [.cells] (s.detached tag k p) := by
  rw [State.detached_eq hf]
  exact s.cells_outside _

/-- A copy retired once it has left its port is as one retired on it (R16). -/
theorem State.detached_retired (hp : k.port = some p) (hf : s.frame k.frame = some f) (cause : RetireCause) :
    Retired s ((s.detached tag k p).retire tag cause) tag k f cause := by
  have hk' : (s.detached tag k p).copy tag = some { k with port := none } := by rw [State.detached_copy hf, if_pos rfl]
  have hf' : (s.detached tag k p).frame ({ k with port := none } : Copy).frame = some { f with ports := f.ports.filter (· ≠ p) } := by
    rw [State.detached_frame hf, if_pos rfl]
  have h := State.retire_retired hk' hf' cause
  have hfreed : (s.detached tag k p).freedBy k.frame { f with ports := f.ports.filter (· ≠ p) } = s.freedBy k.frame f := by
    rw [State.detached_eq hf]; rfl
  obtain ⟨hcopy, hframe, hlinks, hheld, hmeters, hshed, hfreeCopies, hfreeList, hports, hacct⟩ := h
  have hacct' := State.countRetired_acct_congr (s := s) (u := s.detached tag k p) (by rw [State.detached_eq hf])
    (by rw [State.detached_eq hf]) cause f (f.ports.filter (· ≠ p)) k
  have hcount : ((s.detached tag k p).countRetired cause { f with ports := f.ports.filter (· ≠ p) } { k with port := none }).acct =
      ((s.detached tag k p).countRetired cause { f with ports := f.ports.filter (· ≠ p) } k).acct := by
    cases cause <;> rfl
  generalize (s.detached tag k p).retire tag cause = v at *
  refine ⟨fun j => ?_, fun j => ?_, fun c => ?_, fun m => ?_, ?_, ?_, ?_, ?_, ?_, ?_⟩
  · rw [hcopy, State.detached_copy hf]
    by_cases hj : j = tag
    · rw [if_pos hj, if_pos hj]
    · rw [if_neg hj, if_neg hj, if_neg hj]
  · rw [hframe, State.detached_frame hf]
    by_cases hj : j = k.frame
    · rw [if_pos hj, if_pos hj, Copy.leaves_of_none rfl, Copy.leaves_of_some hp]
    · rw [if_neg hj, if_neg hj, if_neg hj]
  · have := hlinks c
    rw [hfreed] at this
    rw [this, State.detached_eq hf]
  · rw [hheld m, State.detached_eq hf]
    rfl
  · rw [hmeters, State.detached_eq hf]
  · rw [hshed, State.detached_eq hf]
  · rw [hfreeCopies, State.detached_eq hf]
  · rw [hfreeList, hfreed, State.detached_eq hf]
  · rw [hports, State.detached_eq hf]
  · rw [hacct, hcount, hacct']

theorem State.detached_retire_outside (hf : s.frame k.frame = some f) (cause : RetireCause) :
    s.sameOutside [.cells, .admission, .acct] ((s.detached tag k p).retire tag cause) :=
  ((State.detached_outside hf).mono (by decide)).andThen (State.retire_outside _ _ _)

end

/-! ## A copy that joins a queue -/

section
variable {s : State} {tag : Nat} {k : Copy} {q : Port} {f : Frame}

theorem State.appendQueued_eq (hf : s.frame k.frame = some f) :
    s.appendQueued tag k q =
      { s with
        cells := { s.cells with
          frames := s.cells.frames.put k.frame { f with ports := addPort q f.ports }
          copies := s.cells.copies.put tag { k with state := .queued, port := some q } }
        queues := (s.setQueue q k.cls (s.queue q k.cls ++ [tag])).queues } := by
  unfold State.appendQueued State.joinPort
  rw [show ((s.setCopy tag { k with state := .queued, port := some q }).setQueue q k.cls (s.queue q k.cls ++ [tag])).frame k.frame =
    some f from hf]
  rfl

theorem State.appendQueued_queue (hf : s.frame k.frame = some f) (r : Port) (c : Cls) :
    (s.appendQueued tag k q).queue r c = if r = q ∧ c = k.cls then s.queue q k.cls ++ [tag] else s.queue r c := by
  rw [State.appendQueued_eq hf]
  exact State.setQueue_queue ..

end

/-! ## The blocks of a completion that frees nothing -/

theorem State.sameOutside.without_counts {s t : State}
    (h : s.sameOutside [.cells, .admission, .queues, .live, .failover, .acct, .notices, .bus] t)
    (ha : t.admission = s.admission) (hc : t.acct = s.acct) :
    s.sameOutside [.cells, .queues, .live, .failover, .notices, .bus] t :=
  ⟨.inr h.path, .inr h.tables, .inl (by decide), .inr h.intake, .inr h.lookup, .inr ha, .inl (by decide), .inl (by decide),
    .inl (by decide), .inr hc, .inl (by decide), .inr h.slots, .inl (by decide), .inr h.freeDraws, .inr h.pending⟩

/-! ## The direct copy -/

/-- Copy `tag` is QUEUED at the head of its class queue of `p`. -/
def State.requeued (s : State) (p : Port) (tag : Nat) (k : Copy) : State :=
  (s.setCopy tag { k with state := .queued }).setQueue p k.cls (tag :: s.queue p k.cls)

/-- A direct copy on a port that is not drained returns to the head of its queue (R109). -/
theorem State.directReturn_of_clear {s : State} {p : Port} (h : s.isDrained p = false) (tag : Nat) (k : Copy) :
    s.directReturn p tag k = s.requeued p tag k := by
  unfold State.directReturn
  rw [if_neg (by rw [h]; decide)]
  rfl

theorem State.directReturn_of_drained {s : State} {p : Port} (h : s.isDrained p = true) (tag : Nat) (k : Copy) :
    s.directReturn p tag k = s.retire tag .portDown := by
  unfold State.directReturn
  rw [if_pos h]

section
variable {p : Port} {n : RingSlot} {g : Lanes} {s : State} {rec : SlotRecord} {k : Copy} {f : Frame}

/-- An ABORTED completion, its copy handled as R109 says. -/
theorem exec_completion_aborted (hc : s.completes p n g = some rec) (he : (CompletionWord.read g).echo = rec.tag)
    (hst : (CompletionWord.read g).status = 3) (hk : s.copy rec.tag = some k) :
    exec (.completion p n g) s =
      .next (s.completionEnd ((s.slotEmptied p n g).aborted p rec.tag k).1 p
        (((s.slotEmptied p n g).aborted p rec.tag k).2.toList ++ [p])) := by
  rw [exec_completion hc he hk, if_neg (by rw [hst]; decide), if_pos hst]

theorem State.aborted_of_direct (hv : k.via = none) (s : State) (p : Port) (tag : Nat) :
    s.aborted p tag k = (s.directReturn p tag k, none) := by
  unfold State.aborted
  rw [hv]

theorem State.aborted_of_via {grp : GroupId} (hv : k.via = some grp) (s : State) (p : Port) (tag : Nat) :
    s.aborted p tag k = s.lateAbort tag k grp := by
  unfold State.aborted
  rw [hv]

/-- The case of O26 in which the copy returns. -/
theorem abortedCopyReturns (hq : s.quiet) (hc : s.completes p n g = some rec) (he : (CompletionWord.read g).echo = rec.tag)
    (hst : (CompletionWord.read g).status = 3) (hk : s.copy rec.tag = some k) (hv : k.via = none) (hd : s.isDrained p = false) :
    ∃ t, exec (.completion p n g) s = .next t ∧
      t.copy rec.tag = some { k with state := .queued } ∧ (∀ j, j ≠ rec.tag → t.copy j = s.copy j) ∧
      t.queue p k.cls = rec.tag :: s.queue p k.cls ∧
      (∀ (q : Port) (c : Cls), (q, c) ≠ (p, k.cls) → t.queue q c = s.queue q c) ∧
      t.egressPort p =
        { s.egressPort p with slots := (s.egressPort p).slots.erase n, owed := (s.egressPort p).owed + 1 } ∧
      (∀ q : Port, q ≠ p → t.egressPort q = s.egressPort q) ∧
      t.cells = { s.cells with copies := t.cells.copies } ∧ t.failover.hold = s.failover.hold ∧
      s.completed t p n g [] ∧ s.sameOutside [.cells, .queues, .live, .failover, .notices, .bus] t := by
  have hrow := exec_completion_aborted hc he hst hk
  rw [State.aborted_of_direct hv, State.directReturn_of_clear (s := s.slotEmptied p n g) hd] at hrow
  have hu : (s.slotEmptied p n g).requeued p rec.tag k =
      { s.slotEmptied p n g with
        cells := { s.cells with copies := s.cells.copies.put rec.tag { k with state := .queued } }
        queues := ((s.slotEmptied p n g).requeued p rec.tag k).queues } := rfl
  have hqueue (q : Port) (c : Cls) : ((s.slotEmptied p n g).requeued p rec.tag k).queue q c =
      if q = p ∧ c = k.cls then rec.tag :: s.queue p k.cls else s.queue q c := State.setQueue_queue ..
  have hhand : Handled s ((s.slotEmptied p n g).requeued p rec.tag k) p n g [] :=
    .of_slotEmptied hq (.of_eq rfl rfl rfl rfl rfl rfl rfl rfl rfl) (by rw [hu]; simp [State.sameOutside]) rfl rfl rfl
  have hcopy (j : Nat) : ((s.slotEmptied p n g).requeued p rec.tag k).copy j =
      if j = rec.tag then some { k with state := .queued } else s.copy j := Table.find_put ..
  have hcells : ((s.slotEmptied p n g).requeued p rec.tag k).cells =
      { s.cells with copies := s.cells.copies.put rec.tag { k with state := .queued } } := rfl
  have hhold : ((s.slotEmptied p n g).requeued p rec.tag k).failover.hold = s.failover.hold := rfl
  have hadm : ((s.slotEmptied p n g).requeued p rec.tag k).admission = s.admission := rfl
  have hacct : ((s.slotEmptied p n g).requeued p rec.tag k).acct = s.acct := rfl
  clear hu
  generalize (s.slotEmptied p n g).requeued p rec.tag k = u at *
  have hend := hhand.completion hq [p]
  obtain ⟨hecells, headm⟩ := hend.nothing rfl
  have heq (q : Port) (c : Cls) : (s.completionEnd u p [p]).queue q c = u.queue q c := by unfold State.queue; rw [hend.queues]
  refine ⟨_, hrow, ?_, fun j hj => ?_, ?_, fun q c hqc => ?_, ?_, fun q hqp => ?_, ?_, hend.hold.trans hhold, hend.completed,
    hend.completed.2.2.2.2.2.2.2.without_counts (headm.trans hadm) (hend.acct.trans hacct)⟩
  · exact (hend.records.copy _).trans ((hcopy _).trans (if_pos rfl))
  · exact (hend.records.copy _).trans ((hcopy _).trans (if_neg hj))
  · exact (heq _ _).trans ((hqueue _ _).trans (if_pos ⟨rfl, rfl⟩))
  · exact (heq _ _).trans ((hqueue _ _).trans (if_neg fun h => hqc (Prod.ext h.1 h.2)))
  · exact (hend.ring p).trans (by rw [if_pos rfl, if_pos (List.mem_singleton_self p)])
  · exact (hend.ring q).trans (by rw [if_neg hqp, if_neg (by simpa using hqp)]; rfl)
  · show (s.completionEnd u p [p]).cells = { s.cells with copies := (s.completionEnd u p [p]).cells.copies }
    rw [hecells, hcells]

/-- The case of O26 in which the direct copy of a drained port is retired. -/
theorem abortedCopyOnDrained (hq : s.quiet) (hc : s.completes p n g = some rec) (he : (CompletionWord.read g).echo = rec.tag)
    (hst : (CompletionWord.read g).status = 3) (hk : s.copy rec.tag = some k) (hv : k.via = none) (hd : s.isDrained p = true)
    (hf : s.frame k.frame = some f) :
    ∃ t, exec (.completion p n g) s = .next t ∧
      s.lostCopy t rec.tag k f (s.countDrop .portDown f.tenant) ∧
      (∀ j, j ≠ rec.tag → t.copy j = s.copy j) ∧ (∀ j, j ≠ k.frame → t.frame j = s.frame j) ∧
      t.egressPort p =
        { s.egressPort p with slots := (s.egressPort p).slots.erase n, owed := (s.egressPort p).owed + 1 } ∧
      (∀ q : Port, q ≠ p → t.egressPort q = s.egressPort q) ∧ t.queues.queues = s.queues.queues ∧
      t.failover.hold = s.failover.hold ∧ s.completed t p n g (s.freedBy k.frame f) := by
  have hrow := exec_completion_aborted hc he hst hk
  rw [State.aborted_of_direct hv, State.directReturn_of_drained (s := s.slotEmptied p n g) hd] at hrow
  obtain ⟨hlost, hcopies, hframes, hqueues, hhold, hring, hdone⟩ := State.completionEnd_retired hq
    (State.retire_retired (s := s.slotEmptied p n g) (tag := rec.tag) (k := k) (f := f) hk hf .portDown) (State.retire_outside _ _ _)
  change exec (.completion p n g) s =
    .next (s.completionEnd ((s.slotEmptied p n g).retire rec.tag .portDown) p [p]) at hrow
  generalize s.completionEnd ((s.slotEmptied p n g).retire rec.tag .portDown) p [p] = t at *
  refine ⟨t, hrow, hlost, hcopies, hframes, ?_, fun q hqp => ?_, hqueues, hhold, hdone⟩
  · rw [hring, if_pos rfl, if_pos rfl]
  · rw [hring, if_neg hqp, if_neg hqp]
    rfl

end

/-! ## The late abort of a completion -/

section
variable {p : Port} {n : RingSlot} {g : Lanes} {s : State} {rec : SlotRecord} {k : Copy} {f : Frame} {grp : GroupId}

/-- A late abort that leaves the queues as they were names the port of the completion alone. -/
theorem owed_of_queues {t : State} {tag : Nat} (h : t.queues.queues = s.queues.queues)
    (hring : ∀ q : Port, t.egressPort q =
      { s.egressPort q with
        slots := if q = p then (s.egressPort p).slots.erase n else (s.egressPort q).slots
        owed := (s.egressPort q).owed + if q = p then 1 else 0 }) (q : Port) :
    t.egressPort q =
      { s.egressPort q with
        slots := if q = p then (s.egressPort p).slots.erase n else (s.egressPort q).slots
        owed := (s.egressPort q).owed + if q = p ∨ (∃ c, tag ∈ t.queue q c ∧ t.queue q c ≠ s.queue q c) then 1 else 0 } := by
  have hno : (q = p ∨ ∃ c, tag ∈ t.queue q c ∧ t.queue q c ≠ s.queue q c) ↔ q = p :=
    or_iff_left fun ⟨c, _, hne⟩ => hne (by unfold State.queue; rw [h])
  rw [hring, if_congr hno rfl rfl]

/-- A late abort whose copy becomes HELD (R142, R143). -/
theorem State.completionEnd_held (hq : s.quiet) (hf : s.frame k.frame = some f) :
    let u := ((s.slotEmptied p n g).detached rec.tag k p).hold rec.tag { k with port := none } grp
    (∀ j, j ≠ rec.tag → (s.completionEnd u p [p]).copy j = s.copy j) ∧
      (∀ j, j ≠ k.frame → (s.completionEnd u p [p]).frame j = s.frame j) ∧
      (∀ q : Port, (s.completionEnd u p [p]).egressPort q =
        { s.egressPort q with
          slots := if q = p then (s.egressPort p).slots.erase n else (s.egressPort q).slots
          owed := (s.egressPort q).owed + if q = p then 1 else 0 }) ∧
      (s.completionEnd u p [p]).copy rec.tag = some { k with state := .held, port := none } ∧
      (s.completionEnd u p [p]).frame k.frame = some { f with ports := f.ports.filter (· ≠ p) } ∧
      (s.completionEnd u p [p]).heldCopies grp = s.heldCopies grp ++ [rec.tag] ∧
      (∀ h : GroupId, h ≠ grp → (s.completionEnd u p [p]).heldCopies h = s.heldCopies h) ∧
      (s.completionEnd u p [p]).queues.queues = s.queues.queues ∧ (s.completionEnd u p [p]).acct = s.acct ∧
      (s.completionEnd u p [p]).admission = s.admission ∧
      (s.completionEnd u p [p]).cells =
        { s.cells with frames := (s.completionEnd u p [p]).cells.frames, copies := (s.completionEnd u p [p]).cells.copies } ∧
      s.completed (s.completionEnd u p [p]) p n g [] := by
  dsimp only
  have hfs : (s.slotEmptied p n g).frame k.frame = some f := hf
  have hd := State.detached_eq (tag := rec.tag) (p := p) hfs
  have hheld : ((s.slotEmptied p n g).detached rec.tag k p).heldCopies grp = s.heldCopies grp := by rw [hd]; rfl
  obtain ⟨u, hu⟩ : ∃ u, u = ((s.slotEmptied p n g).detached rec.tag k p).hold rec.tag { k with port := none } grp := ⟨_, rfl⟩
  have hcopy (j : Nat) : u.copy j = if j = rec.tag then some { k with state := .held, port := none } else s.copy j := by
    rw [hu]
    refine (Table.find_put ..).trans ?_
    by_cases hj : j = rec.tag
    · rw [if_pos hj, if_pos hj]
    · rw [if_neg hj, if_neg hj]
      exact (State.detached_copy hfs j).trans (if_neg hj)
  have hframe (j : Nat) : u.frame j = if j = k.frame then some { f with ports := f.ports.filter (· ≠ p) } else s.frame j := by
    rw [hu]
    exact State.detached_frame (tag := rec.tag) hfs j
  have hholds (h : GroupId) : u.heldCopies h = if h = grp then s.heldCopies grp ++ [rec.tag] else s.heldCopies h := by
    rw [hu]
    refine (State.setHeldCopies_heldCopies ..).trans ?_
    rw [hheld, show (((s.slotEmptied p n g).detached rec.tag k p).setCopy rec.tag _).heldCopies h = s.heldCopies h by
      show ((s.slotEmptied p n g).detached rec.tag k p).heldCopies h = _
      rw [hd]; rfl]
  have hblocks : u = { s.slotEmptied p n g with
      cells := { s.cells with frames := u.cells.frames, copies := u.cells.copies }
      failover := { s.failover with hold := u.failover.hold } } := by
    rw [hu]; unfold State.hold; rw [hd]; rfl
  rw [← hu]
  have hhand : Handled s u p n g [] := by
    refine .of_slotEmptied hq ?_ ?_ ?_ ?_ ?_
    · rw [hblocks]; exact .of_eq rfl rfl rfl rfl rfl rfl rfl rfl rfl
    · rw [hblocks]; simp [State.sameOutside]
    · rw [hblocks]
    · rw [hblocks]; rfl
    · rw [hblocks]
  have hcells : u.cells = { s.cells with frames := u.cells.frames, copies := u.cells.copies } := by rw [hblocks]
  have hqueues : u.queues.queues = s.queues.queues := by rw [hblocks]; rfl
  have hacct : u.acct = s.acct := by rw [hblocks]; rfl
  have hadm : u.admission = s.admission := by rw [hblocks]; rfl
  have hend := hhand.completion hq [p]
  obtain ⟨hecells, headm⟩ := hend.nothing rfl
  have hecopies (h : GroupId) : (s.completionEnd u p [p]).heldCopies h = u.heldCopies h := by
    unfold State.heldCopies; rw [hend.hold]
  refine ⟨fun j hj => ?_, fun j hj => ?_, fun q => ?_, ?_, ?_, ?_, fun h hh => ?_, hend.queues.trans hqueues, hend.acct.trans hacct,
    headm.trans hadm, ?_, hend.completed⟩
  · rw [hend.records.copy, hcopy, if_neg hj]
  · rw [hend.records.frame, hframe, if_neg hj]
  · rw [hend.ring]
    simp only [List.mem_singleton]
  · rw [hend.records.copy, hcopy, if_pos rfl]
  · rw [hend.records.frame, hframe, if_pos rfl]
  · rw [hecopies, hholds, if_pos rfl]
  · rw [hecopies, hholds, if_neg hh]
  · rw [hecells]; exact hcells

/-- A late abort whose copy joins the queue of the port chosen, which may be its own (R137, R143). -/
theorem State.completionEnd_joined (hq : s.quiet) (hf : s.frame k.frame = some f) (q : Port) :
    let t := s.completionEnd (((s.slotEmptied p n g).detached rec.tag k p).appendQueued rec.tag { k with port := none } q) p [q, p]
    (∀ j, j ≠ rec.tag → t.copy j = s.copy j) ∧ (∀ j, j ≠ k.frame → t.frame j = s.frame j) ∧
      (∀ r : Port, t.egressPort r =
        { s.egressPort r with
          slots := if r = p then (s.egressPort p).slots.erase n else (s.egressPort r).slots
          owed := (s.egressPort r).owed + if r = q ∨ r = p then 1 else 0 }) ∧
      t.failover.hold = s.failover.hold ∧
      t.copy rec.tag = some { k with state := .queued, port := some q } ∧
      t.frame k.frame = some { f with ports := addPort q (f.ports.filter (· ≠ p)) } ∧
      t.queue q k.cls = s.queue q k.cls ++ [rec.tag] ∧
      (∀ (r : Port) (c : Cls), (r, c) ≠ (q, k.cls) → t.queue r c = s.queue r c) ∧
      t.acct = s.acct ∧ t.admission = s.admission ∧
      t.cells = { s.cells with frames := t.cells.frames, copies := t.cells.copies } ∧ s.completed t p n g [] := by
  dsimp only
  have hfs : (s.slotEmptied p n g).frame k.frame = some f := hf
  have hd := State.detached_eq (tag := rec.tag) (p := p) hfs
  have hfd : ((s.slotEmptied p n g).detached rec.tag k p).frame ({ k with port := none } : Copy).frame =
      some { f with ports := f.ports.filter (· ≠ p) } := (State.detached_frame hfs _).trans (if_pos rfl)
  obtain ⟨u, hu⟩ : ∃ u, u = ((s.slotEmptied p n g).detached rec.tag k p).appendQueued rec.tag { k with port := none } q := ⟨_, rfl⟩
  have heq := hu.trans (State.appendQueued_eq hfd)
  have hcopy (j : Nat) : u.copy j = if j = rec.tag then some { k with state := .queued, port := some q } else s.copy j := by
    rw [heq]
    refine (Table.find_put ..).trans ?_
    by_cases hj : j = rec.tag
    · rw [if_pos hj, if_pos hj]
    · rw [if_neg hj, if_neg hj]
      exact (State.detached_copy hfs j).trans (if_neg hj)
  have hframe (j : Nat) : u.frame j =
      if j = k.frame then some { f with ports := addPort q (f.ports.filter (· ≠ p)) } else s.frame j := by
    rw [heq]
    refine (Table.find_put ..).trans ?_
    by_cases hj : j = k.frame
    · exact (if_pos hj).trans (if_pos hj).symm
    · exact (if_neg hj).trans (((State.detached_frame (tag := rec.tag) hfs j).trans (if_neg hj)).trans (if_neg hj).symm)
  have hqueue (r : Port) (c : Cls) : u.queue r c = if r = q ∧ c = k.cls then s.queue q k.cls ++ [rec.tag] else s.queue r c := by
    rw [hu, State.appendQueued_queue hfd, hd]
    rfl
  have hblocks : u = { s.slotEmptied p n g with
      cells := { s.cells with frames := u.cells.frames, copies := u.cells.copies }
      queues := u.queues } := by
    rw [heq, hd]; rfl
  have hports : u.queues.ports = (s.slotEmptied p n g).queues.ports := by rw [heq, hd]; rfl
  rw [← hu]
  have hhand : Handled s u p n g [] := by
    refine .of_slotEmptied hq ?_ ?_ ?_ ?_ hports
    · rw [hblocks]; exact .of_eq rfl rfl rfl rfl rfl rfl rfl rfl rfl
    · rw [hblocks]; simp [State.sameOutside]
    · rw [hblocks]; rfl
    · rw [hblocks]; rfl
  have hcells : u.cells = { s.cells with frames := u.cells.frames, copies := u.cells.copies } := by rw [hblocks]
  have hhold : u.failover.hold = s.failover.hold := by rw [hblocks]; rfl
  have hacct : u.acct = s.acct := by rw [hblocks]; rfl
  have hadm : u.admission = s.admission := by rw [hblocks]; rfl
  have hend := hhand.completion hq [q, p]
  obtain ⟨hecells, headm⟩ := hend.nothing rfl
  have heq' (r : Port) (c : Cls) : (s.completionEnd u p [q, p]).queue r c = u.queue r c := by unfold State.queue; rw [hend.queues]
  refine ⟨fun j hj => ?_, fun j hj => ?_, fun r => ?_, hend.hold.trans hhold, ?_, ?_, ?_, fun r c hrc => ?_, hend.acct.trans hacct,
    headm.trans hadm, ?_, hend.completed⟩
  · rw [hend.records.copy, hcopy, if_neg hj]
  · rw [hend.records.frame, hframe, if_neg hj]
  · rw [hend.ring]
    simp only [List.mem_cons, List.not_mem_nil, or_false]
  · rw [hend.records.copy, hcopy, if_pos rfl]
  · rw [hend.records.frame, hframe, if_pos rfl]
  · rw [heq', hqueue, if_pos ⟨rfl, rfl⟩]
  · rw [heq', hqueue, if_neg fun h => hrc (Prod.ext h.1 h.2)]
  · rw [hecells]; exact hcells

/-- The re-choice of an ABORTED via-group copy that has left its port (R137, R143). -/
theorem State.rechoose_detached (hf : s.frame k.frame = some f) (tag : Nat) (grp : GroupId) :
    (s.detached tag k p).rechoose tag { k with port := none } grp =
      match s.memberChoice grp f.flowHash with
      | none => ((s.detached tag k p).retire tag .noPath, none)
      | some q =>
        if q ∈ f.ports.filter (· ≠ p) then ((s.detached tag k p).retire tag .merged, none)
        else ((s.detached tag k p).appendQueued tag { k with port := none } q, some q) := by
  have hfd : (s.detached tag k p).frame ({ k with port := none } : Copy).frame =
      some { f with ports := f.ports.filter (· ≠ p) } := (State.detached_frame hf _).trans (if_pos rfl)
  have hchoice : (s.detached tag k p).memberChoice grp f.flowHash = s.memberChoice grp f.flowHash := by rw [State.detached_eq hf]; rfl
  unfold State.rechoose
  rw [hfd]
  dsimp only
  rw [hchoice] <;> cases s.memberChoice grp f.flowHash <;> rfl

/-- The case of O26 of a via-group copy. -/
theorem abortedViaCopy (hq : s.quiet) (hc : s.completes p n g = some rec) (he : (CompletionWord.read g).echo = rec.tag)
    (hst : (CompletionWord.read g).status = 3) (hk : s.copy rec.tag = some k) (hv : k.via = some grp) (hp : k.port = some p)
    (hf : s.frame k.frame = some f) :
    ∃ t, exec (.completion p n g) s = .next t ∧
      (∀ j, j ≠ rec.tag → t.copy j = s.copy j) ∧ (∀ j, j ≠ k.frame → t.frame j = s.frame j) ∧
      (∀ q : Port, t.egressPort q =
        { s.egressPort q with
          slots := if q = p then (s.egressPort p).slots.erase n else (s.egressPort q).slots
          owed := (s.egressPort q).owed +
            if q = p ∨ (∃ c, rec.tag ∈ t.queue q c ∧ t.queue q c ≠ s.queue q c) then 1 else 0 }) ∧
      (if s.failover.work ≠ [] ∨ s.failover.walk.isSome = true then
        if s.holdCount < 4096 then
          t.copy rec.tag = some { k with state := .held, port := none } ∧
            t.frame k.frame = some { f with ports := f.ports.filter (· ≠ p) } ∧
            t.heldCopies grp = s.heldCopies grp ++ [rec.tag] ∧
            (∀ h : GroupId, h ≠ grp → t.heldCopies h = s.heldCopies h) ∧
            t.queues.queues = s.queues.queues ∧ t.acct = s.acct ∧ t.admission = s.admission ∧
            t.cells = { s.cells with frames := t.cells.frames, copies := t.cells.copies } ∧
            s.completed t p n g []
        else
          s.lostCopy t rec.tag k f (s.countDrop .holdFull f.tenant) ∧ t.queues.queues = s.queues.queues ∧
            t.failover.hold = s.failover.hold ∧ s.completed t p n g (s.freedBy k.frame f)
      else
        t.failover.hold = s.failover.hold ∧
          match s.memberChoice grp f.flowHash with
          | none =>
            s.lostCopy t rec.tag k f (s.countDrop .noPath f.tenant) ∧ t.queues.queues = s.queues.queues ∧
              s.completed t p n g (s.freedBy k.frame f)
          | some q =>
            if q ∈ f.ports.filter (· ≠ p) then
              s.lostCopy t rec.tag k f (s.countMerged f.tenant) ∧ t.queues.queues = s.queues.queues ∧
                s.completed t p n g (s.freedBy k.frame f)
            else
              t.copy rec.tag = some { k with state := .queued, port := some q } ∧
                t.frame k.frame = some { f with ports := addPort q (f.ports.filter (· ≠ p)) } ∧
                t.queue q k.cls = s.queue q k.cls ++ [rec.tag] ∧
                (∀ (r : Port) (c : Cls), (r, c) ≠ (q, k.cls) → t.queue r c = s.queue r c) ∧
                t.acct = s.acct ∧ t.admission = s.admission ∧
                t.cells = { s.cells with frames := t.cells.frames, copies := t.cells.copies } ∧
                s.completed t p n g []) := by
  have hfs : (s.slotEmptied p n g).frame k.frame = some f := hf
  have hd := State.detached_eq (tag := rec.tag) (p := p) hfs
  have hww : ((s.slotEmptied p n g).detached rec.tag k p).walkWork = s.walkWork := by rw [hd]; rfl
  have hroom : ((s.slotEmptied p n g).detached rec.tag k p).holdCount = s.holdCount := by rw [hd]; rfl
  have hrow := exec_completion_aborted hc he hst hk
  rw [State.aborted_of_via hv, State.lateAbort_of_port hp, hww, hroom, State.rechoose_detached hfs] at hrow
  have hretired (cause : RetireCause) := State.completionEnd_retired hq
    (State.detached_retired (s := s.slotEmptied p n g) (tag := rec.tag) hp hfs cause) (State.detached_retire_outside hfs cause)
  by_cases hw : s.walkWork = true
  · rw [if_pos hw] at hrow
    simp only [if_pos (s.walkWork_iff.1 hw)]
    by_cases hh : s.holdCount < 4096
    · rw [if_pos (show s.holdCount < Config.holdRoom from hh)] at hrow
      simp only [if_pos hh]
      obtain ⟨hcopies, hframes, hring, h1, h2, h3, h4, hqueues, h5⟩ :=
        State.completionEnd_held (p := p) (n := n) (g := g) (grp := grp) (rec := rec) hq hf
      exact ⟨_, hrow, hcopies, hframes, owed_of_queues hqueues hring, h1, h2, h3, h4, hqueues, h5⟩
    · rw [if_neg (show ¬s.holdCount < Config.holdRoom from hh)] at hrow
      simp only [if_neg hh]
      obtain ⟨hlost, hcopies, hframes, hqueues, hhold, hring, hdone⟩ := hretired .holdFull
      exact ⟨_, hrow, hcopies, hframes, owed_of_queues hqueues hring, hlost, hqueues, hhold, hdone⟩
  · rw [if_neg hw] at hrow
    simp only [if_neg fun h => hw (s.walkWork_iff.2 h)]
    have hchoice : (s.slotEmptied p n g).memberChoice grp f.flowHash = s.memberChoice grp f.flowHash := rfl
    rw [hchoice] at hrow
    cases hm : s.memberChoice grp f.flowHash with
    | none =>
      rw [hm] at hrow
      obtain ⟨hlost, hcopies, hframes, hqueues, hhold, hring, hdone⟩ := hretired .noPath
      exact ⟨_, hrow, hcopies, hframes, owed_of_queues hqueues hring, hhold, hlost, hqueues, hdone⟩
    | some q =>
      rw [hm] at hrow
      dsimp only at hrow ⊢
      by_cases hin : q ∈ f.ports.filter (· ≠ p)
      · rw [if_pos hin] at hrow
        simp only [if_pos hin]
        obtain ⟨hlost, hcopies, hframes, hqueues, hhold, hring, hdone⟩ := hretired .merged
        exact ⟨_, hrow, hcopies, hframes, owed_of_queues hqueues hring, hhold, hlost, hqueues, hdone⟩
      · rw [if_neg hin] at hrow
        simp only [if_neg hin]
        obtain ⟨hcopies, hframes, hring, hhold, h1, h2, hjoin, hothers, h3⟩ :=
          State.completionEnd_joined (p := p) (n := n) (g := g) (rec := rec) hq hf q
        refine ⟨_, hrow, hcopies, hframes, fun r => (hring r).trans ?_, hhold, h1, h2, hjoin, hothers, h3⟩
        have howed : (r = q ∨ r = p) ↔ r = p ∨ ∃ c, rec.tag ∈ (s.completionEnd
            (((s.slotEmptied p n g).detached rec.tag k p).appendQueued rec.tag { k with port := none } q) p [q, p]).queue r c ∧
            (s.completionEnd (((s.slotEmptied p n g).detached rec.tag k p).appendQueued rec.tag { k with port := none } q) p
              [q, p]).queue r c ≠ s.queue r c := by
          constructor
          · rintro (rfl | h)
            · exact .inr ⟨k.cls, by rw [hjoin]; simp, by rw [hjoin]; simp⟩
            · exact .inl h
          · rintro (h | ⟨c, -, hne⟩)
            · exact .inr h
            · exact .inl (by_contra fun hr => hne (hothers r c fun e => hr (congrArg Prod.fst e)))
        rw [if_congr howed rfl rfl]
        rfl

end

/-- Settles O26: by the direct copy on a clear and on a drained port, and the via-group copy. -/
theorem abortedDirectCopyReturnsToHead : Obligations.AbortedDirectCopyReturnsToHead :=
  fun _ _ _ _ _ _ hq hc he hst hk =>
    ⟨abortedCopyReturns hq hc he hst hk, fun _ hv hd _ hf => abortedCopyOnDrained hq hc he hst hk hv hd hf,
      fun _ _ _ hv hp hf hports => hports ▸ abortedViaCopy hq hc he hst hk hv hp hf⟩

end Sys2Proof.Machine
end

section
/-! Refill runs (R4 to R6): the cells they issue, the free-cell entries they write, and what a read finds of these. -/
namespace Sys2Proof.Machine

/-! ## The entries of a free-cell ring -/

/-- One free-cell entry: its ring, its place there, the cell and the lap (R4). -/
structure RingEntry where
  port : Port
  pos : Nat
  cell : Nat
  lap : Bool

/-- The write of a free-cell entry (R4). -/
def State.issueWrite (s : State) (e : RingEntry) : BusWrite :=
  s.ownWrite (Config.freeCellRings + 0x800 * e.port + 4 * e.pos) (freeCellEntry e.cell e.lap)

/-- The lap at `k` places from the beginning of a ring in lap `lap` (R4). -/
def lapAt (lap : Bool) (k : Nat) : Bool := lap != decide (k / 512 % 2 = 1)

theorem lapAt_zero_div {lap : Bool} {k : Nat} (h : k < 512) : lapAt lap k = lap := by
  unfold lapAt
  rw [Nat.div_eq_of_lt h]
  cases lap <;> rfl

/-- Within two laps the lap turns once. -/
theorem lapAt_of_lt {lap : Bool} {k : Nat} (h : k < 1024) : lapAt lap k = (lap != decide (512 ≤ k)) := by
  unfold lapAt
  have : k / 512 % 2 = 1 ↔ 512 ≤ k := by omega
  rw [decide_eq_decide.2 this]

/-- The laps of two stretches of a ring one behind the other. -/
theorem lapAt_lapAt (lap : Bool) (k j : Nat) : lapAt (lapAt lap k) (k % 512 + j) = lapAt lap (k + j) := by
  unfold lapAt
  have hsum : (k + j) / 512 = k / 512 + (k % 512 + j) / 512 := by omega
  rw [hsum]
  rcases Nat.mod_two_eq_zero_or_one (k / 512) with h | h <;>
    rcases Nat.mod_two_eq_zero_or_one ((k % 512 + j) / 512) with h' | h' <;>
    simp [h, h', Nat.add_mod]

/-- The entries of cells from a place in a ring on, the oldest first. -/
def ringEntries (p : Port) (pos : Nat) (lap : Bool) (l : List Nat) : List RingEntry :=
  l.zipIdx.map fun x => ⟨p, (pos + x.2) % 512, x.1, lapAt lap (pos + x.2)⟩

theorem ringEntries_append (p : Port) (pos : Nat) (lap : Bool) (l m : List Nat) :
    ringEntries p pos lap (l ++ m) =
      ringEntries p pos lap l ++ m.zipIdx.map fun x => ⟨p, (pos + l.length + x.2) % 512, x.1, lapAt lap (pos + l.length + x.2)⟩ := by
  unfold ringEntries
  rw [List.zipIdx_append, List.map_append, List.zipIdx_eq_map_add (l := m), List.map_map]
  congr 1
  refine List.map_congr_left fun x _ => ?_
  simp only [Function.comp_apply, Nat.zero_add, Nat.add_assoc]

theorem ringEntries_cons (p : Port) (pos : Nat) (lap : Bool) (c : Nat) (l : List Nat) (h : pos < 512) :
    ringEntries p pos lap (c :: l) = ⟨p, pos, c, lap⟩ :: ringEntries p (nextRingPos pos lap).1 (nextRingPos pos lap).2 l := by
  have happ := ringEntries_append p pos lap [c] l
  rw [List.singleton_append] at happ
  rw [happ]
  have hone : ringEntries p pos lap [c] = [⟨p, pos, c, lap⟩] := by
    show [(⟨p, (pos + 0) % 512, c, lapAt lap (pos + 0)⟩ : RingEntry)] = _
    rw [Nat.add_zero, Nat.mod_eq_of_lt h, lapAt_zero_div h]
  rw [hone, List.singleton_append]
  congr 1
  refine List.map_congr_left fun x _ => ?_
  unfold nextRingPos
  by_cases hp : pos ≥ 511
  · have hpos : pos = 511 := by omega
    subst hpos
    rw [if_pos hp]
    have hlap := lapAt_lapAt lap 512 x.2
    rw [show lapAt lap 512 = !lap by cases lap <;> rfl] at hlap
    show (⟨p, (512 + x.2) % 512, x.1, lapAt lap (512 + x.2)⟩ : RingEntry) = ⟨p, (0 + x.2) % 512, x.1, lapAt (!lap) (0 + x.2)⟩
    rw [← hlap, show (512 + x.2) % 512 = (0 + x.2) % 512 by omega]
  · rw [if_neg hp]
    rfl

theorem State.freeCellWrites_eq (s : State) (p : Port) (l : List Nat) (pos : Nat) (lap : Bool) (h : pos < 512) :
    s.freeCellWrites p pos lap l = ((ringEntries p pos lap l).map s.issueWrite).reverse := by
  induction l generalizing pos lap with
  | nil => rfl
  | cons c l ih =>
    have hnext : (nextRingPos pos lap).1 < 512 := by unfold nextRingPos; split <;> simp only <;> omega
    rw [ringEntries_cons p pos lap c l h, List.map_cons, List.reverse_cons, ← ih _ _ hnext]
    rfl

/-! ## Cells issued -/

/-- The entries `new` have been written between `s` and `t` for cells `given` to each port, the oldest first (R4). -/
structure Written (s t : State) (given : Port → List Nat) (new : List RingEntry) : Prop where
  inRange : ∀ p : Port, (t.cellPort p).pos < 512
  ring : ∀ p : Port, (given p).length ≤ 512 →
    (t.cellPort p).pos = ((s.cellPort p).pos + (given p).length) % 512 ∧
      (t.cellPort p).lap = lapAt (s.cellPort p).lap ((s.cellPort p).pos + (given p).length)
  writes : t.bus.writes = (new.map s.issueWrite).reverse ++ s.bus.writes
  places : ∀ e ∈ new, e.pos < 512
  entries : ∀ p : Port, (given p).length ≤ 512 →
    new.filter (fun e => e.port = p) = ringEntries p (s.cellPort p).pos (s.cellPort p).lap (given p)

/-- Between `s` and `t` each port has been issued the cells `given`, at the newest end of its issued list, and the entries
`new` have been written, where the ring positions are in range (R4, R6). -/
structure Issues (s t : State) (given : Port → List Nat) (new : List RingEntry) : Prop where
  winbase : t.path.winbase = s.path.winbase
  issued : ∀ p : Port, Runs.toList (t.cellPort p).issued = Runs.toList (s.cellPort p).issued ++ given p
  written : (∀ p : Port, (s.cellPort p).pos < 512) → Written s t given new

namespace Issues

variable {s t u : State} {given given' : Port → List Nat} {new new' : List RingEntry}

theorem refl (s : State) : Issues s s (fun _ => []) [] where
  winbase := rfl
  issued _ := (List.append_nil _).symm
  written h :=
    ⟨h, fun p _ => ⟨(Nat.mod_eq_of_lt (h p)).symm, (lapAt_zero_div (h p)).symm⟩, rfl,
      fun _ he => absurd he List.not_mem_nil, fun _ _ => rfl⟩

theorem issueWrite_congr (h : t.path.winbase = s.path.winbase) : t.issueWrite = s.issueWrite := by
  funext e
  unfold State.issueWrite State.ownWrite State.windowAddr
  rw [h]

theorem trans (h : Issues s t given new) (k : Issues t u given' new') :
    Issues s u (fun p => given p ++ given' p) (new ++ new') where
  winbase := k.winbase.trans h.winbase
  issued p := by rw [k.issued, h.issued, List.append_assoc]
  written hpos := by
    have hw := h.written hpos
    have kw := k.written hw.inRange
    refine ⟨kw.inRange, fun p hl => ?_, ?_, fun e he => (List.mem_append.1 he).elim (hw.places e) (kw.places e), fun p hl => ?_⟩
    · rw [List.length_append] at hl ⊢
      obtain ⟨h1, h2⟩ := hw.ring p (by omega)
      obtain ⟨k1, k2⟩ := kw.ring p (by omega)
      rw [k1, k2, h1, h2, lapAt_lapAt, Nat.add_assoc]
      exact ⟨by omega, rfl⟩
    · rw [kw.writes, hw.writes, issueWrite_congr h.winbase, List.map_append, List.reverse_append, List.append_assoc]
    · rw [List.length_append] at hl
      obtain ⟨h1, h2⟩ := hw.ring p (by omega)
      rw [List.filter_append, hw.entries p (by omega), kw.entries p (by omega), ringEntries_append, h1, h2]
      congr 1
      refine List.map_congr_left fun x _ => ?_
      rw [lapAt_lapAt, show (((s.cellPort p).pos + (given p).length) % 512 + x.2) % 512 =
        ((s.cellPort p).pos + (given p).length + x.2) % 512 by omega]

end Issues

/-! ## One port's share of a refill run -/

section
variable (s : State) (p : Port) (n : Nat)

theorem State.issueCells_cellPort (q : Port) :
    (s.issueCells p n).cellPort q =
      if q = p then
        { issued := Runs.append (s.cellPort p).issued (Runs.take n s.cells.freeList), pos := ((s.cellPort p).pos + n) % 512,
          lap := if 512 ≤ (s.cellPort p).pos + n then !(s.cellPort p).lap else (s.cellPort p).lap }
      else s.cellPort q := State.setCellPort_cellPort ..

theorem State.issueCells_freeList : (s.issueCells p n).cells.freeList = Runs.drop n s.cells.freeList := rfl

theorem State.issueCells_writes (h : (s.cellPort p).pos < 512) :
    (s.issueCells p n).bus.writes =
      ((ringEntries p (s.cellPort p).pos (s.cellPort p).lap ((Runs.toList s.cells.freeList).take n)).map s.issueWrite).reverse ++
        s.bus.writes := by
  rw [← State.freeCellWrites_eq _ _ _ _ _ h, ← Runs.toList_take]
  rfl

end

/-- The cells that a refill run of `s` gives port `p` where the free list reaches (R5, R6). -/
def State.refillShort (s : State) (p : Port) : Nat :=
  refillTarget s.admission.shed (s.portEntry p).issueTarget - s.issuedCount p

/-- The cells that port `p` is given first of all (R6). -/
def State.refillShare (s : State) (p : Port) : List Nat := (Runs.toList s.cells.freeList).take (s.refillNeed p)

section
variable {s : State} {p : Port}

theorem State.refillShare_length (s : State) (p : Port) : (s.refillShare p).length = s.refillNeed p := by
  unfold State.refillShare
  rw [List.length_take, Runs.size_toList]
  exact min_eq_left (min_le_right _ _)

/-- What the share of one port in a refill run does (R6). -/
theorem State.refillPort_issues (s : State) (p : Port) :
    Issues s (s.refillPort p) (fun q => if q = p then s.refillShare p else [])
        (ringEntries p (s.cellPort p).pos (s.cellPort p).lap (s.refillShare p)) ∧
      Runs.toList s.cells.freeList = s.refillShare p ++ Runs.toList (s.refillPort p).cells.freeList ∧
      (∀ q : Port, q ≠ p → (s.refillPort p).cellPort q = s.cellPort q) := by
  have hlen := s.refillShare_length p
  unfold State.refillPort
  by_cases h0 : s.refillNeed p = 0
  · have hnil : s.refillShare p = [] := List.length_eq_zero_iff.1 (hlen.trans h0)
    rw [if_pos h0, hnil]
    have hgiven : (fun q : Port => if q = p then ([] : List Nat) else []) = fun _ => [] := by funext q; split <;> rfl
    rw [hgiven]
    exact ⟨.refl s, rfl, fun _ _ => rfl⟩
  · rw [if_neg h0]
    have hport := State.issueCells_cellPort s p (s.refillNeed p)
    refine ⟨⟨rfl, fun q => ?_, fun hpos => ⟨fun q => ?_, fun q hq => ?_, State.issueCells_writes s p _ (hpos p), fun e he => ?_,
      fun q hq => ?_⟩⟩, ?_, fun q hq => ?_⟩
    · rw [hport]
      by_cases hqp : q = p
      · rw [if_pos hqp, if_pos hqp, Runs.toList_append, Runs.toList_take, hqp]; rfl
      · rw [if_neg hqp, if_neg hqp, List.append_nil]
    · rw [hport]
      split
      · exact Nat.mod_lt _ (by decide)
      · exact hpos q
    · rw [hport]
      by_cases hqp : q = p
      · subst hqp
        rw [if_pos rfl] at hq ⊢
        have hp := hpos q
        rw [hlen] at hq
        rw [if_pos rfl, hlen, lapAt_of_lt (by omega)]
        refine ⟨rfl, ?_⟩
        dsimp only
        by_cases hw : 512 ≤ (s.cellPort q).pos + s.refillNeed q
        · rw [if_pos hw, decide_eq_true hw]; cases (s.cellPort q).lap <;> rfl
        · rw [if_neg hw, decide_eq_false hw]; cases (s.cellPort q).lap <;> rfl
      · rw [if_neg hqp, if_neg hqp, List.length_nil, Nat.add_zero, Nat.mod_eq_of_lt (hpos q), lapAt_zero_div (hpos q)]
        exact ⟨rfl, rfl⟩
    · obtain ⟨x, -, rfl⟩ := List.mem_map.1 he
      exact Nat.mod_lt _ (by decide)
    · by_cases hqp : q = p
      · subst hqp
        rw [if_pos rfl]
        refine List.filter_eq_self.2 fun e he => ?_
        obtain ⟨x, -, rfl⟩ := List.mem_map.1 he
        exact decide_eq_true rfl
      · rw [if_neg hqp]
        refine List.filter_eq_nil_iff.2 fun e he => ?_
        obtain ⟨x, -, rfl⟩ := List.mem_map.1 he
        simpa using fun e => hqp e.symm
    · rw [State.issueCells_freeList, Runs.toList_drop]
      exact (List.take_append_drop _ _).symm
    · rw [hport, if_neg hq]

/-! ## A refill run -/

/-- The ports `l` have been refilled in order between `s` and `t` (R6). -/
structure Refilled (l : List Port) (s t : State) (given : Port → List Nat) : Prop where
  issues : Issues s t given (l.flatMap fun p => ringEntries p (s.cellPort p).pos (s.cellPort p).lap (given p))
  others : ∀ p, p ∉ l → given p = []
  free : Runs.toList s.cells.freeList = l.flatMap given ++ Runs.toList t.cells.freeList
  bound : ∀ p, (given p).length ≤ s.refillShort p
  full : (l.map s.refillShort).sum ≤ s.freeCount → ∀ p ∈ l, (given p).length = s.refillShort p

theorem Refilled.foldl (l : List Port) (hnd : l.Nodup) (s : State) :
    ∃ given, Refilled l s (l.foldl State.refillPort s) given := by
  induction l generalizing s with
  | nil =>
    exact ⟨fun _ => [], .refl s, fun _ _ => rfl, rfl, fun _ => Nat.zero_le _, fun _ p hp => absurd hp List.not_mem_nil⟩
  | cons p l ih =>
    obtain ⟨hp, hnd⟩ := List.nodup_cons.1 hnd
    obtain ⟨h1, hfree, hothers⟩ := State.refillPort_issues s p
    obtain ⟨given, hg⟩ := ih hnd (s.refillPort p)
    have hneed := s.refillShare_length p
    have hshort (q : Port) (hq : q ≠ p) : (s.refillPort p).refillShort q = s.refillShort q := by
      have htables : (s.refillPort p).tables = s.tables := (s.refillPort_outside p).tables
      unfold State.refillShort State.issuedCount State.portEntry
      rw [State.refillPort_admission, hothers q hq, htables]
    have hmem (q : Port) (hq : q ∈ l) : q ≠ p := fun e => hp (e ▸ hq)
    have hcount : s.freeCount = s.refillNeed p + (s.refillPort p).freeCount := by
      unfold State.freeCount
      rw [← Runs.size_toList, ← Runs.size_toList, hfree, List.length_append, hneed]
    have hall : (fun q => (if q = p then s.refillShare p else []) ++ given q) =
        fun q => if q = p then s.refillShare p else given q := by
      funext q
      by_cases hq : q = p
      · rw [if_pos hq, if_pos hq, hg.others q (hq ▸ hp), List.append_nil]
      · rw [if_neg hq, if_neg hq, List.nil_append]
    have hlist : (l.flatMap fun q => if q = p then s.refillShare p else given q) = l.flatMap given :=
      List.flatMap_congr fun q hq => if_neg (hmem q hq)
    refine ⟨fun q => if q = p then s.refillShare p else given q, ?_, fun q hq => ?_, ?_, fun q => ?_, fun hsum q hq => ?_⟩
    · have hiss := h1.trans hg.issues
      rw [hall] at hiss
      rw [List.flatMap_cons, if_pos rfl, List.foldl_cons]
      rw [List.flatMap_congr (g := fun q => ringEntries q (s.cellPort q).pos (s.cellPort q).lap
        (if q = p then s.refillShare p else given q)) fun q hq => by rw [hothers q (hmem q hq), if_neg (hmem q hq)]] at hiss
      exact hiss
    · obtain ⟨hqp, hql⟩ := not_or.1 (mt List.mem_cons.2 hq)
      rw [if_neg hqp, hg.others q hql]
    · rw [List.flatMap_cons, if_pos rfl, hlist, hfree, hg.free, List.append_assoc]
      rfl
    · by_cases hq : q = p
      · rw [if_pos hq, hneed, hq]; exact min_le_left _ _
      · rw [if_neg hq, ← hshort q hq]; exact hg.bound q
    · rw [List.map_cons, List.sum_cons] at hsum
      have hfirst : s.refillNeed p = s.refillShort p := min_eq_left (by unfold State.refillShort at hsum; omega)
      by_cases hqp : q = p
      · rw [if_pos hqp, hneed, hqp, hfirst]
      · have hrest : (l.map (s.refillPort p).refillShort).sum ≤ (s.refillPort p).freeCount := by
          rw [List.map_congr_left fun r hr => hshort r (hmem r hr)]
          omega
        rw [if_neg hqp, hg.full hrest q ((List.mem_cons.1 hq).resolve_left hqp), hshort q hqp]

/-- What a refill run does; outside ACTIVE, nothing (R6). -/
theorem State.refillRun_refilled (s : State) :
    ∃ given, Issues s s.refillRun given (allPorts.flatMap fun p => ringEntries p (s.cellPort p).pos (s.cellPort p).lap (given p)) ∧
      Runs.toList s.cells.freeList = allPorts.flatMap given ++ Runs.toList s.refillRun.cells.freeList ∧
      (∀ p, (given p).length ≤ s.refillShort p) ∧
      (s.isActive = true → (allPorts.map s.refillShort).sum ≤ s.freeCount → ∀ p, (given p).length = s.refillShort p) := by
  unfold State.refillRun
  by_cases ha : s.isActive = true
  · rw [if_pos ha]
    obtain ⟨given, h⟩ := Refilled.foldl allPorts nodup_allPorts s
    exact ⟨given, h.issues, h.free, h.bound, fun _ hsum p => h.full hsum p (mem_allPorts p)⟩
  · rw [if_neg ha]
    have hnil : (allPorts.flatMap fun p => ringEntries p (s.cellPort p).pos (s.cellPort p).lap []) = [] :=
      List.flatMap_eq_nil_iff.2 fun _ _ => rfl
    refine ⟨fun _ => [], ?_, ?_, fun _ => Nat.zero_le _, fun h => absurd h ha⟩
    · rw [hnil]; exact .refl s
    · rw [List.flatMap_eq_nil_iff.2 fun _ _ => rfl]; rfl

end

end Sys2Proof.Machine
end

section
/-! What a read finds of the free-cell entries that have been written (R4), and the conservation of cells by a refill run
(R6). -/
namespace Sys2Proof.Machine

theorem freeCellEntry_length (c : Nat) (lap : Bool) : (freeCellEntry c lap).length = 4 := by
  unfold freeCellEntry
  rw [List.length_append, leBytes_length]
  rfl

/-- Entries in different places of the free-cell rings do not touch. -/
theorem State.issueWrite_clearOf (s : State) {e : RingEntry} {p : Port} {n : Nat} (he : e.pos < 512) (hn : n < 512)
    (h : e.port ≠ p ∨ e.pos ≠ n) : (s.issueWrite e).clearOf (s.windowAddr (Config.freeCellRings + 0x800 * p + 4 * n)) 4 := by
  have hp : e.port ≠ p → (e.port : Nat) ≠ p := fun hne he => hne (Fin.ext he)
  refine s.ownWrite_clearOf ?_
  rw [freeCellEntry_length]
  rcases h with h | h
  · have := hp h
    omega
  · by_cases hq : e.port = p
    · rw [hq]
      omega
    · have := hp hq
      omega

theorem ringEntries_mem {p : Port} {pos : Nat} {lap : Bool} {l : List Nat} {e : RingEntry} :
    e ∈ ringEntries p pos lap l ↔ ∃ i, ∃ h : i < l.length, e = ⟨p, (pos + i) % 512, l[i], lapAt lap (pos + i)⟩ := by
  unfold ringEntries
  simp only [List.mem_map, Prod.exists, List.mk_mem_zipIdx_iff_getElem?]
  constructor
  · rintro ⟨c, i, hi, rfl⟩
    obtain ⟨h, rfl⟩ := List.getElem?_eq_some_iff.1 hi
    exact ⟨i, h, rfl⟩
  · rintro ⟨i, h, rfl⟩
    exact ⟨l[i], i, List.getElem?_eq_getElem h, rfl⟩

/-- A read behind the writes of issued cells finds the entry of each (R4). -/
theorem Written.readBytes {s t r : State} {given : Port → List Nat} {new : List RingEntry} {newer rest : List BusWrite}
    (h : Written s t given new) (hw : r.path.winbase = s.path.winbase)
    (hsent : r.bus.sent = (newer ++ (new.map s.issueWrite).reverse) ++ rest) (p : Port) (hl : (given p).length ≤ 512) {i : Nat}
    (hi : i < (given p).length)
    (hclear : ∀ x ∈ newer,
      x.clearOf (s.windowAddr (Config.freeCellRings + 0x800 * p + 4 * (((s.cellPort p).pos + i) % 512))) 4) :
    r.readBytes (Config.freeCellRings + 0x800 * p + 4 * (((s.cellPort p).pos + i) % 512)) 4 =
      (freeCellEntry (given p)[i] (lapAt (s.cellPort p).lap ((s.cellPort p).pos + i))).map some := by
  have hentries := h.entries p hl
  have hmem : (⟨p, ((s.cellPort p).pos + i) % 512, (given p)[i], lapAt (s.cellPort p).lap ((s.cellPort p).pos + i)⟩ : RingEntry) ∈
      new.filter fun e => e.port = p := by
    rw [hentries]
    exact ringEntries_mem.2 ⟨i, hi, rfl⟩
  have hread := State.readBytes_of_mem (s := s) (t := r) (rest := rest)
    (off := Config.freeCellRings + 0x800 * p + 4 * (((s.cellPort p).pos + i) % 512))
    (bytes := freeCellEntry (given p)[i] (lapAt (s.cellPort p).lap ((s.cellPort p).pos + i))) hw hsent
    (List.mem_append_right _ (List.mem_reverse.2 (List.mem_map.2 ⟨_, (List.mem_filter.1 hmem).1, rfl⟩))) fun x hx => by
      rw [freeCellEntry_length]
      rcases List.mem_append.1 hx with hx | hx
      · exact .inr (hclear x hx)
      · obtain ⟨e, he, rfl⟩ := List.mem_map.1 (List.mem_reverse.1 hx)
        by_cases hp : e.port = p
        · have hin : e ∈ new.filter fun e => e.port = p := List.mem_filter.2 ⟨he, decide_eq_true hp⟩
          rw [hentries] at hin
          obtain ⟨j, hj, rfl⟩ := ringEntries_mem.1 hin
          by_cases hji : j = i
          · subst hji; exact .inl rfl
          · exact .inr (s.issueWrite_clearOf (Nat.mod_lt _ (by decide)) (Nat.mod_lt _ (by decide))
              (.inr (by show ((s.cellPort p).pos + j) % 512 ≠ _; omega)))
        · exact .inr (s.issueWrite_clearOf (h.places e he) (Nat.mod_lt _ (by decide)) (.inl hp))
  rw [freeCellEntry_length] at hread
  exact hread

/-! ## The refill run by itself -/

theorem Issues.issuedCount {s t : State} {given : Port → List Nat} {new : List RingEntry} (h : Issues s t given new) (p : Port) :
    t.issuedCount p = s.issuedCount p + (given p).length := by
  unfold State.issuedCount
  rw [← Runs.size_toList, h.issued, List.length_append, Runs.size_toList]

/-- The cells issued have left the free list (R6). -/
theorem Issues.conserves {s t : State} {given : Port → List Nat} {new : List RingEntry} (h : Issues s t given new)
    (hfree : (Runs.toList s.cells.freeList).length = (allPorts.flatMap given).length + (Runs.toList t.cells.freeList).length) :
    t.freeCount + (allPorts.map t.issuedCount).sum = s.freeCount + (allPorts.map s.issuedCount).sum := by
  have hsum : (allPorts.map t.issuedCount).sum = (allPorts.map s.issuedCount).sum + (allPorts.flatMap given).length := by
    rw [List.length_flatMap, ← List.sum_map_add]
    exact congrArg List.sum (List.map_congr_left fun p _ => h.issuedCount p)
  unfold State.freeCount
  rw [hsum, ← Runs.size_toList, ← Runs.size_toList, hfree]
  omega

theorem State.refillRun_bus (s : State) : s.refillRun.bus = { s.bus with writes := s.refillRun.bus.writes } := by
  have foldl (l : List Port) (u : State) : (l.foldl State.refillPort u).bus = { u.bus with writes := (l.foldl State.refillPort u).bus.writes } := by
    induction l generalizing u with
    | nil => rfl
    | cons p l ih =>
      rw [List.foldl_cons, ih]
      have : (u.refillPort p).bus = { u.bus with writes := (u.refillPort p).bus.writes } := by
        unfold State.refillPort
        split <;> rfl
      rw [this]
  unfold State.refillRun
  split
  · exact foldl _ _
  · rfl

/-- The refill run of O59: conservation, the bounds of each port, and the entries it leaves in memory. -/
theorem State.refillRun_conserves (s : State) :
    s.refillRun.freeCount + (allPorts.map s.refillRun.issuedCount).sum = s.freeCount + (allPorts.map s.issuedCount).sum ∧
      ∀ p : Port,
        s.issuedCount p ≤ s.refillRun.issuedCount p ∧
          s.refillRun.issuedCount p ≤ max (s.issuedCount p) (refillTarget s.admission.shed (s.portEntry p).issueTarget) ∧
          (s.positionsOk → s.quiet → s.refillRun.issuedCount p - s.issuedCount p ≤ 512 →
            ∀ i < s.refillRun.issuedCount p - s.issuedCount p,
              s.refillRun.finish.readBytes (Config.freeCellRings + 0x800 * p + 4 * (((s.cellPort p).pos + i) % 512)) 4 =
                (leBytes 2 ((Runs.toList (s.refillRun.cellPort p).issued).getD (s.issuedCount p + i) 0) ++
                  [(0 : Byte), if (s.cellPort p).lap != decide (512 ≤ (s.cellPort p).pos + i) then 0x80 else 0]).map some) := by
  obtain ⟨given, hiss, hfree, hbound, -⟩ := s.refillRun_refilled
  refine ⟨hiss.conserves (by rw [hfree, List.length_append]), fun p => ?_⟩
  have hcount := hiss.issuedCount p
  have hb := hbound p
  unfold State.refillShort at hb
  refine ⟨by omega, by omega, fun hpos hq hle i hi => ?_⟩
  obtain ⟨h1, h2, h3⟩ := hq
  have hp : ∀ q : Port, (s.cellPort q).pos < 512 := fun q => (hpos q).2.2.1
  have hwr := hiss.written hp
  have hlen : (given p).length ≤ 512 := by omega
  have hi' : i < (given p).length := by omega
  have hsent : s.refillRun.finish.bus.sent = ([] ++ ((allPorts.flatMap fun p =>
      ringEntries p (s.cellPort p).pos (s.cellPort p).lap (given p)).map s.issueWrite).reverse) ++ s.bus.sent := by
    show s.refillRun.bus.statuses ++ (s.refillRun.bus.notices ++ (s.refillRun.bus.writes ++ s.refillRun.bus.sent)) = _
    rw [hwr.writes, s.refillRun_bus, h1]
    dsimp only
    rw [h2, h3]
    simp
  have hread := hwr.readBytes (r := s.refillRun.finish) hiss.winbase hsent p hlen hi' fun x hx => absurd hx List.not_mem_nil
  have hget : (Runs.toList (s.refillRun.cellPort p).issued).getD (s.issuedCount p + i) 0 = (given p)[i] := by
    have hsize : s.issuedCount p = (Runs.toList (s.cellPort p).issued).length := (Runs.size_toList _).symm
    rw [hiss.issued, hsize, List.getD_append_right _ _ _ _ (Nat.le_add_right _ _), Nat.add_sub_cancel_left,
      List.getD_eq_getElem _ _ hi']
  rw [hread, hget, lapAt_of_lt (by have := hp p; omega)]
  rfl

end Sys2Proof.Machine
end

section
/-! START (R168): the blocks it restarts, its first refill run and the shed level evaluated behind it (O46, O47). -/
namespace Sys2Proof.Machine

/-! ## The report of the free count from NORMAL -/

/-- The level that the free count calls for from NORMAL (R80). -/
def State.levelFromNormal (s : State) : ShedLevel :=
  if s.freeCount < s.tables.globalEntry.criticalFloor then .critical
  else if s.freeCount < s.tables.globalEntry.tightFloor then .tight
  else .normal

/-- The notice of that level (R81). -/
def State.fallAsks (s : State) : List NoticeAsk :=
  if s.levelFromNormal = .normal then []
  else [{ kind := .shedLevel, subject := 0, first := s.levelFromNormal.code, second := s.freeCount }]

/-- From NORMAL the level can but fall: no refill run follows (R6, R80, R81). -/
theorem State.report_of_normal {s : State} (h : s.admission.shed = .normal) :
    s.report = ({ s with admission := { s.admission with shed := s.levelFromNormal } } : State).noticed s.fallAsks := by
  have hl : evaluateShed s.tables.globalEntry s.admission.shed s.freeCount = s.levelFromNormal := by rw [h]; rfl
  unfold State.report State.fallAsks
  by_cases hn : s.levelFromNormal = .normal
  · rw [State.reportFree_of_same hl 3 (hn.trans h.symm), if_pos hn, hn, ← h]
    rfl
  · rw [State.reportFree_of_fall hl 2 (h ▸ hn) (by rw [h]; cases s.levelFromNormal <;> rfl), if_neg hn, State.setShed, h]
    simp only [ShedLevel.code, Nat.mul_zero, Nat.zero_add]
    rfl

/-- Notices read the window base, the timebase and the notice writer alone. -/
theorem State.noticed_reads {u v : State} (hw : v.path.winbase = u.path.winbase) (ht : v.live.timebase = u.live.timebase)
    (hn : v.notices = u.notices) (hb : v.bus.notices = u.bus.notices) (l : List NoticeAsk) :
    (v.noticed l).notices = (u.noticed l).notices ∧ (v.noticed l).bus.notices = (u.noticed l).bus.notices := by
  induction l generalizing u v with
  | nil => exact ⟨hn, hb⟩
  | cons a l ih =>
    rw [State.noticed_cons, State.noticed_cons]
    have hown (off : Nat) (b : List Byte) : v.ownWrite off b = u.ownWrite off b := by
      unfold State.ownWrite State.windowAddr; rw [hw]
    refine ih (by simpa using hw) (by simpa using ht) ?_ ?_ <;> unfold State.ask <;> rw [hn]
    · split <;> rfl
    · split
      · exact hb
      · show _ :: _ = _ :: _
        rw [hown, hb, show v.now = u.now from ht]

/-! ## The steps of START -/

section
variable (w : SlotWrite) (s : State)

/-- The part behind START's steps 1 to 8, the command word taken. -/
def State.restarted : State := (s.started 1 w).startBlocks

theorem State.restarted_eq :
    s.restarted w =
      { s.started 1 w with
        cells := (s.restarted w).cells
        intake := []
        queues := (s.restarted w).queues
        live := { s.live with ports := (s.restarted w).live.ports }
        admission := { s.admission with shed := .normal }
        acct := { s.acct with openTime := s.now }
        lookup := { s.lookup with
          agingTimer := some (s.now + BitVec.ofNat 32 (agingSpan s.tables.globalEntry.agingPeriod)) }
        path := { (s.started 1 w).path with mode := .active } } := by
  have h := (s.started 1 w).startBlocks_eq
  unfold State.restarted
  generalize (s.started 1 w).startBlocks = b at h ⊢
  generalize (s.started 1 w).startCells.startIntake.startEgress.startLive.live.ports = ports at h ⊢
  generalize (s.started 1 w).startCells.startIntake.startEgress.queues = queues at h ⊢
  generalize (s.started 1 w).startCells.cells = cells at h ⊢
  subst h
  rfl

theorem State.restarted_path : (s.restarted w).path = { (s.started 1 w).path with mode := .active } := by
  unfold State.restarted
  rw [(s.started 1 w).startBlocks_eq]

/-- START restarts the free lists and the rings of the cell manager (R18). -/
theorem State.restarted_cells :
    (s.restarted w).cells =
      { s.cells with
        freeList := [(0, Config.cells)], freeCopies := [(0, Config.copies)], ports := (s.restarted w).cells.ports } := by
  have hb : (s.restarted w).cells = (s.started 1 w).startCells.cells := by
    unfold State.restarted
    rw [(s.started 1 w).startBlocks_eq]
  rw [hb]
  exact (s.started 1 w).startCells_cells

theorem State.restarted_queues : (s.restarted w).queues.queues = s.queues.queues := by
  have hb : (s.restarted w).queues = (s.started 1 w).startCells.startIntake.startEgress.queues := by
    unfold State.restarted
    rw [(s.started 1 w).startBlocks_eq]
  rw [hb, State.startEgress_queues, State.startIntake_queues, State.startCells_queues]
  rfl

theorem State.restarted_cellPort (p : Port) : (s.restarted w).cellPort p = { s.cellPort p with pos := 0, lap := true } :=
  (s.started 1 w).startBlocks_cellPort p

theorem State.restarted_egressPort (p : Port) :
    (s.restarted w).egressPort p = { s.egressPort p with slots := [], nextWrite := 0, lap := true, phase := 0 } :=
  (s.started 1 w).startBlocks_egressPort p

theorem State.restarted_livePort (p : Port) :
    (s.restarted w).livePort p = { s.livePort p with state := .down, trial := none, stall := none, drain := none } :=
  (s.started 1 w).startBlocks_livePort p

theorem State.restarted_outside :
    s.sameOutside [.path, .cells, .intake, .lookup, .admission, .queues, .live, .acct, .slots, .bus] (s.restarted w) := by
  rw [State.restarted_eq]
  simp [State.sameOutside, State.started, State.startSlot, State.takeArgs, State.setSlot, State.setArgs, State.forward]

theorem State.restarted_args {k : SlotId} (hk : k ≠ w.slot) : (s.restarted w).args k = s.args k := by
  have : (s.restarted w).args k = (s.started 1 w).args k := by unfold State.args; rw [State.restarted_eq]
  rw [this]
  exact (State.setArgs_args _ _ _ _).trans (if_neg hk)

/-! ## Its first refill run and the report of it -/

/-- START up to its status word. -/
def State.startReported : State := (s.restarted w).refillRun.report

theorem State.startReported_eq :
    s.startReported w =
      ({ (s.restarted w).refillRun with
          admission := { s.admission with shed := (s.restarted w).refillRun.levelFromNormal } } : State).noticed
        (s.restarted w).refillRun.fallAsks := by
  have hadm : (s.restarted w).refillRun.admission = { s.admission with shed := .normal } := by
    rw [State.refillRun_admission, State.restarted_eq]
  unfold State.startReported
  rw [State.report_of_normal (by rw [hadm]), hadm]

theorem State.startReported_outside :
    (s.restarted w).sameOutside [.cells, .admission, .notices, .bus] (s.startReported w) :=
  ((s.restarted w).refillRun_outside.mono (by decide)).trans (s.restarted w).refillRun.report_outside

/-- The report evaluates the shed level; the cells stand as the refill run leaves them. -/
theorem State.startReported_spec :
    (s.startReported w).cells = (s.restarted w).refillRun.cells ∧
      (s.startReported w).admission = { s.admission with shed := (s.restarted w).refillRun.levelFromNormal } := by
  rw [State.startReported_eq, State.noticed_eq]
  generalize (s.restarted w).refillRun = r
  exact ⟨rfl, rfl⟩

theorem State.startReported_statuses : (s.startReported w).bus.statuses = s.bus.statuses := by
  have hrun : (s.restarted w).refillRun.bus.statuses = (s.restarted w).bus.statuses := by rw [State.refillRun_bus]
  have hb : (s.restarted w).bus.statuses = s.bus.statuses := by rw [State.restarted_eq]; rfl
  rw [State.startReported_eq, State.noticed_eq, ← hb, ← hrun]

end

theorem exec_start {w : SlotWrite} {s : State} (hfree : s.free w.slot) (hp : s.path.mode = .passive) :
    exec (.start w) s = .next ((s.startReported w).done w.slot .none 0).finish := by
  have hmode : ¬(s.started 1 w).isActive = true := by
    rw [State.isActive_eq_true]
    show ¬s.path.mode = .active
    rw [hp]
    decide
  have hrow := exec_commandRow_of_free hfree 1
  show exec (commandRow 1 w) s = _
  rw [hrow]
  show _ = _
  have hbody : (s.started 1 w).commandBody 1 w.slot = (s.started 1 w).startPart w.slot := if_neg hmode
  rw [hbody]
  rfl

/-- START's status word is its last write (R166). -/
theorem State.start_sent {w : SlotWrite} {s v : State} (hq : s.quiet) (hv : v.slots = (s.started 1 w).slots)
    (hw : v.path.winbase = s.path.winbase) (hst : v.bus.statuses = s.bus.statuses) :
    (v.done w.slot .none 0).finish.bus.sent =
      s.endWrite w.slot .done w.tag :: (v.bus.notices ++ (v.bus.writes ++ v.bus.sent)) := by
  have htag : (v.slot w.slot).tag = w.tag := by
    rw [show v.slot w.slot = (s.started 1 w).slot w.slot by unfold State.slot; rw [hv], State.started_slot]
  have hown (off : Nat) (b : List Byte) : v.ownWrite off b = s.ownWrite off b := by
    unfold State.ownWrite State.windowAddr; rw [hw]
  show v.ownWrite _ _ :: v.bus.statuses ++ (v.bus.notices ++ (v.bus.writes ++ v.bus.sent)) = _
  rw [hst, hq.2.2, htag, hown]
  rfl

/-- Settles O46. -/
theorem startMakesPartActive : Obligations.StartMakesPartActive := fun w s hfree hp => by
  have hrow := exec_start hfree hp
  have hbout := s.restarted_outside w
  have hrout := s.startReported_outside w
  obtain ⟨hcells, hadm⟩ := s.startReported_spec w
  have hrec := (SameRecords.refl (s.restarted w)).refillRun
  have hbcells := s.restarted_cells w
  have hb := s.restarted_eq w
  have hbpath := s.restarted_path w
  have hslots : (s.startReported w).slots = (s.started 1 w).slots := by
    rw [hrout.slots, hb]
  have hpath : (s.startReported w).path = { (s.started 1 w).path with mode := .active } :=
    hrout.path.trans (s.restarted_path w)
  have hst := s.startReported_statuses w
  have hargs := fun (k : SlotId) (hk : k ≠ w.slot) => s.restarted_args w hk
  have hegress := s.restarted_egressPort w
  have hlive := s.restarted_livePort w
  have hqueues := s.restarted_queues w
  have hend : (s.startReported w).sameOutside [.slots, .bus] ((s.startReported w).done w.slot .none 0).finish :=
    (State.endSlot_outside _ _ _ _ _).andThen (State.finish_outside _)
  have hout : (s.restarted w).sameOutside [.cells, .admission, .slots, .notices, .bus]
      ((s.startReported w).done w.slot .none 0).finish :=
    (hrout.mono (by decide)).andThen hend
  have htcells := hend.cells
  have htadm := hend.admission
  obtain ⟨hself, hothers⟩ : ((s.startReported w).done w.slot .none 0).slot w.slot = { status := .done, kind := 1, tag := w.tag } ∧
      ∀ k, k ≠ w.slot → ((s.startReported w).done w.slot .none 0).slot k = s.slot k :=
    State.endSlot_slot hslots .done .none 0
  have hwin : (s.startReported w).path.winbase = s.path.winbase := by
    rw [hrout.path, hb]
    rfl
  have hsent := fun hq : s.quiet => State.start_sent hq hslots hwin hst
  have hlevel : (s.restarted w).refillRun.tables = s.tables := by
    rw [(s.restarted w).refillRun_outside.tables, hbout.tables]
  have hall : s.sameOutside [.path, .cells, .intake, .lookup, .admission, .queues, .live, .acct, .notices, .slots, .bus]
      ((s.startReported w).done w.slot .none 0).finish := (hbout.mono (by decide)).andThen hout
  have hfinish := State.finish_outside ((s.startReported w).done w.slot .none 0)
  have hslot (k : SlotId) : ((s.startReported w).done w.slot .none 0).finish.slot k =
      ((s.startReported w).done w.slot .none 0).slot k := by unfold State.slot; rw [hfinish.slots]
  refine ⟨_, hrow, ?_⟩
  rw [← hslot] at hself
  simp only [← hslot] at hothers
  clear hslot hfinish hrow
  generalize ((s.startReported w).done w.slot .none 0).finish = t at hout htcells htadm hself hothers hsent hall ⊢
  rw [hcells] at htcells
  rw [hadm] at htadm
  have hfree : t.freeCount = (s.restarted w).refillRun.freeCount := by unfold State.freeCount; rw [htcells]
  generalize (s.restarted w).refillRun = r at htcells htadm hrec hlevel hfree
  generalize s.restarted w = b at *
  have htq : t.queues = b.queues := hout.queues
  have htl : t.live = b.live := hout.live
  have htp : t.path = { (s.started 1 w).path with mode := .active } := hout.path.trans hbpath
  have hshed : t.admission.shed = r.levelFromNormal := by rw [htadm]
  refine ⟨by rw [htp], by rw [htp]; rfl, fun k hk => ?_, hall.tables, fun p => ?_, fun p => ?_, fun p => ?_, ?_, ?_, hself,
    hothers, by rw [htq, hqueues], by rw [htadm], by rw [htadm], ?_, ?_, ?_, ?_, ?_, fun hq => by rw [hsent hq, List.head?_cons], hall⟩
  · rw [← hargs k hk]; unfold State.args; rw [hout.path]
  · have : t.intake = [] := by rw [hout.intake, hb]
    unfold State.intakePort
    rw [this]
    rfl
  · rw [← hegress p]; exact egressPort_congr (by rw [htq]) p
  · rw [← hlive p]; exact livePort_congr (by rw [htl]) p
  · rw [hout.acct, hb]
  · rw [hout.lookup, hb, agingSpan_eq]
  · rw [htcells, hrec.frames, hbcells]
  · rw [htcells, hrec.copies, hbcells]
  · rw [htcells, hrec.links, hbcells]
  · rw [htcells, hrec.freeCopies, hbcells]; exact Runs.toList_initial _
  · rw [hshed, hfree]; unfold State.levelFromNormal; rw [hlevel]

end Sys2Proof.Machine
end

section
/-! The cells that START's first refill run issues (O47). -/
namespace Sys2Proof.Machine

/-! ## Consecutive cells -/

/-- Consecutive numbers cut into stretches: each begins where those before it end. -/
theorem flatMap_of_range' {α : Type} (l : List α) (given : α → List Nat) {a n : Nat} {rest : List Nat}
    (h : List.range' a n = l.flatMap given ++ rest) :
    (∀ i (hi : i < l.length), given l[i] =
      List.range' (a + ((l.take i).map fun x => (given x).length).sum) (given l[i]).length) ∧
    rest = List.range' (a + (l.map fun x => (given x).length).sum) (n - (l.map fun x => (given x).length).sum) := by
  induction l generalizing a n with
  | nil => exact ⟨nofun, by simpa using h.symm⟩
  | cons x l ih =>
    rw [List.flatMap_cons, List.append_assoc] at h
    obtain ⟨k, hk, hx, hl⟩ := List.range'_eq_append_iff.1 h
    have hlen : (given x).length = k := by rw [hx, List.length_range']
    obtain ⟨h1, h2⟩ := ih hl.symm
    refine ⟨fun i hi => ?_, ?_⟩
    · cases i with
      | zero => simpa [hlen] using hx
      | succ i => simpa [hlen, Nat.add_assoc] using h1 i (by simpa using hi)
    · simpa [hlen, Nat.add_assoc, Nat.sub_sub] using h2

theorem ringEntries_range' (p : Port) {a n : Nat} (hn : n ≤ 512) :
    ringEntries p 0 true (List.range' a n) = (List.range n).map fun i => ⟨p, i, a + i, true⟩ := by
  unfold ringEntries
  apply List.ext_getElem
  · simp
  · intro i hi _
    have hi' : i < n := by simpa using hi
    simp only [List.getElem_map, List.getElem_zipIdx, List.getElem_range', List.getElem_range, Nat.zero_add, Nat.one_mul]
    rw [Nat.mod_eq_of_lt (by omega), lapAt_zero_div (by omega)]

theorem sum_map_le {α : Type} (l : List α) (f : α → Nat) {b : Nat} (h : ∀ x ∈ l, f x ≤ b) : (l.map f).sum ≤ l.length * b := by
  refine (List.sum_le_card_nsmul _ b (by simpa using h)).trans ?_
  rw [List.length_map, smul_eq_mul]

/-! ## START's first refill run -/

section
variable {w : SlotWrite} {s : State}

theorem State.restarted_short (hnil : ∀ p : Port, (s.cellPort p).issued = []) (p : Port) :
    (s.restarted w).refillShort p = (s.portEntry p).issueTarget := by
  have hshed : (s.restarted w).admission.shed = .normal := by rw [State.restarted_eq]
  have hentry : (s.restarted w).portEntry p = s.portEntry p := State.portEntry_congr (s.restarted_outside w).tables p
  unfold State.refillShort State.issuedCount
  rw [hshed, hentry, State.restarted_cellPort, hnil]
  rfl

theorem State.restarted_freeList : Runs.toList (s.restarted w).cells.freeList = List.range' 0 65536 := by
  rw [State.restarted_cells, ← List.range_eq_range']
  exact Runs.toList_initial _

/-- With no cell issued before it, START's first refill run issues every port its target, one port after another (R18). -/
theorem State.restarted_refillRun (hi : s.installedOk) (hnil : ∀ p : Port, (s.cellPort p).issued = []) {first : Port → Nat}
    (hfirst : ∀ p : Port, first p = ((allPorts.take p.val).map fun q => (s.portEntry q).issueTarget).sum) :
    ∃ given, Issues (s.restarted w) (s.restarted w).refillRun given
        (allPorts.flatMap fun p => (List.range (s.portEntry p).issueTarget).map fun i => ⟨p, i, first p + i, true⟩) ∧
      (∀ p, given p = List.range' (first p) (s.portEntry p).issueTarget) ∧
      (∀ p, (s.portEntry p).issueTarget ≤ 511) ∧
      Runs.toList (s.restarted w).refillRun.cells.freeList =
        List.range' ((allPorts.map fun q => (s.portEntry q).issueTarget).sum)
          (65536 - (allPorts.map fun q => (s.portEntry q).issueTarget).sum) := by
  have htarget (p : Port) : (s.portEntry p).issueTarget ≤ 511 := ((s.installedOk_iff.1 hi).ports p).2.2.2.1
  obtain ⟨given, hiss, hfree, -, hfull⟩ := (s.restarted w).refillRun_refilled
  have hshort : (s.restarted w).refillShort = fun p => (s.portEntry p).issueTarget := funext (State.restarted_short hnil)
  rw [State.restarted_freeList] at hfree
  have hcount : (s.restarted w).freeCount = 65536 := by
    unfold State.freeCount
    rw [← Runs.size_toList, State.restarted_freeList, List.length_range']
  have hsum : (allPorts.map fun p => (s.portEntry p).issueTarget).sum ≤ 65536 :=
    (sum_map_le allPorts _ fun p _ => htarget p).trans (by decide)
  have hactive : (s.restarted w).isActive = true := State.isActive_eq_true.2 (by rw [State.restarted_path])
  have hlen (p : Port) : (given p).length = (s.portEntry p).issueTarget := by
    rw [hfull hactive (by rw [hshort, hcount]; exact hsum) p, hshort]
  obtain ⟨hcut, hrest⟩ := flatMap_of_range' allPorts given hfree
  simp only [hlen, Nat.zero_add] at hcut hrest
  have hgiven (p : Port) : given p = List.range' (first p) (s.portEntry p).issueTarget := by
    have hp : p.val < allPorts.length := by rw [show allPorts.length = 48 from List.length_finRange ..]; exact p.isLt
    have hget : allPorts[p.val] = p := by simp [allPorts]
    have := hcut p.val hp
    rw [hget] at this
    rw [this, hfirst]
  refine ⟨given, ?_, hgiven, htarget, hrest⟩
  have hnew : (allPorts.flatMap fun p => ringEntries p ((s.restarted w).cellPort p).pos ((s.restarted w).cellPort p).lap (given p)) =
      allPorts.flatMap fun p => (List.range (s.portEntry p).issueTarget).map fun i => ⟨p, i, first p + i, true⟩ :=
    List.flatMap_congr fun p _ => by
      rw [State.restarted_cellPort, hgiven]
      exact ringEntries_range' p (by have := htarget p; omega)
  rw [hnew] at hiss
  exact hiss

/-- What START has gathered before its status word: the notice of the shed level behind the free-cell entries, behind the
command word (R166). -/
theorem State.startReported_bus (hq : s.quiet) :
    (s.startReported w).notices = (s.noticed (s.restarted w).refillRun.fallAsks).notices ∧
      (s.startReported w).bus =
        { sent := s.bus.sent, writes := (s.restarted w).refillRun.bus.writes,
          notices := (s.noticed (s.restarted w).refillRun.fallAsks).bus.notices, statuses := [] } := by
  obtain ⟨-, hnot, hst⟩ := hq
  have hb : (s.restarted w).bus = (s.started 1 w).bus := by rw [State.restarted_eq]
  have hbus := (s.restarted w).refillRun_bus
  have hout := (s.restarted w).refillRun_outside
  have hwin : (s.restarted w).refillRun.path.winbase = s.path.winbase := by rw [hout.path, State.restarted_path]; rfl
  have htime : (s.restarted w).refillRun.live.timebase = s.live.timebase := by rw [hout.live, State.restarted_eq]
  have hnotices : (s.restarted w).refillRun.notices = s.notices := by rw [hout.notices, (s.restarted_outside w).notices]
  rw [hb] at hbus
  rw [State.startReported_eq, State.noticed_eq]
  generalize (s.restarted w).refillRun = r at *
  have hreads := State.noticed_reads (u := s)
    (v := { r with admission := { s.admission with shed := r.levelFromNormal } }) hwin htime hnotices (by rw [hbus]; rfl) r.fallAsks
  refine ⟨hreads.1, ?_⟩
  dsimp only
  rw [hreads.2, hbus]
  dsimp only [State.started, State.startSlot, State.takeArgs, State.setSlot, State.setArgs, State.forward]
  rw [hst]

/-- The writes gathered by START's first refill run (R4). -/
theorem State.restarted_writes {given : Port → List Nat} {new : List RingEntry} (hq : s.quiet)
    (hwr : Written (s.restarted w) (s.restarted w).refillRun given new) :
    (s.restarted w).refillRun.bus.writes =
      (new.map s.issueWrite).reverse ++ [s.crossing (slotOffset w.slot) (slotGranule 1 w)] := by
  have hb : (s.restarted w).bus.writes = (s.started 1 w).bus.writes := by rw [State.restarted_eq]
  have hwin : (s.restarted w).path.winbase = s.path.winbase := by rw [State.restarted_path]; rfl
  rw [hwr.writes, hb, Issues.issueWrite_congr hwin]
  show _ ++ _ :: s.bus.writes = _
  rw [hq.1]
  rfl

end

/-- Between two actions the bus holds the stream alone. -/
theorem State.bus_of_quiet {s t : State} (hs : s.quiet) (ht : t.quiet) : t.bus = { s.bus with sent := t.bus.sent } := by
  obtain ⟨h1, h2, h3⟩ := hs
  obtain ⟨k1, k2, k3⟩ := ht
  show (⟨t.bus.sent, t.bus.writes, t.bus.notices, t.bus.statuses⟩ : Bus) =
    ⟨t.bus.sent, s.bus.writes, s.bus.notices, s.bus.statuses⟩
  rw [h1, h2, h3, k1, k2, k3]

/-- Settles O47. -/
theorem startIssuesCellsInPortOrder : Obligations.StartIssuesCellsInPortOrder :=
    fun w s first left level hfree hp hi hnil hfirst hleft hlevel => by
  obtain ⟨given, hiss, hgiven, htarget, hrest⟩ := State.restarted_refillRun (w := w) hi hnil hfirst
  have hpos (p : Port) : ((s.restarted w).cellPort p).pos = 0 ∧ ((s.restarted w).cellPort p).lap = true ∧
      Runs.toList ((s.restarted w).cellPort p).issued = [] := by
    rw [State.restarted_cellPort, hnil]
    exact ⟨rfl, rfl, rfl⟩
  have hwr := hiss.written fun p => by rw [(hpos p).1]; decide
  have hlen (p : Port) : (given p).length = (s.portEntry p).issueTarget := by rw [hgiven, List.length_range']
  have hcount : (s.restarted w).refillRun.freeCount = left := by
    unfold State.freeCount
    rw [← Runs.size_toList, hrest, List.length_range', hleft]
  have htables : (s.restarted w).refillRun.tables = s.tables := by
    rw [(s.restarted w).refillRun_outside.tables, (s.restarted_outside w).tables]
  have hfall : (s.restarted w).refillRun.levelFromNormal = level := by
    unfold State.levelFromNormal
    rw [hcount, htables, hlevel]
  have hasks : (s.restarted w).refillRun.fallAsks =
      if level = .normal then [] else [{ kind := .shedLevel, subject := 0, first := level.code, second := left }] := by
    unfold State.fallAsks
    rw [hfall, hcount]
  have hportof (t : State) (hc : t.cells = (s.restarted w).refillRun.cells) (p : Port) :
      t.cellPort p = (s.restarted w).refillRun.cellPort p := cellPort_congr (by rw [hc]) p
  obtain ⟨hcells, hadm⟩ := s.startReported_spec w
  have hslots : (s.startReported w).slots = (s.started 1 w).slots := by
    rw [(s.startReported_outside w).slots, State.restarted_eq]
  have hwin : (s.startReported w).path.winbase = s.path.winbase := by
    rw [(s.startReported_outside w).path, State.restarted_path]
    rfl
  have hbus := fun hq : s.quiet => State.startReported_bus (w := w) hq
  have hwrites := fun hq : s.quiet => State.restarted_writes hq hwr
  have hcellbase : (s.restarted w).path.winbase = s.path.winbase := by
    rw [State.restarted_path]
    rfl
  have hrow := exec_start hfree hp
  have hend : (s.startReported w).sameOutside [.slots, .bus] ((s.startReported w).done w.slot .none 0).finish :=
    (State.endSlot_outside _ _ _ _ _).andThen (State.finish_outside _)
  have hsent := fun hq : s.quiet => State.start_sent (v := s.startReported w) hq hslots hwin
    (by rw [State.startReported_statuses])
  have hquiet : ((s.startReported w).done w.slot .none 0).finish.quiet := ⟨rfl, rfl, rfl⟩
  have htcells := hend.cells.trans hcells
  have htadm := hend.admission.trans hadm
  have htnotices := hend.notices
  have htpath := hend.path
  rw [hasks] at hbus
  rw [hfall] at htadm
  have hcopies : Runs.toList (s.restarted w).refillRun.cells.freeCopies = List.range 131072 := by
    rw [(SameRecords.refl (s.restarted w)).refillRun.freeCopies, State.restarted_cells]
    exact Runs.toList_initial _
  clear hcells hadm hslots hend hfall hasks hcount htables hfree hp
  generalize ((s.startReported w).done w.slot .none 0).finish = t at *
  generalize s.startReported w = v at *
  generalize (s.restarted w).refillRun = r at *
  have hring := hwr.ring
  have hptr (p : Port) := hring p (by rw [hlen]; have := htarget p; omega)
  have hall (hq : s.quiet) : t.bus.sent = (s.endWrite w.slot .done w.tag ::
      (s.noticed (if level = .normal then []
        else [{ kind := .shedLevel, subject := 0, first := level.code, second := left }])).bus.notices) ++
        (((allPorts.flatMap fun p => (List.range (s.portEntry p).issueTarget).map fun i =>
          (⟨p, i, first p + i, true⟩ : RingEntry)).map s.issueWrite).reverse ++
        ([s.crossing (slotOffset w.slot) (slotGranule 1 w)] ++ s.bus.sent)) := by
    rw [hsent hq, (hbus hq).2]
    dsimp only
    rw [hwrites hq]
    simp
  refine ⟨t, hrow, fun p => ?_, ?_, ?_, ?_, fun hq => ⟨?_, ?_⟩, fun hq p i hi => ?_⟩
  · rw [hportof t htcells, hiss.issued, (hpos p).2.2, hgiven, (hptr p).1, (hptr p).2, hlen, (hpos p).1, (hpos p).2.1, Nat.zero_add]
    have := htarget p
    exact ⟨rfl, Nat.mod_eq_of_lt (by omega), lapAt_zero_div (by omega)⟩
  · rw [htcells, hrest, hleft]
  · rw [htcells, hcopies]
  · rw [htadm]
  · rw [htnotices, (hbus hq).1]
  · rw [State.bus_of_quiet hq hquiet, hall hq]
    simp only [State.sending, List.map_flatMap, List.map_map, List.append_assoc, List.cons_append, List.nil_append]
    rfl
  · have hread := hwr.readBytes (r := t) (by rw [htpath, hwin, hcellbase]) (rest := _) (newer := _)
      (by rw [hall hq, ← Issues.issueWrite_congr hcellbase, ← List.append_assoc]) p (by rw [hlen]; have := htarget p; omega) (i := i)
      (by rw [hlen]; exact hi) fun x hx => ?_
    · have := htarget p
      simp only [(hpos p).1, (hpos p).2.1, Nat.zero_add, hgiven, List.getElem_range', Nat.one_mul,
        Nat.mod_eq_of_lt (show i < 512 by omega), lapAt_zero_div (show i < 512 by omega)] at hread
      exact hread
    · have hwa : (s.restarted w).windowAddr = s.windowAddr := by unfold State.windowAddr; rw [hcellbase]
      rw [hwa, (hpos p).1, Nat.zero_add]
      have := p.isLt
      rcases List.mem_cons.1 hx with rfl | hx
      · refine s.ownWrite_clearOf (.inr ?_)
        unfold slotOffset Config.commandSlots Config.freeCellRings
        omega
      · refine State.noticed_clearOf hq.2.1 hx (.inl ?_)
        unfold Config.noticeRing Config.freeCellRings
        omega

end Sys2Proof.Machine
end

section
/-! The taking of a descriptor (R22 to R33): what learning and replication touch, and what every taking does (O17). -/
namespace Sys2Proof.Machine

/-! ## Another cell manager, other intake states, other writes -/

/-- `s` with other cells, other intake states and other writes gathered: what a taking has changed before it learns. -/
def State.carrying (s : State) (c : CellManager) (i : Table IntakePort) (ws : List BusWrite) : State :=
  { s with cells := c, intake := i, bus := { s.bus with writes := ws } }

section
variable (s : State) (c : CellManager) (i : Table IntakePort) (ws : List BusWrite)

theorem State.carrying_ask (k : NoticeKind) (a b d : Nat) :
    (s.carrying c i ws).ask k a b d = (s.ask k a b d).carrying c i ws := by
  unfold State.ask
  rw [show (s.carrying c i ws).notices = s.notices from rfl]
  split <;> rfl

theorem State.carrying_learn (f : Forming) : (s.carrying c i ws).learn f = (s.learn f).carrying c i ws := by
  have hhit (w : Nat) (e : Station) (t : Target) :
      (s.carrying c i ws).learnHit w e t = (s.learnHit w e t).carrying c i ws := by
    unfold State.learnHit
    split
    · split
      · rfl
      · unfold State.askStation
        rw [State.carrying_ask]
        rfl
    · split
      · rfl
      · split
        · rfl
        · unfold State.moveStation
          split
          · rfl
          · exact State.carrying_ask (s.setStation w { e with target := t, hit := true, locked := true }) c i ws _ _ _ _
  have hmiss (t : Target) : (s.carrying c i ws).learnMiss f t = (s.learnMiss f t).carrying c i ws := by
    unfold State.learnMiss
    rw [show (s.carrying c i ws).freeWay? f.segment f.src = s.freeWay? f.segment f.src from rfl]
    cases s.freeWay? f.segment f.src with
    | none => rfl
    | some w =>
      dsimp only
      rw [show (s.carrying c i ws).learned f.tenant = s.learned f.tenant from rfl,
        show (s.carrying c i ws).tenantEntry f.tenant = s.tenantEntry f.tenant from rfl]
      split <;> rfl
  have hif : (s.carrying c i ws).learn f =
      if (s.segmentEntry f.segment).learning && !isGroupAddress f.src then
        match s.lookup? f.segment f.src with
        | some (w, e) => (s.carrying c i ws).learnHit w e (s.learnTarget f.port)
        | none => (s.carrying c i ws).learnMiss f (s.learnTarget f.port)
      else s.carrying c i ws := rfl
  rw [hif]
  unfold State.learn
  split
  · cases s.lookup? f.segment f.src with
    | none => exact hmiss _
    | some x => exact hhit x.1 x.2 _
  · rfl

theorem State.carrying_writeLinks (cells : List Nat) :
    State.writeLinks cells (s.carrying c i ws) =
      s.carrying { c with links := linkEach cells c.links } i (s.linkWrites cells ++ ws) := by
  induction cells generalizing c ws with
  | nil => rfl
  | cons a rest ih =>
    cases rest with
    | nil => rfl
    | cons b rest =>
      have hstep : State.writeLinks (a :: b :: rest) (s.carrying c i ws) =
          State.writeLinks (b :: rest) (s.carrying { c with links := c.links.put a (some b) } i
            (s.ownWrite (Config.linkArea + 2 * a) (leBytes 2 b) :: ws)) := rfl
      rw [hstep, ih]
      unfold State.linkWrites
      simp [linkEach]

end

/-! ## What learning and replication touch -/

theorem State.learnHit_outside (s : State) (w : Nat) (e : Station) (t : Target) :
    s.sameOutside [.lookup, .notices, .bus] (s.learnHit w e t) := by
  have hset (u : State) (e : Station) : u.sameOutside [.lookup, .notices, .bus] (u.setStation w e) :=
    (u.lookup_outside _).mono (by decide)
  unfold State.learnHit
  split
  · split
    · exact .refl _ s
    · exact ((s.ask_outside _ _ _ _).mono (by decide)).trans (hset _ _)
  · split
    · exact .refl _ s
    · split
      · exact hset s _
      · unfold State.moveStation
        split
        · exact hset s _
        · exact (hset s _).andThen (State.ask_outside _ _ _ _ _)

theorem State.learn_outside (s : State) (f : Forming) : s.sameOutside [.lookup, .acct, .notices, .bus] (s.learn f) := by
  have hrefusal : s.sameOutside [.lookup, .acct, .notices, .bus] (s.countRefusal f.tenant) :=
    (s.acct_outside _).mono (by decide)
  unfold State.learn
  split
  · split
    · exact (s.learnHit_outside _ _ _).mono (by decide)
    · unfold State.learnMiss
      split
      · exact hrefusal
      · split
        · exact (s.lookup_outside _).mono (by decide)
        · exact hrefusal
  · exact .refl _ s

/-- What holds at the beginning of a frame's replication and is kept by each copy offered, each notice and each drop holds
at its end (R62 to R69). -/
theorem State.replicate_induct {P : State → Prop} {f : Forming} (hcopy : ∀ u p via, P u → P (u.offerCopy f p via))
    (hheld : ∀ u g, P u → P (u.offerHeld f g)) (hask : ∀ u a b, P u → P (u.ask .replicationDepth f.segment a b))
    (hdrop : ∀ u, P u → P (u.countDrop .noPath f.tenant)) {s : State} (t : Target) (hs : P s) : P (s.replicate f t) := by
  have hcandidate (p : Port) (via : Option GroupId) (x : RepWalk × State) (h : P x.2) : P (repCandidate f p via x).2 := by
    unfold repCandidate
    split
    exacts [h, hcopy _ _ _ h]
  have hentry (l : ListId) (i : Nat) (x : RepWalk × State) (h : P x.2) : P (repEntry f l i x).2 := by
    unfold repEntry
    dsimp only
    split
    · split
      exacts [hcandidate _ _ _ h, h]
    · split
      · unfold repGroup
        split
        · split
          exacts [h, hheld _ _ h]
        · split
          exacts [h, hcandidate _ _ _ h]
      · exact h
    · split
      · unfold repSublist
        split
        · exact h
        · split
          exacts [h, hask _ _ _ h]
      · exact h
    · exact h
  have hwalk (n : Nat) (x : RepWalk × State) (h : P x.2) : P (repWalk f n x) := by
    induction n generalizing x with
    | zero => exact h
    | succ n ih =>
      unfold repWalk
      split
      · exact h
      · rename_i y hy
        refine ih y ?_
        unfold repPass at hy
        dsimp only at hy
        split at hy
        · split at hy <;> cases hy
          exact h
        · cases hy
          exact hentry _ _ _ h
  cases t with
  | port p =>
    show P (s.directPort f p)
    unfold State.directPort
    split
    exacts [hs, hcopy _ _ _ hs]
  | group g =>
    show P (s.directGroup f g)
    unfold State.directGroup
    split
    · exact hheld _ _ hs
    · split
      · exact hdrop _ hs
      · split
        exacts [hs, hcopy _ _ _ hs]
  | list l => exact hwalk _ _ hs

theorem State.enterFrame_outside (s : State) (f : Forming) : s.sameOutside [.cells, .admission, .acct] (s.enterFrame f) := by
  unfold State.enterFrame
  dsimp only
  split <;> simp [State.sameOutside, State.setFrame, State.setMeter, State.setHeldCells, State.countAdmitted, State.updateLive,
    State.setTenantRecord]

/-- Copies, drops and notices of one frame between `s` and `t`: of the failover controller only the hold pool changes. -/
structure Replicates (s t : State) : Prop where
  outside : s.sameOutside [.cells, .admission, .queues, .failover, .acct, .notices, .bus] t
  failover : t.failover = { s.failover with hold := t.failover.hold }

namespace Replicates

variable {s t u : State}

theorem refl (s : State) : Replicates s s := ⟨.refl _ s, rfl⟩

theorem trans (h : Replicates s t) (k : Replicates t u) : Replicates s u :=
  ⟨h.outside.trans k.outside, by rw [k.failover, h.failover]⟩

theorem of_outside {l : List Block} (h : s.sameOutside l t)
    (hl : ∀ b ∈ l, b ∈ [Block.cells, .admission, .queues, .acct, .notices, .bus] := by decide) : Replicates s t := by
  have hfailover : Block.failover ∉ l := fun hb => absurd (hl _ hb) (by decide)
  refine ⟨h.mono fun b hb => ?_, by rw [h.failover hfailover]⟩
  have := hl b hb
  revert this
  cases b <;> decide

theorem createCopy (s : State) (f : Forming) (pl : Place) (via : Option GroupId) (m : Bool) :
    Replicates s (s.createCopy f pl via m) := by
  unfold State.createCopy
  split
  · dsimp only
    generalize (Runs.toList (Runs.take 1 s.cells.freeCopies)).headD 0 = tag
    have h1 : Replicates s (({ s with cells := { s.cells with freeCopies := Runs.drop 1 s.cells.freeCopies } } : State).setCopy tag
        (({ s with cells := { s.cells with freeCopies := Runs.drop 1 s.cells.freeCopies } } : State).newCopy f pl via m)) :=
      of_outside (State.cells_outside s _)
    generalize ({ s with cells := { s.cells with freeCopies := Runs.drop 1 s.cells.freeCopies } } : State).setCopy tag _ = u at h1
    have h2 : Replicates s (if (u.frame f.first).isNone then u.enterFrame f else u) := by
      split
      · exact h1.trans (of_outside (u.enterFrame_outside f))
      · exact h1
    generalize (if (u.frame f.first).isNone then u.enterFrame f else u) = v at h2
    have h3 := h2.trans (of_outside (v.raiseCopies_outside f.first))
    generalize v.raiseCopies f.first = w at h3
    refine h3.trans ?_
    unfold State.placeNew
    split
    · rename_i q
      have h4 : Replicates w (w.setQueue q f.cls (w.queue q f.cls ++ [tag])) := of_outside (State.queues_outside w _)
      exact (h4.trans (of_outside (State.joinPort_outside _ f.first q))).trans (of_outside (State.owe_outside _ q))
    · exact ⟨(w.failover_outside _).mono (by decide), rfl⟩
  · exact of_outside (s.countDrop_outside _ _)

theorem offerCopy (h : Replicates s t) (f : Forming) (p : Port) (via : Option GroupId) : Replicates s (t.offerCopy f p via) := by
  unfold State.offerCopy
  split
  exacts [h.trans (createCopy ..), h.trans (of_outside (t.countDrop_outside _ _))]

theorem offerHeld (h : Replicates s t) (f : Forming) (g : GroupId) : Replicates s (t.offerHeld f g) := by
  unfold State.offerHeld
  split
  exacts [h.trans (createCopy ..), h.trans (of_outside (t.countDrop_outside _ _))]

theorem replicate (s : State) (f : Forming) (t : Target) : Replicates s (s.replicate f t) :=
  State.replicate_induct (P := Replicates s) (fun _ p via h => h.offerCopy f p via) (fun _ g h => h.offerHeld f g)
    (fun u _ _ h => h.trans (of_outside (u.ask_outside _ _ _ _))) (fun u h => h.trans (of_outside (u.countDrop_outside _ _)))
    t (refl s)

theorem admitFrame (s : State) (f : Forming) (t : Target) : Replicates s (s.admitFrame f t) := by
  have h1 : Replicates s (s.refillMeter f.tenant) := of_outside (s.admission_outside _)
  unfold State.admitFrame
  dsimp only
  split
  exacts [h1.trans (of_outside (State.countDrop_outside _ _ _)), h1.trans (replicate ..)]

theorem closeTaking (s : State) (cells : List Nat) : Replicates s (s.closeTaking cells) := by
  unfold State.closeTaking
  split
  · exact refl s
  · split
    · exact of_outside s.refill_outside
    · exact of_outside ((((s.cells_outside _).mono (by decide)).trans (State.report_outside _)).andThen (State.refill_outside _))

end Replicates

end Sys2Proof.Machine
end

section
/-! What every taking does (O17). -/
namespace Sys2Proof.Machine

/-! ## The stages of a taking -/

section
variable (s : State) (p : Port) (n : RingSlot) (g : Lanes) (d : Descriptor)

/-- The intake states of the part once the descriptor has been staged and taken (R20, R22). -/
def State.takenIntake : Table IntakePort :=
  (s.intake.setD p { s.intakePort p with staging := merge (s.intakePort p).staging g } IntakePort.powerOn).setD p
    (s.intakePort p).advance IntakePort.powerOn

/-- The part once the cells of a descriptor have been claimed (R7, R22). -/
def State.claiming : State :=
  s.carrying (s.claim p d.cellCount).cells (s.takenIntake p g) (s.crossing (ingressOffset p n) g :: s.bus.writes)

variable {s p n g d}

/-- A taking: refused at the first validation step, or carried through its stages behind the claim (R24, R25). -/
theorem exec_taking (ht : s.takes p n g = true) (hd : Descriptor.read (merge (s.intakePort p).staging g) = d) :
    exec (.takingOfDescriptor p n g) s = .next
      (if s.issuedCount p < d.cellCount then
        (s.carrying s.cells (s.takenIntake p g) (s.crossing (ingressOffset p n) g :: s.bus.writes)).ask .intakeFault p
          (2 ^ 24 * 2 + (s.intakePort p).slot) (2 ^ 16 * d.cellCount + s.issuedCount p)
      else ((s.claiming p n g d).takeStages p d (s.claimed p d.cellCount)).closeTaking (s.claimed p d.cellCount)).finish := by
  have hi : ((s.forward (s.windowAddr (ingressOffset p n)) g).stageIngress p g).intakePort p =
      { s.intakePort p with staging := merge (s.intakePort p).staging g } := by
    unfold State.stageIngress
    rw [State.setIntakePort_intakePort, if_pos rfl]
    rfl
  have hrow : exec (.takingOfDescriptor p n g) s =
      .next (((s.forward (s.windowAddr (ingressOffset p n)) g).stageIngress p g).takeDescriptor p).finish := if_pos ht
  rw [hrow]
  unfold State.takeDescriptor
  rw [hi, ← hd]
  rfl

variable (s p n g d) in
theorem State.takenIntake_eq (q : Port) :
    (s.takenIntake p g).getD q IntakePort.powerOn = if q = p then (s.intakePort p).advance else s.intakePort q := by
  have h := State.setIntakePort_intakePort (s.stageIngress p g) p q (s.intakePort p).advance
  have h1 := State.setIntakePort_intakePort s p q { s.intakePort p with staging := merge (s.intakePort p).staging g }
  refine h.trans ?_
  by_cases hq : q = p
  · rw [if_pos hq, if_pos hq]
  · rw [if_neg hq, if_neg hq]
    exact h1.trans (if_neg hq)

/-- A frame that reaches learning finds the station table as it was, and leaves it as learning does (R32, R42). -/
theorem State.claiming_forwardFrame (f : Forming) :
    Replicates (((State.writeLinks f.cells (s.claiming p n g d)).learn f)) ((s.claiming p n g d).forwardFrame f) := by
  unfold State.forwardFrame
  dsimp only
  split
  · exact .of_outside (State.countDrop_outside _ _ _)
  · exact .admitFrame _ _ _

/-- The part once a frame has been formed and learned from (R9, R30, R32). -/
theorem State.claiming_learn (f : Forming) :
    (State.writeLinks f.cells (s.claiming p n g d)).learn f =
      (s.learn f).carrying { (s.claim p d.cellCount).cells with links := linkEach f.cells s.cells.links } (s.takenIntake p g)
        (s.linkWrites f.cells ++ s.crossing (ingressOffset p n) g :: s.bus.writes) := by
  unfold State.claiming
  rw [State.carrying_writeLinks, State.carrying_learn]
  rfl

variable (p n g d) in
/-- The stages behind the claim: of the blocks that replication leaves alone, the station table alone changes, as learning
leaves it. -/
theorem State.takeStages_spec (cells : List Nat) :
    let t := (s.claiming p n g d).takeStages p d cells
    t.intake = s.takenIntake p g ∧ t.failover.work = s.failover.work ∧ t.live = s.live ∧ t.slots = s.slots ∧
      t.lookup =
        if d.sizeValid = true ∧ d.fcsBad = false ∧ d.truncated = false ∧ s.segmentOf p d ≠ 0 ∧
            (s.segmentEntry (s.segmentOf p d)).enabled = true then (s.learn (s.form p d cells)).lookup
        else s.lookup := by
  dsimp only
  unfold State.takeStages
  by_cases hv : (!d.sizeValid || d.fcsBad || d.truncated) = true
  · rw [if_pos hv, if_neg (by rintro ⟨h1, h2, h3, -⟩; simp [h1, h2, h3] at hv)]
    exact ⟨rfl, rfl, rfl, rfl, rfl⟩
  · rw [if_neg hv]
    have hv' : d.sizeValid = true ∧ d.fcsBad = false ∧ d.truncated = false := by
      simpa [and_assoc] using hv
    have hseg : (s.claiming p n g d).segmentOf p d = s.segmentOf p d := rfl
    have hent (k : Nat) : (s.claiming p n g d).segmentEntry k = s.segmentEntry k := rfl
    dsimp only
    rw [hseg, hent]
    by_cases ho : s.segmentOf p d = 0 ∨ (s.segmentEntry (s.segmentOf p d)).enabled = false
    · rw [if_pos ho, if_neg (by
        rintro ⟨-, -, -, h4, h5⟩
        rcases ho with ho | ho
        · exact h4 ho
        · rw [h5] at ho; cases ho)]
      exact ⟨rfl, rfl, rfl, rfl, rfl⟩
    · obtain ⟨h4, h5⟩ := not_or.1 ho
      rw [if_neg ho, if_pos ⟨hv'.1, hv'.2.1, hv'.2.2, h4, by simpa using h5⟩]
      have hform : (s.claiming p n g d).form p d cells = s.form p d cells := rfl
      rw [hform]
      have hrep := State.claiming_forwardFrame (s := s) (p := p) (n := n) (g := g) (d := d) (s.form p d cells)
      rw [State.claiming_learn] at hrep
      have hlearn := s.learn_outside (s.form p d cells)
      have hwork : ((s.claiming p n g d).forwardFrame (s.form p d cells)).failover.work = s.failover.work := by
        rw [hrep.failover, ← hlearn.failover]
        rfl
      exact ⟨hrep.outside.intake, hwork, hrep.outside.live.trans hlearn.live, hrep.outside.slots.trans hlearn.slots,
        hrep.outside.lookup⟩

end

/-! ## Learning and resolution by their rules -/

/-- A learn that hits (R43 to R45). -/
theorem State.learnHit_cases (s : State) (w : Nat) (e : Station) (tgt : Target) :
    s.learnHit w e tgt =
      if e.isStatic = true then
        if e.target = tgt ∨ e.conflict = true then s
        else
          ({ s with lookup := { s.lookup with stations := s.lookup.stations.put w { e with conflict := true } } } : State).ask
            .staticConflict e.segment (e.addr.toNat % 2 ^ 32) (e.addr.toNat / 2 ^ 32 + 2 ^ 16 * tgt.number + 2 ^ 30 * tgt.kindCode)
      else if e.locked = true then s
      else if e.target = tgt then
        { s with lookup := { s.lookup with stations := s.lookup.stations.put w { e with hit := true } } }
      else if e.moves < 3 then
        { s with
          lookup := { s.lookup with
            stations := s.lookup.stations.put w { e with target := tgt, hit := true, moves := e.moves + 1 } } }
      else
        ({ s with
            lookup := { s.lookup with
              stations := s.lookup.stations.put w { e with target := tgt, hit := true, locked := true } } } : State).ask
          .stationLocked e.segment (e.addr.toNat % 2 ^ 32)
          (e.addr.toNat / 2 ^ 32 + 2 ^ 16 * tgt.number + 2 ^ 30 * tgt.kindCode) := by
  have hask (k : NoticeKind) (a b c : Nat) (v : Station) : (s.ask k a b c).setStation w v = (s.setStation w v).ask k a b c := by
    unfold State.ask
    rw [show (s.setStation w v).notices = s.notices from rfl]
    split <;> rfl
  unfold State.learnHit State.askStation
  rw [hask]
  rfl

/-- A learn that misses (R46). -/
theorem State.learnMiss_cases (s : State) (f : Forming) (tgt : Target) :
    s.learnMiss f tgt =
      match s.freeWay? f.segment f.src, decide (s.learned f.tenant < (s.tenantEntry f.tenant).stationLimit) with
      | some way, true =>
        { s with
          lookup := { s.lookup with
            stations := s.lookup.stations.put way
              { segment := f.segment, addr := f.src, target := tgt, isStatic := false, hit := true, moves := 0,
                locked := false, conflict := false, tenant := f.tenant }
            learned := s.lookup.learned.setD f.tenant (s.learned f.tenant + 1) 0 } }
      | _, _ => s.updateLive f.tenant fun r => { r with learnRefusals := min (2 ^ 32 - 1) (r.learnRefusals + 1) } := by
  have hrefusal : s.countRefusal f.tenant =
      s.updateLive f.tenant fun r => { r with learnRefusals := min (2 ^ 32 - 1) (r.learnRefusals + 1) } := by
    have hsat (a : Nat) : satAdd max32 a 1 = min (2 ^ 32 - 1) (a + 1) := by
      unfold satAdd max32
      split <;> omega
    unfold State.countRefusal
    simp only [hsat]
  unfold State.learnMiss
  rw [hrefusal]
  cases s.freeWay? f.segment f.src with
  | none => rfl
  | some way =>
    dsimp only
    by_cases hl : s.learned f.tenant < (s.tenantEntry f.tenant).stationLimit
    · rw [if_pos hl, decide_eq_true hl]; rfl
    · rw [if_neg hl, decide_eq_false hl]

/-- Settles O17. -/
theorem takingAdvancesExpectedSlot : Obligations.TakingAdvancesExpectedSlot := by
  refine ⟨fun p n g s d ht hd => ?_, fun s f tgt htgt => ?_, fun s f => ⟨fun way e h => ?_, fun h => ?_⟩⟩
  · refine ⟨_, exec_taking ht hd, ?_⟩
    have hport (t : State) (h : t.intake = s.takenIntake p g) (q : Port) :
        t.intakePort q = if q = p then (s.intakePort p).advance else s.intakePort q := by
      unfold State.intakePort
      rw [h, State.takenIntake_eq]
      rfl
    by_cases hlt : s.issuedCount p < d.cellCount
    · rw [if_pos hlt]
      have hout := ((s.carrying s.cells (s.takenIntake p g) (s.crossing (ingressOffset p n) g :: s.bus.writes)).ask_outside .intakeFault p
          (2 ^ 24 * 2 + (s.intakePort p).slot) (2 ^ 16 * d.cellCount + s.issuedCount p)).andThen (State.finish_outside _)
      refine ⟨(hport _ hout.intake p).trans (if_pos rfl), fun q hq => (hport _ hout.intake q).trans (if_neg hq),
        congrArg FailoverController.work hout.failover, hout.live, hout.slots, ?_⟩
      rw [if_neg fun h => absurd h.1 (by omega)]
      exact hout.lookup
    · rw [if_neg hlt]
      obtain ⟨hintake, hwork, hlive, hslots, hlookup⟩ := State.takeStages_spec (s := s) p n g d (s.claimed p d.cellCount)
      have hclose := (Replicates.closeTaking ((s.claiming p n g d).takeStages p d (s.claimed p d.cellCount))
        (s.claimed p d.cellCount)).trans (.of_outside (State.finish_outside _))
      have hin := hclose.outside.intake.trans hintake
      refine ⟨(hport _ hin p).trans (if_pos rfl), fun q hq => (hport _ hin q).trans (if_neg hq), ?_,
        hclose.outside.live.trans hlive, hclose.outside.slots.trans hslots, ?_⟩
      · rw [hclose.failover]; exact hwork
      · rw [hclose.outside.lookup, hlookup]
        have hle : d.cellCount ≤ s.issuedCount p := by omega
        simp only [hle, true_and]
  · have htarget : s.learnTarget f.port = tgt := by rw [htgt]; rfl
    have hcond : ((s.segmentEntry f.segment).learning && !isGroupAddress f.src) = true ↔
        (s.segmentEntry f.segment).learning = true ∧ isGroupAddress f.src = false := by
      rw [Bool.and_eq_true, Bool.not_eq_true']
    unfold State.learn
    rw [htarget]
    by_cases hl : (s.segmentEntry f.segment).learning = true ∧ isGroupAddress f.src = false
    · rw [if_pos (hcond.2 hl), if_pos hl]
      cases s.lookup? f.segment f.src with
      | some x => exact s.learnHit_cases x.1 x.2 tgt
      | none => exact s.learnMiss_cases f tgt
    · rw [if_neg (mt hcond.1 hl), if_neg hl]
  · unfold State.resolve
    rw [h]
  · unfold State.resolve
    rw [h]
    dsimp only
    cases isGroupAddress f.dst
    · simp
    · cases (s.segmentEntry f.segment).multicast <;> simp

end Sys2Proof.Machine
end

section
/-! Takings that come to no frame (O18): the claimed cells return, one report and one refill run, behind what the taking has
sent (R8, R9, R33). -/
namespace Sys2Proof.Machine

/-! ## Reports and refill runs -/

/-- What a change of level and each port's share keep, reports and refill runs keep (R6, R80). -/
theorem State.supply_induct {P : State → Prop} (hset : ∀ u l, P u → P (u.setShed l)) (hport : ∀ u p, P u → P (u.refillPort p)) :
    (∀ u, P u → P u.refillRun) ∧ (∀ u n, P u → P (u.reportFree n)) ∧ ∀ u, P u → P u.refill := by
  have hrun (u : State) (h : P u) : P u.refillRun := by
    unfold State.refillRun
    split
    · clear * - h hport
      generalize allPorts = l
      induction l generalizing u with
      | nil => exact h
      | cons p l ih => exact ih _ (hport _ _ h)
    · exact h
  have hreport (u : State) (n : Nat) (h : P u) : P (u.reportFree n) := by
    induction n generalizing u with
    | zero => exact h
    | succ n ih =>
      dsimp only [State.reportFree]
      split
      · exact h
      · split
        · split
          exacts [hset _ _ h, ih _ (hrun _ (hset _ _ h))]
        · exact hset _ _ h
  refine ⟨hrun, hreport, fun u h => ?_⟩
  unfold State.refill
  split
  exacts [h, hreport _ 3 (hrun _ h)]

/-! ## Writes above the link area -/

/-- What has been gathered lies above the link words: in the free-cell rings and the notice ring (Table 10-1). -/
def State.upward (s : State) : Prop := ∀ x ∈ s.bus.notices ++ s.bus.writes, s.windowAddr Config.freeCellRings ≤ x.addr

theorem State.upward.ask {s : State} (h : s.upward) (k : NoticeKind) (a b c : Nat) : (s.ask k a b c).upward := by
  unfold State.ask
  split
  · exact h
  · intro x hx
    rcases List.mem_cons.1 hx with rfl | hx
    · show s.windowAddr _ ≤ s.windowAddr _
      unfold State.windowAddr Config.freeCellRings Config.noticeRing
      omega
    · exact h x hx

theorem State.upward.noticed {s : State} (h : s.upward) (l : List NoticeAsk) : (s.noticed l).upward := by
  induction l generalizing s with
  | nil => exact h
  | cons a l ih => exact ih (h.ask _ _ _ _)

theorem State.freeCellWrites_above (s : State) (p : Port) (l : List Nat) (pos : Nat) (lap : Bool) :
    ∀ x ∈ s.freeCellWrites p pos lap l, s.windowAddr Config.freeCellRings ≤ x.addr := by
  induction l generalizing pos lap with
  | nil => nofun
  | cons c l ih =>
    intro x hx
    rcases List.mem_append.1 hx with hx | hx
    · exact ih _ _ x hx
    · rw [List.mem_singleton.1 hx]
      show s.windowAddr _ ≤ s.windowAddr _
      unfold State.windowAddr
      omega

theorem State.upward.refillPort {s : State} (h : s.upward) (p : Port) : (s.refillPort p).upward := by
  unfold State.refillPort
  split
  · exact h
  · intro x hx
    rcases List.mem_append.1 hx with hx | hx
    · exact h x (List.mem_append_left _ hx)
    · rcases List.mem_append.1 hx with hx | hx
      · exact s.freeCellWrites_above _ _ _ _ x hx
      · exact h x (List.mem_append_right _ hx)

theorem State.upward_supply : (∀ u : State, u.upward → u.refillRun.upward) ∧
    (∀ (u : State) n, u.upward → (u.reportFree n).upward) ∧ ∀ u : State, u.upward → u.refill.upward :=
  State.supply_induct (P := State.upward)
    (fun u l h => State.upward.ask (s := { u with admission := { u.admission with shed := l } }) h _ _ _ _)
    fun _ p h => h.refillPort p

theorem State.upward.refill {s : State} (h : s.upward) : s.refill.upward := State.upward_supply.2.2 s h

theorem State.upward.settled {s : State} (h : s.upward) (cells : List Nat) : (s.settled cells).upward := by
  unfold State.settled
  split
  · exact h
  · have hfreed : ({ s with cells := { s.cells with freeList := Runs.pushAll s.cells.freeList cells } } : State).upward := h
    exact (State.upward_supply.2.1 _ 3 hfreed).refill

/-! ## Link words in memory (R9) -/

/-- The link words of a frame stand in memory behind writes above the link area. -/
theorem State.linkWordsStand_of {s t : State} {cells : List Nat} {newer rest : List BusWrite}
    (hw : t.path.winbase = s.path.winbase) (hsent : t.bus.sent = (newer ++ s.linkWrites cells) ++ rest)
    (hnewer : ∀ x ∈ newer, s.windowAddr Config.freeCellRings ≤ x.addr) : t.linkWordsStand cells := by
  intro hnd hlt x hx
  have hlen (y : Nat × Nat) : (leBytes 2 y.2).length = 2 := leBytes_length ..
  have hmem (y : Nat × Nat) (hy : y ∈ cells.zip (cells.drop 1 ++ [0xFFFF])) : y.1 < 65536 :=
    hlt _ (List.of_mem_zip (a := y.1) (b := y.2) hy).1
  have hsame (y : Nat × Nat) (hy : y ∈ cells.zip (cells.drop 1 ++ [0xFFFF])) (h : y.1 = x.1) : y = x := by
    obtain ⟨i, hi, rfl⟩ := List.getElem_of_mem hx
    obtain ⟨j, hj, rfl⟩ := List.getElem_of_mem hy
    simp only [List.getElem_zip] at h
    obtain rfl := (List.Nodup.getElem_inj_iff hnd).1 h
    rfl
  have hread := State.readBytes_of_mem (s := s) (t := t) (rest := rest) (off := Config.linkArea + 2 * x.1)
    (bytes := leBytes 2 x.2) hw hsent
    (List.mem_append_right _ (List.mem_reverse.2 (List.mem_map.2 ⟨x, hx, rfl⟩))) fun v hv => by
      rw [hlen]
      rcases List.mem_append.1 hv with hv | hv
      · right
        intro i hi
        have hx := hmem x hx
        have hv := hnewer v hv
        unfold BusWrite.byteAt
        rw [if_pos]
        unfold State.windowAddr Config.linkArea Config.freeCellRings at *
        omega
      · obtain ⟨y, hy, rfl⟩ := List.mem_map.1 (List.mem_reverse.1 hv)
        by_cases hyx : y.1 = x.1
        · rw [hsame y hy hyx]
          exact .inl rfl
        · exact .inr (s.ownWrite_clearOf (by rw [hlen]; omega))
  rw [hlen] at hread
  exact hread

/-! ## The close of a taking -/

/-- The state with no write gathered. -/
def State.silent (s : State) : State := s.carrying s.cells s.intake []

theorem State.silent_follows (s : State) : Follows s.bus.writes s.silent s :=
  ⟨rfl, rfl, rfl, rfl, rfl, rfl, rfl, rfl, rfl, rfl, rfl⟩

theorem State.silent_of_nil {s : State} (h : s.bus.writes = []) : s.silent = s := by
  have : s.carrying s.cells s.intake s.bus.writes = s := rfl
  unfold State.silent
  rw [← h, this]

/-- A taking that has gathered `own` behind what `s` had gathered, in step with `base`, which has gathered no more. -/
structure TakesAlong (s base u : State) (own : List BusWrite) : Prop where
  writes : base.bus.writes = s.bus.writes
  gathers : Gathers s base
  follows : Follows (own ++ s.bus.writes) base.silent u
  sent : u.bus.sent = s.bus.sent

namespace TakesAlong

variable {s base u : State} {own : List BusWrite}

theorem quiet (h : TakesAlong s base u own) (hq : s.quiet) : Follows own base u := by
  have hnil : base.bus.writes = [] := h.writes.trans hq.1
  have hf := h.follows
  rw [State.silent_of_nil hnil, hq.1, List.append_nil] at hf
  exact hf

theorem agrees {v : State} (h : TakesAlong s base u own) (k : Agrees u v) (hsent : v.bus.sent = u.bus.sent) :
    TakesAlong s base v own :=
  ⟨h.writes, h.gathers, h.follows.agrees k, hsent.trans h.sent⟩

/-- The supplies after the same operation on both. -/
theorem supplies {f : State → State} (hf : ∀ {o a b}, Follows o a b → Follows o (f a) (f b)) (h : TakesAlong s base u own) :
    (f u).suppliesOf (f base) := by
  have h1 := (hf h.follows).suppliesOf
  have h2 := (hf base.silent_follows).suppliesOf
  exact ⟨h1.1.trans h2.1.symm, h1.2.1.trans h2.2.1.symm, h1.2.2.trans h2.2.2.symm⟩

end TakesAlong

/-- The close of a taking without a frame frees its cells (R8). -/
theorem State.closeTaking_of_noFrame {u : State} {cells : List Nat} (h : ∀ c, cells.head? = some c → u.frame c = none)
    (hne : cells ≠ []) : u.closeTaking cells = ((u.freeCells cells).report).refill := by
  cases cells with
  | nil => exact absurd rfl hne
  | cons c rest =>
    unfold State.closeTaking
    dsimp only
    rw [h c rfl]
    rfl

theorem State.closeTaking_outside (u : State) (cells : List Nat) :
    u.sameOutside [.cells, .admission, .notices, .bus] (u.closeTaking cells) := by
  unfold State.closeTaking
  split
  · exact .refl _ u
  · split
    · exact u.refill_outside
    · exact (((u.cells_outside _).mono (by decide)).trans (State.report_outside _)).andThen (State.refill_outside _)

/-- The close of a taking keeps the frame and copy records, the meters and the held counts. -/
theorem State.closeTaking_records (u : State) (cells : List Nat) :
    (u.closeTaking cells).cells.frames = u.cells.frames ∧ (u.closeTaking cells).cells.copies = u.cells.copies ∧
      (u.closeTaking cells).cells.freeCopies = u.cells.freeCopies ∧
      (u.closeTaking cells).admission.meters = u.admission.meters ∧ (u.closeTaking cells).admission.held = u.admission.held := by
  cases cells with
  | nil => exact ⟨rfl, rfl, rfl, rfl, rfl⟩
  | cons c rest =>
    unfold State.closeTaking
    dsimp only
    split
    · have h := (SameRecords.refl u).refill
      exact ⟨h.frames, h.copies, h.freeCopies, h.meters, h.held⟩
    · have h := (SameRecords.refl (u.freeCells (c :: rest))).report.refill
      exact ⟨h.frames, h.copies, h.freeCopies, h.meters, h.held⟩

/-- The cells of a taking that has come to no frame return (R8). -/
theorem TakesAlong.returned {s base u : State} {own : List BusWrite} {cells : List Nat} (h : TakesAlong s base u own)
    (hframes : u.cells.frames = s.cells.frames) (hcopies : u.cells.copies = s.cells.copies)
    (hfree : u.cells.freeCopies = s.cells.freeCopies)
    (hlinks : ∀ c, c ∉ cells → u.cells.links.find c = s.cells.links.find c) :
    s.returned (u.closeTaking cells).finish (base.settled cells) cells own := by
  obtain ⟨h1, h2, h3, -, -⟩ := u.closeTaking_records cells
  refine ⟨h1.trans hframes, h2.trans hcopies, h3.trans hfree, fun hhead => ?_⟩
  have hnone (c : Nat) (hc : cells.head? = some c) : u.frame c = none := by
    rw [← hhead c hc]; unfold State.frame; rw [hframes]
  have hsent : (u.closeTaking cells).bus.sent = s.bus.sent := ((Keeps.refl u).closeTaking cells).sent.trans h.sent
  by_cases hne : cells = []
  · subst hne
    have hs := h.supplies (f := id) id
    exact ⟨fun c => (hlinks c List.not_mem_nil).trans (if_neg List.not_mem_nil).symm, hs,
      fun hq => (h.quiet hq).finish_delivers hq h.gathers h.sent⟩
  · have hagree (v : State) : Agrees (v.freed cells) (v.freeCells cells) := .of_eq rfl rfl rfl rfl rfl rfl rfl rfl rfl
    have hclose {o : List BusWrite} {a b : State} (k : Follows o a b) :
        Follows o (a.settled cells) ((b.freeCells cells).report).refill := by
      unfold State.settled
      rw [if_neg hne]
      exact (((k.freed cells).agrees (hagree b)).report).refill
    have hself {o : List BusWrite} {a b : State} (k : Follows o a b) : Follows o (a.settled cells) (b.settled cells) := by
      unfold State.settled
      rw [if_neg hne, if_neg hne]
      exact ((k.freed cells).report).refill
    have heq := State.closeTaking_of_noFrame hnone hne
    refine ⟨fun c => ?_, ?_, fun hq => ?_⟩
    · have hl : ((u.closeTaking cells).finish).cells.links = cells.foldl (fun m c => m.erase c) u.cells.links := by
        rw [heq]
        exact (SameRecords.refl (u.freeCells cells)).report.refill.links
      rw [hl, Table.find_foldl_erase]
      by_cases hc : c ∈ cells
      · rw [if_pos hc, if_pos hc]
      · rw [if_neg hc, if_neg hc, hlinks c hc]
    · have k1 := (hclose h.follows).suppliesOf
      have k2 := (hself base.silent_follows).suppliesOf
      rw [heq]
      exact ⟨k1.1.trans k2.1.symm, k1.2.1.trans k2.2.1.symm, k1.2.2.trans k2.2.2.symm⟩
    · rw [heq] at hsent ⊢
      exact (hclose (h.quiet hq)).finish_delivers hq (h.gathers.settled cells) hsent

end Sys2Proof.Machine
end

section
/-! Descriptors that end without a frame (O18). -/
namespace Sys2Proof.Machine

/-! ## The stages in step with their base -/

theorem Gathers.learn {r s : State} (h : Gathers r s) (f : Forming) : Gathers r (s.learn f) := by
  have hset (u : State) (w : Nat) (e : Station) (hu : Gathers r u) : Gathers r (u.setStation w e) := hu.trans ⟨rfl, rfl, rfl⟩
  have hrefusal : Gathers r (s.countRefusal f.tenant) := h.trans ⟨rfl, rfl, rfl⟩
  unfold State.learn
  split
  · split
    · unfold State.learnHit State.askStation
      split
      · split
        exacts [h, hset _ _ _ (h.ask _ _ _ _)]
      · split
        · exact h
        · split
          · exact hset _ _ _ h
          · unfold State.moveStation
            split
            exacts [hset _ _ _ h, (hset _ _ _ h).ask _ _ _ _]
    · unfold State.learnMiss
      split
      · exact hrefusal
      · split
        exacts [h.trans ⟨rfl, rfl, rfl⟩, hrefusal]
  · exact h

/-- Learning gathers notices, no write. -/
theorem State.learn_writes (s : State) (f : Forming) : (s.learn f).bus.writes = s.bus.writes :=
  congrArg (fun u => u.bus.writes) (s.carrying_learn s.cells s.intake s.bus.writes f)

theorem State.upward.learn {s : State} (h : s.upward) (f : Forming) : (s.learn f).upward := by
  have hset (u : State) (w : Nat) (e : Station) (hu : u.upward) : (u.setStation w e).upward := hu
  unfold State.learn
  split
  · split
    · unfold State.learnHit State.askStation
      split
      · split
        exacts [h, hset _ _ _ (h.ask _ _ _ _)]
      · split
        · exact h
        · split
          · exact hset _ _ _ h
          · unfold State.moveStation
            split
            exacts [hset _ _ _ h, State.upward.ask (hset _ _ _ h) _ _ _ _]
    · unfold State.learnMiss
      split
      · exact h
      · split <;> exact h
  · exact h

section
variable {s : State} {p : Port} {n : RingSlot} {g : Lanes} {d : Descriptor}

/-- The claim, behind the descriptor's own write. -/
theorem State.claiming_along :
    TakesAlong s (s.claim p d.cellCount) (s.claiming p n g d) [s.crossing (ingressOffset p n) g] :=
  ⟨rfl, ⟨rfl, rfl, rfl⟩, ⟨rfl, rfl, rfl, rfl, rfl, rfl, rfl, rfl, rfl, rfl, rfl⟩, rfl⟩

/-- The part once a frame has been formed and learned from. -/
def State.learning (s : State) (p : Port) (n : RingSlot) (g : Lanes) (d : Descriptor) (f : Forming) : State :=
  (s.learn f).carrying { (s.claim p d.cellCount).cells with links := linkEach f.cells s.cells.links } (s.takenIntake p g)
    (s.linkWrites f.cells ++ s.crossing (ingressOffset p n) g :: s.bus.writes)

/-- Learning, behind the link words and the descriptor's own write. -/
theorem State.learning_along (f : Forming) :
    TakesAlong s ((s.learn f).claim p d.cellCount) (s.learning p n g d f)
      (s.linkWrites f.cells ++ [s.crossing (ingressOffset p n) g]) := by
  have hcells : (s.learn f).cells = s.cells := (s.learn_outside f).cells
  have hgathers : Gathers s ((s.learn f).claim p d.cellCount) := ((Gathers.refl s).learn f).trans ⟨rfl, rfl, rfl⟩
  refine ⟨s.learn_writes f, hgathers, ⟨rfl, rfl, rfl, rfl, ?_, ?_, rfl, rfl, rfl, ?_, rfl⟩, hgathers.sent⟩
  · show s.cells.freeList = (s.learn f).cells.freeList
    rw [hcells]
  · show s.cells.ports.setD _ _ _ = (s.learn f).cells.ports.setD _ _ _
    rw [hcells, show (s.learn f).cellPort p = s.cellPort p by unfold State.cellPort; rw [hcells]]
  · show _ = [] ++ (_ ++ [_] ++ s.bus.writes)
    rw [List.append_assoc]
    rfl

theorem State.learning_outside (f : Forming) :
    s.sameOutside [.cells, .intake, .lookup, .acct, .notices, .bus] (s.learning p n g d f) := by
  have h := s.learn_outside f
  refine .trans (h.mono (by decide)) ?_
  simp [State.sameOutside, State.learning, State.carrying]

/-- A frame under formation is learned from, resolved and admitted (R30 to R33). -/
theorem State.forwardFrame_claiming (f : Forming) :
    (s.claiming p n g d).forwardFrame f =
      match (s.learn f).resolve f with
      | none => (s.learning p n g d f).countDrop .noPath f.tenant
      | some t => (s.learning p n g d f).admitFrame f t := by
  unfold State.forwardFrame
  rw [State.claiming_learn]
  rfl

/-! ## What a close leaves -/

/-- The end of a taking that comes to no frame: its cells return, and the rest is as the stages left it. -/
theorem TakesAlong.ended {base u : State} {own : List BusWrite} {cells : List Nat} {l : List Block}
    (h : TakesAlong s base u own) (hrec : u.cells = { (s.claim p d.cellCount).cells with links := u.cells.links })
    (hlinks : ∀ c, c ∉ cells → u.cells.links.find c = s.cells.links.find c) (hout : s.sameOutside l u)
    (hl : ∀ b ∈ [Block.cells, .admission, .notices, .bus], b ∈ l := by decide) :
    let t := (u.closeTaking cells).finish
    s.returned t (base.settled cells) cells own ∧ t.acct = u.acct ∧ t.lookup = u.lookup ∧
      t.admission.meters = u.admission.meters ∧ t.admission.held = u.admission.held ∧ s.sameOutside l t := by
  have hclose := (u.closeTaking_outside cells).andThen (State.finish_outside _)
  obtain ⟨-, -, -, hmeters, hheld⟩ := u.closeTaking_records cells
  exact ⟨h.returned (by rw [hrec]; rfl) (by rw [hrec]; rfl) (by rw [hrec]; rfl) hlinks, hclose.acct, hclose.lookup, hmeters,
    hheld, hout.andThen hclose hl⟩

/-- The close gathers the same behind the action's writes as some state that has gathered above the link area alone. -/
theorem TakesAlong.close {base u : State} {own : List BusWrite} (h : TakesAlong s base u own) (hq : s.quiet)
    (hup : base.upward) (cells : List Nat) :
    ∃ b, Follows own b (u.closeTaking cells) ∧ b.upward ∧ Gathers s b := by
  have hf := h.quiet hq
  unfold State.closeTaking
  split
  · exact ⟨base, hf, hup, h.gathers⟩
  · split
    · exact ⟨base.refill, hf.refill, hup.refill, h.gathers.refill⟩
    · rename_i c rest _
      refine ⟨base.settled (c :: rest), ?_, hup.settled _, h.gathers.settled _⟩
      have hagree : Agrees (u.freed (c :: rest)) (u.freeCells (c :: rest)) := .of_eq rfl rfl rfl rfl rfl rfl rfl rfl rfl
      unfold State.settled
      rw [if_neg (List.cons_ne_nil _ _)]
      exact (((hf.freed (c :: rest)).agrees hagree).report).refill

/-- The link words of a frame stand in memory at the end of its taking (R9). -/
theorem TakesAlong.linkWords {base u : State} {own : BusWrite} {cells : List Nat}
    (h : TakesAlong s base u (s.linkWrites cells ++ [own])) (hq : s.quiet) (hup : base.upward) :
    (u.closeTaking cells).finish.linkWordsStand cells := by
  obtain ⟨b, hf, hbup, hg⟩ := h.close hq hup cells
  have hsent : (u.closeTaking cells).bus.sent = s.bus.sent := ((Keeps.refl u).closeTaking cells).sent.trans h.sent
  obtain ⟨-, hbus⟩ := hf.finish_delivers hq hg hsent
  have hwin : (u.closeTaking cells).finish.path.winbase = s.path.winbase := hf.winbase.trans hg.winbase
  refine State.linkWordsStand_of (s := s) (newer := b.bus.notices ++ b.bus.writes) (rest := own :: s.bus.sent) hwin ?_
    fun x hx => ?_
  · rw [hbus]
    simp [State.sending]
  · have := hbup x hx
    unfold State.windowAddr at this ⊢
    rwa [hg.winbase] at this

theorem State.learning_upward (hq : s.quiet) (f : Forming) : ((s.learn f).claim p d.cellCount).upward := by
  have h : s.upward := by
    unfold State.upward
    rw [hq.1, hq.2.1]
    nofun
  exact h.learn f

end

/-! ## Admission -/

/-- The checks of a frame in words of its tenant's entry (R76, R83, R85, R86). -/
theorem State.frameRefusal_eq (s : State) (f : Forming) :
    s.frameRefusal f =
      if f.colour = .excess ∧ 2 ≤ (s.tenantEntry f.tenant).excessMode then some .meter
      else if shedRefuses s.admission.shed f.colour f.cls = true then some .shed
      else if (s.tenantEntry f.tenant).quota < s.heldCells f.tenant + f.cellCount then some .tenantQuota
      else none := by
  unfold State.frameRefusal TenantEntry.dropsExcess
  simp only [Bool.and_eq_true, decide_eq_true_eq]

/-- A frame coloured by its refilled meter (R74, R75). -/
def State.coloured (s : State) (f : Forming) : Forming :=
  { f with
    colour :=
      if frameCost f.length ≤ (refilledMeter (s.tenantEntry f.tenant) (s.meter f.tenant) s.now).tokens then .committed
      else .excess }

theorem State.admitFrame_eq (s : State) (f : Forming) (t : Target) :
    s.admitFrame f t =
      match s.frameRefusal (s.coloured f) with
      | some cause => (s.refillMeter f.tenant).countDrop cause f.tenant
      | none => (s.refillMeter f.tenant).replicate (s.coloured f) t := by
  have hmeter : (s.refillMeter f.tenant).meter f.tenant = refilledMeter (s.tenantEntry f.tenant) (s.meter f.tenant) s.now := by
    unfold State.refillMeter
    rw [State.setMeter_meter, if_pos rfl]
  have hcol : ({ f with colour := (s.refillMeter f.tenant).colourOf f.tenant f.length } : Forming) = s.coloured f := by
    unfold State.coloured State.colourOf
    rw [hmeter]
  unfold State.admitFrame
  dsimp only
  rw [hcol]
  rfl

end Sys2Proof.Machine
end

section
/-! Descriptors that end without a frame, cause by cause (O18). -/
namespace Sys2Proof.Machine

section
variable {s : State} {p : Port} {n : RingSlot} {g : Lanes} {d : Descriptor}

/-- A taking that passes the first validation step ends with the close of its stages (R25, R33). -/
theorem exec_taking_claimed (ht : s.takes p n g = true) (hd : Descriptor.read (merge (s.intakePort p).staging g) = d)
    (hle : d.cellCount ≤ s.issuedCount p) {u : State}
    (hu : (s.claiming p n g d).takeStages p d (s.claimed p d.cellCount) = u) :
    exec (.takingOfDescriptor p n g) s = .next (u.closeTaking (s.claimed p d.cellCount)).finish := by
  rw [exec_taking ht hd, if_neg (by omega), hu]

/-- A descriptor that fails the second or the third validation step (R26, R27). -/
theorem State.takeStages_invalid (h : d.sizeValid = false ∨ d.fcsBad = true ∨ d.truncated = true) (cells : List Nat) :
    (s.claiming p n g d).takeStages p d cells =
      (s.claiming p n g d).countDrop .ingressError (s.segmentTenant (s.portEntry p).defaultSegment) :=
  if_pos (by rcases h with h | h | h <;> simp [h])

section
variable (h1 : d.sizeValid = true) (h2 : d.fcsBad = false) (h3 : d.truncated = false)
include h1 h2 h3

/-- A descriptor of segment 0 or of a disabled segment (R28). -/
theorem State.takeStages_segmentOff (h : s.segmentOf p d = 0 ∨ (s.segmentEntry (s.segmentOf p d)).enabled = false)
    (cells : List Nat) :
    (s.claiming p n g d).takeStages p d cells =
      (s.claiming p n g d).countDrop .segmentOff (s.segmentTenant (s.segmentOf p d)) := by
  have hv : ¬(!d.sizeValid || d.fcsBad || d.truncated) = true := by simp [h1, h2, h3]
  exact (if_neg hv).trans (if_pos h)

/-- A descriptor that passes validation and the segment check forms a frame (R30). -/
theorem State.takeStages_formed (h4 : s.segmentOf p d ≠ 0) (h5 : (s.segmentEntry (s.segmentOf p d)).enabled = true)
    (cells : List Nat) :
    (s.claiming p n g d).takeStages p d cells = (s.claiming p n g d).forwardFrame (s.form p d cells) := by
  have hv : ¬(!d.sizeValid || d.fcsBad || d.truncated) = true := by simp [h1, h2, h3]
  have hs : ¬(s.segmentOf p d = 0 ∨ (s.segmentEntry (s.segmentOf p d)).enabled = false) := by simp [h4, h5]
  exact (if_neg hv).trans (if_neg hs)

end

/-- A claim that ends at once: one drop is counted, and the cells return (R8). -/
theorem State.dropped_ended (c : DropCause) (m : Tenant) :
    let t := (((s.claiming p n g d).countDrop c m).closeTaking (s.claimed p d.cellCount)).finish
    t.acct = (s.countDrop c m).acct ∧
      s.returned t ((s.claim p d.cellCount).settled (s.claimed p d.cellCount)) (s.claimed p d.cellCount)
        [s.crossing (ingressOffset p n) g] ∧
      t.admission.meters = s.admission.meters ∧ t.admission.held = s.admission.held ∧
      s.sameOutside [.cells, .intake, .admission, .acct, .notices, .bus] t := by
  have halong := (State.claiming_along (s := s) (p := p) (n := n) (g := g) (d := d)).agrees
    ((s.claiming p n g d).countDrop_outside c m).agrees rfl
  have hout : s.sameOutside [.cells, .intake, .admission, .acct, .notices, .bus] ((s.claiming p n g d).countDrop c m) := by
    simp [State.sameOutside, State.claiming, State.carrying, State.countDrop, State.updateLive, State.setTenantRecord]
  obtain ⟨h1, h2, h3, h4, h5, h6⟩ := halong.ended (d := d) (p := p) (cells := s.claimed p d.cellCount) rfl (fun _ _ => rfl) hout
  exact ⟨h2, h1, h4, h5, h6⟩

/-- A frame that is learned from and comes to no copy: `u` is what its stages have made of the part (R8, R32). -/
theorem State.learned_ended (hq : s.quiet) {f : Forming} {u : State} (hcells : f.cells = s.claimed p d.cellCount)
    (hu : (s.learning p n g d f).sameOutside [.admission, .acct] u) (hshed : u.admission.shed = s.admission.shed) :
    let t := (u.closeTaking (s.claimed p d.cellCount)).finish
    t.acct = u.acct ∧ t.lookup = (s.learn f).lookup ∧
      s.returned t (((s.learn f).claim p d.cellCount).settled (s.claimed p d.cellCount)) (s.claimed p d.cellCount)
        (s.linkWrites (s.claimed p d.cellCount) ++ [s.crossing (ingressOffset p n) g]) ∧
      t.linkWordsStand (s.claimed p d.cellCount) ∧
      t.admission.meters = u.admission.meters ∧ t.admission.held = u.admission.held ∧
      s.sameOutside [.cells, .intake, .lookup, .admission, .acct, .notices, .bus] t := by
  have hadm : (s.learning p n g d f).admission = s.admission := (State.learning_outside f).admission
  have hagree : Agrees (s.learning p n g d f) u :=
    .of_eq (by rw [hu.path]) (by rw [hu.path]) hu.tables (by rw [hu.live]) (by rw [hu.cells]) (by rw [hu.cells])
      (by rw [hshed, hadm]) hu.notices hu.bus
  have halong := (State.learning_along (s := s) (p := p) (n := n) (g := g) (d := d) f).agrees hagree (by rw [hu.bus])
  rw [hcells] at halong
  have hlinks (c : Nat) (hc : c ∉ s.claimed p d.cellCount) : u.cells.links.find c = s.cells.links.find c := by
    rw [hu.cells]
    exact linkEach_find _ (hcells ▸ hc)
  obtain ⟨h1, h2, h3, h4, h5, h6⟩ := halong.ended (d := d) (p := p) (by rw [hu.cells]; rfl) hlinks
    ((((State.learning_outside f).mono (by decide)).andThen hu) :
      s.sameOutside [.cells, .intake, .lookup, .admission, .acct, .notices, .bus] u)
  exact ⟨h2, h3.trans hu.lookup, h1, halong.linkWords hq (State.learning_upward hq f), h4, h5, h6⟩

/-- The checks of a frame that has been learned from read what they read before (R74 to R76). -/
theorem State.learning_reads (f : Forming) :
    (s.learning p n g d f).tenantEntry = s.tenantEntry ∧ (s.learning p n g d f).meter = s.meter ∧
      (s.learning p n g d f).heldCells = s.heldCells ∧ (s.learning p n g d f).now = s.now ∧
      (s.learning p n g d f).admission.shed = s.admission.shed := by
  have hout := State.learning_outside (s := s) (p := p) (n := n) (g := g) (d := d) f
  unfold State.tenantEntry State.meter State.heldCells State.now
  rw [hout.tables, hout.admission, hout.live]
  exact ⟨rfl, rfl, rfl, rfl, rfl⟩

end

/-- Settles O18. -/
theorem failedValidationOutcomes : Obligations.FailedValidationOutcomes :=
    fun p n g s d cells own hq ht hd hcells hown => by
  subst hcells hown
  refine ⟨fun hlt => ?_, fun hle hbad => ?_, fun hle h1 h2 h3 => ⟨fun hoff => ?_, fun f s0 base h4 h5 hf hs0 hbase => ?_⟩⟩
  · rw [exec_taking ht hd, if_pos hlt]
    exact congrArg Host.Outcome.next (State.noticed_finish (s := { s with intake := s.takenIntake p g })
      (own := [s.crossing (ingressOffset p n) g]) hq rfl)
  · exact ⟨_, exec_taking_claimed ht hd hle (State.takeStages_invalid hbad _), State.dropped_ended _ _⟩
  · exact ⟨_, exec_taking_claimed ht hd hle (State.takeStages_segmentOff h1 h2 h3 hoff _), State.dropped_ended _ _⟩
  · have hrow {u : State} (hu : (s.claiming p n g d).forwardFrame f = u) :
        exec (.takingOfDescriptor p n g) s = .next (u.closeTaking (s.claimed p d.cellCount)).finish :=
      exec_taking_claimed ht hd hle ((State.takeStages_formed h1 h2 h3 h4 h5 _).trans (by rw [← hf, hu]))
    have hfc : f.cells = s.claimed p d.cellCount := by rw [hf]; rfl
    obtain ⟨htenant, hmeter, hheld, hnow, hshed⟩ := State.learning_reads (s := s) (p := p) (n := n) (g := g) (d := d) f
    have hlacct : (s.learning p n g d f).acct = s0.acct := by rw [hs0]; rfl
    have hdrop (u : State) (c : DropCause) (ha : u.acct = s0.acct) : (u.countDrop c f.tenant).acct = (s0.countDrop c f.tenant).acct := by
      unfold State.countDrop State.updateLive State.setTenantRecord State.tenantRecord
      rw [ha]
    rw [hbase, hs0]
    refine ⟨fun hmiss hflood hmulti => ?_, fun m col cause hres hm hcol hcause => ?_⟩
    · have hnone : (s.learn f).resolve f = none := by
        unfold State.resolve
        rw [hmiss]
        dsimp only
        have hent : (s.learn f).segmentEntry f.segment = s.segmentEntry f.segment := by
          unfold State.segmentEntry
          rw [(s.learn_outside f).tables]
        rw [hent, hflood]
        split
        · rename_i hg
          rw [hmulti hg]
          rfl
        · rfl
      have hu : (s.claiming p n g d).forwardFrame f = (s.learning p n g d f).countDrop .noPath f.tenant := by
        rw [State.forwardFrame_claiming, hnone]
      obtain ⟨k1, k2, k3, k4, k5, k6, k7⟩ := State.learned_ended (u := (s.learning p n g d f).countDrop .noPath f.tenant) hq hfc
        ((State.countDrop_outside _ _ _).mono (by decide)) hshed
      have hadm : (s.learning p n g d f).admission = s.admission := (State.learning_outside f).admission
      refine ⟨_, hrow hu, k1.trans ?_, k2, k3, k4, k5.trans (congrArg AdmissionUnit.meters hadm),
        k6.trans (congrArg AdmissionUnit.held hadm), k7⟩
      rw [← hs0]
      exact hdrop _ _ hlacct
    · obtain ⟨tgt, htgt⟩ := Option.isSome_iff_exists.1 hres
      have hcoloured : (s.learning p n g d f).coloured f = { f with colour := col } := by
        unfold State.coloured
        rw [htenant, hmeter, hnow, hcol, hm, hf]
        rfl
      have hrefused : (s.learning p n g d f).frameRefusal ((s.learning p n g d f).coloured f) = some cause := by
        rw [State.frameRefusal_eq, hcoloured, htenant, hheld, hshed, ← hcause, hf]
        rfl
      have hu : (s.claiming p n g d).forwardFrame f = ((s.learning p n g d f).refillMeter f.tenant).countDrop cause f.tenant := by
        rw [State.forwardFrame_claiming, htgt]
        dsimp only
        rw [State.admitFrame_eq, hrefused]
      have hout : (s.learning p n g d f).sameOutside [.admission, .acct]
          (((s.learning p n g d f).refillMeter f.tenant).countDrop cause f.tenant) :=
        ((State.admission_outside _ _).mono (by decide)).andThen (State.countDrop_outside _ _ _)
      obtain ⟨k1, k2, k3, k4, k5, k6, k7⟩ := State.learned_ended hq hfc hout hshed
      have hadm : (s.learning p n g d f).admission = s.admission := (State.learning_outside f).admission
      have hmeters (j : Tenant) : ((((s.learning p n g d f).refillMeter f.tenant).countDrop cause f.tenant).closeTaking
          (s.claimed p d.cellCount)).finish.meter j = if j = f.tenant then m else s.meter j := by
        have : ((((s.learning p n g d f).refillMeter f.tenant).countDrop cause f.tenant).closeTaking
            (s.claimed p d.cellCount)).finish.meter j = ((s.learning p n g d f).refillMeter f.tenant).meter j := by
          unfold State.meter
          rw [k5]
          rfl
        rw [this]
        unfold State.refillMeter
        rw [State.setMeter_meter, htenant, hmeter, hnow, hm]
      refine ⟨_, hrow hu, k1.trans ?_, k2, k3, k4, (hmeters _).trans (if_pos rfl), fun j hj => (hmeters j).trans (if_neg hj),
        k6.trans (show (s.learning p n g d f).admission.held = _ by rw [hadm]), k7⟩
      rw [← hs0]
      exact hdrop _ _ hlacct

end Sys2Proof.Machine
end

section
/-! The release of the hold pool (R145): what it makes of each copy in its order, as `State.released` reads it. -/
namespace Sys2Proof.Machine

/-! ## The held copies of a frame in their order -/

/-- The copy of this tag belongs to the frame with this first cell. -/
def State.inFrame (s : State) (first j : Nat) : Bool := decide ((s.copy j).map (fun k => k.frame) = some first)

/-- The cells that a release frees with the copy of this tag (R17). -/
def State.releaseCells (s t : State) (j : Nat) : List Nat :=
  if s.releaseEnds t j then
    match s.copy j with
    | some k => s.frameCells k.frame
    | none => []
  else []

/-- The copies among `l` that a release retires. -/
def State.retiredOf (s t : State) (l : List Nat) : List Nat := l.filter fun j => (s.releasePort t j).isNone

theorem State.inFrame_of {s : State} {j first : Nat} {k : Copy} (hk : s.copy j = some k) :
    s.inFrame first j = true ↔ k.frame = first := by
  unfold State.inFrame
  rw [hk]
  simp

theorem mem_foldl_addPort {q : Port} (ports l : List Port) :
    q ∈ l.foldl (fun l q => addPort q l) ports ↔ q ∈ ports ∨ q ∈ l := by
  have hadd (p : Port) (m : List Port) : q ∈ addPort p m ↔ q = p ∨ q ∈ m := by
    induction m with
    | nil => simp [addPort]
    | cons r m ih =>
      unfold addPort
      split
      · simp
      · split
        · rename_i h
          simp [h]
        · simp only [List.mem_cons, ih]
          tauto
  induction l generalizing ports with
  | nil => simp
  | cons p l ih =>
    refine (ih _).trans ?_
    rw [hadd, List.mem_cons]
    tauto

/-- The copy of this tag is one of a sound hold pool: its record and its frame. -/
structure State.Held (s : State) (j : Nat) (k : Copy) (f : Frame) : Prop where
  copy : s.copy j = some k
  noPort : k.port = none
  frame : s.frame k.frame = some f
  count : (s.heldOf k.frame).length ≤ f.copyCount

section
variable {s t : State} {j : Nat} {k : Copy} {f : Frame} {g : GroupId}

theorem State.held_of_mem (hs : s.holdSound) (hg : j ∈ s.heldCopies g) : ∃ k f, s.Held j k f ∧ k.via = some g := by
  obtain ⟨k, hk, -, hp, hv, f, hf, hc⟩ := hs.2.1 g j hg
  exact ⟨k, f, ⟨hk, hp, hf, hc⟩, hv⟩

theorem State.Held.frameOf (h : s.Held j k f) : s.frameOf j = some f := by
  unfold State.frameOf
  rw [h.copy]
  exact h.frame

theorem State.Held.choice (h : s.Held j k f) (hv : k.via = some g) : s.heldChoice t j = t.memberChoice g f.flowHash := by
  unfold State.heldChoice
  rw [h.copy, h.frameOf]
  dsimp only
  rw [hv]
  rfl

theorem State.Held.fate (h : s.Held j k f) :
    s.releaseFate t j =
      match s.heldChoice t j with
      | none => .retires .noPath
      | some q =>
        if q ∈ f.ports ∨ q ∈ ((s.heldOf k.frame).takeWhile (· ≠ j)).filterMap (s.heldChoice t) then .retires .merged
        else .moves q := by
  unfold State.releaseFate
  rw [h.copy, h.frameOf] <;> cases s.heldChoice t j <;> rfl

theorem State.heldOf_nodup (hs : s.holdSound) (first : Nat) : (s.heldOf first).Nodup := hs.1.filter _

/-- The place of a copy among the held copies of its frame. -/
theorem State.Held.split (h : s.Held j k f) {l rest : List Nat} (hl : s.heldTags = l ++ j :: rest) :
    s.heldOf k.frame = l.filter (s.inFrame k.frame) ++ j :: rest.filter (s.inFrame k.frame) := by
  show s.heldTags.filter (s.inFrame k.frame) = _
  rw [hl, List.filter_append, List.filter_cons, if_pos ((State.inFrame_of h.copy).2 rfl)]

theorem takeWhile_ne_append {l rest : List Nat} (h : j ∉ l) : (l ++ j :: rest).takeWhile (· ≠ j) = l := by
  induction l with
  | nil => simp
  | cons a l ih =>
    obtain ⟨hne, hl⟩ := not_or.1 (mt List.mem_cons.2 h)
    rw [List.cons_append, List.takeWhile_cons_of_pos (by simpa using fun e => hne e.symm), ih hl]

/-- A port chosen for earlier copies of the frame is in its set by then: an earlier copy has joined it, or it was there
(R145). -/
theorem State.choices_join (hs : s.holdSound) {first : Nat} (hf : s.frame first = some f) {l rest : List Nat}
    (hl : s.heldOf first = l ++ rest) (q : Port) :
    (q ∈ f.ports ∨ q ∈ l.filterMap (s.heldChoice t)) ↔ (q ∈ f.ports ∨ q ∈ l.filterMap (s.releasePort t)) := by
  induction l using List.reverseRecOn generalizing rest with
  | nil => rfl
  | append_singleton l i ih =>
    rw [List.append_assoc, List.singleton_append] at hl
    have hi : i ∈ s.heldOf first := by rw [hl]; simp
    obtain ⟨himem, hiframe⟩ := List.mem_filter.1 hi
    obtain ⟨g, -, hg⟩ := List.mem_flatMap.1 himem
    obtain ⟨k, f', h, hv⟩ := State.held_of_mem hs hg
    have hkf : k.frame = first := (State.inFrame_of h.copy).1 hiframe
    have hff : f' = f := by
      have := h.frame
      rw [hkf, hf] at this
      exact (Option.some.inj this).symm
    subst hff
    have hnd : i ∉ l := fun hmem => by
      have := State.heldOf_nodup hs first
      rw [hl] at this
      exact (List.nodup_append.1 this).2.2 i hmem i List.mem_cons_self rfl
    have htake : (s.heldOf k.frame).takeWhile (· ≠ i) = l := by rw [hkf, hl, takeWhile_ne_append hnd]
    have hfate := h.fate (t := t)
    rw [htake] at hfate
    have hih := ih hl
    have hport : s.releasePort t i = match s.releaseFate t i with | .moves q => some q | _ => none := rfl
    rw [List.filterMap_append, List.filterMap_append, List.mem_append, List.mem_append, ← or_assoc, ← or_assoc, hih]
    cases hc : s.heldChoice t i with
    | none =>
      rw [hc] at hfate
      have : s.releasePort t i = none := by rw [hport, hfate]
      simp [hc, this]
    | some q' =>
      rw [hc] at hfate
      dsimp only at hfate
      by_cases hq : q' ∈ f'.ports ∨ q' ∈ l.filterMap (s.heldChoice t)
      · rw [if_pos hq] at hfate
        have hnone : s.releasePort t i = none := by rw [hport, hfate]
        simp only [List.filterMap_cons, hc, hnone, List.filterMap_nil, List.mem_singleton, List.not_mem_nil, or_false]
        refine ⟨fun h => h.elim id fun e => ?_, .inl⟩
        subst e
        exact hih.1 hq
      · rw [if_neg hq] at hfate
        have hsome : s.releasePort t i = some q' := by rw [hport, hfate]
        simp only [List.filterMap_cons, hc, hsome, List.filterMap_nil]

end

end Sys2Proof.Machine
end

section
/-! One copy after another of a sound hold pool (R145). -/
namespace Sys2Proof.Machine

/-- What a release has made of the frame record of `f`, first cell `first`, once the copies `l` of the pool are released. -/
def State.releasedFrame (s t : State) (l : List Nat) (first : Nat) (f : Frame) : Frame :=
  { f with
    copyCount := f.copyCount - (s.retiredOf t (l.filter (s.inFrame first))).length
    ports := ((l.filter (s.inFrame first)).filterMap (s.releasePort t)).foldl (fun l q => addPort q l) f.ports }

/-- The copies `l` of the hold pool of `s`, a beginning of it in the order of a release, have been released between `s` and `u`,
the choices being those of `t` (R145). -/
structure Released (s t : State) (l : List Nat) (u : State) : Prop where
  queue : ∀ (q : Port) (c : Cls), u.queue q c =
    s.queue q c ++ l.filter fun j => decide (s.releasePort t j = some q ∧ (s.copy j).map (fun k => k.cls) = some c)
  egress : u.queues.ports = s.queues.ports
  copy : ∀ j, u.copy j =
    if j ∈ l then (s.releasePort t j).bind fun q => (s.copy j).map fun k => { k with state := .queued, port := some q }
    else s.copy j
  frame : ∀ first, u.frame first =
    (s.frame first).bind fun f =>
      if l.filter (s.inFrame first) = [] then some f
      else if f.copyCount ≤ (s.retiredOf t (l.filter (s.inFrame first))).length then none
      else some (s.releasedFrame t l first f)
  links : u.cells.links = Table.without s.cells.links (l.flatMap (s.releaseCells t))
  held : ∀ m : Tenant, u.heldCells m = s.heldCells m - (l.map fun j => if s.releaseEnds t j then s.tenantCells m j else 0).sum
  meters : u.admission.meters = s.admission.meters
  shed : u.admission.shed = s.admission.shed
  freeCopies : Runs.toList u.cells.freeCopies = Runs.toList s.cells.freeCopies ++ s.retiredOf t l
  freeList : u.cells.freeList = Runs.pushAll s.cells.freeList (l.flatMap (s.releaseCells t))
  ports : u.cells.ports = s.cells.ports
  acct : u.acct = (l.foldl (s.releaseCount t) s).acct
  tables : u.tables = s.tables

theorem State.releaseCount_tables (s t a : State) (l : List Nat) : (l.foldl (s.releaseCount t) a).tables = a.tables := by
  induction l generalizing a with
  | nil => rfl
  | cons j l ih =>
    rw [List.foldl_cons, ih]
    unfold State.releaseCount State.countTag
    split
    · split
      · rfl
      · split
        · rfl
        · rw [State.countRetired_eq]
    · rfl

section
variable {s t u : State} {l rest : List Nat} {j : Nat} {k : Copy} {f : Frame}

/-! ## The frame of the next copy -/

section next
variable (hs : s.holdSound) (h : s.Held j k f) (hl : s.heldTags = l ++ j :: rest)
include hs h hl

omit h in
theorem Released.notMem : j ∉ l := fun hmem => by
  have hnd := hs.1
  rw [hl] at hnd
  exact (List.nodup_append.1 hnd).2.2 j hmem j List.mem_cons_self rfl

omit hs in
theorem Released.lost_lt : (s.retiredOf t (l.filter (s.inFrame k.frame))).length < f.copyCount := by
  have hcount := h.count
  rw [h.split hl, List.length_append, List.length_cons] at hcount
  have : (s.retiredOf t (l.filter (s.inFrame k.frame))).length ≤ (l.filter (s.inFrame k.frame)).length :=
    List.length_filter_le ..
  omega

/-- The next copy ends its frame just where it is retired as the last the frame has. -/
theorem Released.ends_iff : s.releaseEnds t j = true ↔
    s.releasePort t j = none ∧ f.copyCount - (s.retiredOf t (l.filter (s.inFrame k.frame))).length ≤ 1 := by
  have hlt := Released.lost_lt (t := t) h hl
  have hsplit := h.split hl
  have hcount := h.count
  have hnd := State.heldOf_nodup hs k.frame
  have hle : (s.retiredOf t (l.filter (s.inFrame k.frame))).length ≤ (l.filter (s.inFrame k.frame)).length :=
    List.length_filter_le ..
  have hlost : s.releaseLost t k.frame = s.retiredOf t (l.filter (s.inFrame k.frame)) ++
      s.retiredOf t (j :: rest.filter (s.inFrame k.frame)) := by
    show s.retiredOf t (s.heldOf k.frame) = _
    rw [hsplit]
    exact List.filter_append ..
  have hends : s.releaseEnds t j = true ↔
      (s.heldOf k.frame).getLast? = some j ∧ f.copyCount ≤ (s.releaseLost t k.frame).length := by
    unfold State.releaseEnds
    rw [h.copy, h.frameOf]
    exact decide_eq_true_iff
  rw [hends, hlost, hsplit]
  rw [hsplit] at hnd hcount
  generalize l.filter (s.inFrame k.frame) = a at *
  generalize rest.filter (s.inFrame k.frame) = b at *
  rw [List.length_append, List.length_cons] at hcount
  constructor
  · rintro ⟨hlast, hall⟩
    have hb : b = [] := by
      by_contra hne
      have hlastb : (a ++ j :: b).getLast? = b.getLast? := by
        rw [List.getLast?_append_cons, List.getLast?_cons_of_ne_nil hne]
      rw [hlastb] at hlast
      have hj : j ∈ b := List.mem_of_getLast? hlast
      exact (List.nodup_cons.1 (List.nodup_append.1 hnd).2.1).1 hj
    subst hb
    cases hp : s.releasePort t j with
    | none =>
      have : s.retiredOf t [j] = [j] := by simp [State.retiredOf, hp]
      rw [this, List.length_append, List.length_singleton] at hall
      exact ⟨rfl, by omega⟩
    | some q =>
      have : s.retiredOf t [j] = [] := by simp [State.retiredOf, hp]
      rw [this, List.append_nil] at hall
      omega
  · rintro ⟨hp, hone⟩
    have hb : b = [] := List.length_eq_zero_iff.1 (by omega)
    subst hb
    have : s.retiredOf t [j] = [j] := by simp [State.retiredOf, hp]
    rw [this, List.length_append, List.length_singleton]
    exact ⟨by simp, by omega⟩

/-- A copy released earlier has not ended this frame. -/
theorem Released.notEnded {i : Nat} (hi : i ∈ l) (he : s.releaseEnds t i = true) : ∃ k', s.copy i = some k' ∧ k'.frame ≠ k.frame := by
  unfold State.releaseEnds at he
  cases hk' : s.copy i with
  | none => rw [hk'] at he; simp at he
  | some k' =>
    refine ⟨k', rfl, fun heq => ?_⟩
    rw [hk'] at he
    cases hf' : s.frameOf i with
    | none => rw [hf'] at he; simp at he
    | some f' =>
      rw [hf'] at he
      obtain ⟨hlast, -⟩ := of_decide_eq_true he
      rw [heq, h.split hl, List.getLast?_append_cons] at hlast
      have hmem : i ∈ j :: rest.filter (s.inFrame k.frame) := List.mem_of_getLast? hlast
      have hnd := hs.1
      rw [hl] at hnd
      refine (List.nodup_append.1 hnd).2.2 i hi i ?_ rfl
      rcases List.mem_cons.1 hmem with rfl | hmem
      · exact List.mem_cons_self
      · exact List.mem_cons_of_mem _ (List.mem_filter.1 hmem).1

/-- The cells of this frame are none of those freed so far (R1). -/
theorem Released.cells_apart :
    (s.frameCells k.frame).Nodup ∧ ∀ x ∈ s.frameCells k.frame, x ∉ l.flatMap (s.releaseCells t) := by
  have hcells := hs.2.2
  have hkey {i : Nat} {k' : Copy} (hi : i ∈ s.heldTags) (hk' : s.copy i = some k') :
      k'.frame ∈ (s.heldTags.filterMap fun j => (s.copy j).map fun k => k.frame).eraseDups :=
    List.mem_eraseDups.2 (List.mem_filterMap.2 ⟨i, hi, by rw [hk']; rfl⟩)
  have hj : j ∈ s.heldTags := by rw [hl]; simp
  rw [List.nodup_flatMap] at hcells
  refine ⟨hcells.1 _ (hkey hj h.copy), fun x hx hmem => ?_⟩
  obtain ⟨i, hi, hxi⟩ := List.mem_flatMap.1 hmem
  unfold State.releaseCells at hxi
  split at hxi
  · rename_i he
    obtain ⟨k', hk', hne⟩ := Released.notEnded hs h hl hi he
    rw [hk'] at hxi
    have himem : i ∈ s.heldTags := by rw [hl]; exact List.mem_append_left _ hi
    have hsymm : Std.Symm (Function.onFun List.Disjoint s.frameCells) := ⟨fun _ _ hd => hd.symm⟩
    exact (hcells.2.forall (hkey himem hk') (hkey hj h.copy) hne) hxi hx
  · cases hxi

end next

end

end Sys2Proof.Machine
end

section
/-! What the release of the next copy makes of the part (R145). -/
namespace Sys2Proof.Machine

theorem State.countRetired_copyCount (u : State) (cause : RetireCause) (f : Frame) (n : Nat) (k : Copy) :
    u.countRetired cause { f with copyCount := n } k = u.countRetired cause f k := by
  cases cause <;> rfl

section
variable {s t u : State} {l rest : List Nat} {j : Nat} {k : Copy} {f : Frame} {g : GroupId}

theorem State.releasedFrame_of_nil {first : Nat} (h : l.filter (s.inFrame first) = []) (f : Frame) :
    s.releasedFrame t l first f = f := by
  unfold State.releasedFrame
  rw [h]
  rfl

theorem State.releasedFrame_congr {m : List Nat} {first : Nat} (h : m.filter (s.inFrame first) = l.filter (s.inFrame first)) :
    s.releasedFrame t m first = s.releasedFrame t l first := by
  unfold State.releasedFrame
  rw [h]

variable (hr : Released s t l u) (hs : s.holdSound) (h : s.Held j k f) (hl : s.heldTags = l ++ j :: rest)
include hr hs h hl

theorem Released.nextCopy : u.copy j = some k := by
  have hj : j ∉ l := Released.notMem hs hl
  rw [hr.copy, if_neg hj, h.copy]

omit hs in
theorem Released.nextFrame : u.frame k.frame = some (s.releasedFrame t l k.frame f) := by
  have hlt := Released.lost_lt (t := t) h hl
  rw [hr.frame, h.frame]
  show (if _ then _ else _) = _
  by_cases hnil : l.filter (s.inFrame k.frame) = []
  · rw [if_pos hnil, State.releasedFrame_of_nil hnil]
  · rw [if_neg hnil, if_neg (by omega)]

omit hs hl in
/-- The frame records once the next copy is released, given what its own frame has become. -/
theorem Released.frames {v : Option Frame} {u' : State} (hframe : ∀ i, u'.frame i = if i = k.frame then v else u.frame i)
    (hv : v = if f.copyCount ≤ (s.retiredOf t (l.filter (s.inFrame k.frame) ++ [j])).length then none
      else some (s.releasedFrame t (l ++ [j]) k.frame f)) (first : Nat) :
    u'.frame first =
      (s.frame first).bind fun f =>
        if (l ++ [j]).filter (s.inFrame first) = [] then some f
        else if f.copyCount ≤ (s.retiredOf t ((l ++ [j]).filter (s.inFrame first))).length then none
        else some (s.releasedFrame t (l ++ [j]) first f) := by
  rw [hframe]
  by_cases hfirst : first = k.frame
  · subst hfirst
    have hfilter : (l ++ [j]).filter (s.inFrame k.frame) = l.filter (s.inFrame k.frame) ++ [j] := by
      rw [List.filter_append, List.filter_cons, if_pos ((State.inFrame_of h.copy).2 rfl)]
      rfl
    rw [if_pos rfl, h.frame, hv, hfilter]
    have hne : l.filter (s.inFrame k.frame) ++ [j] ≠ [] := by simp
    exact (if_neg hne).symm
  · have hfilter : (l ++ [j]).filter (s.inFrame first) = l.filter (s.inFrame first) := by
      rw [List.filter_append, List.filter_cons, if_neg fun h' => hfirst ((State.inFrame_of h.copy).1 h').symm]
      simp
    rw [if_neg hfirst, hr.frame, hfilter, State.releasedFrame_congr hfilter]

theorem Released.retire {cause : RetireCause} (hfate : s.releaseFate t j = .retires cause) :
    Released s t (l ++ [j]) (u.retire j cause) := by
  have hport : s.releasePort t j = none := by unfold State.releasePort; rw [hfate]
  have huk := hr.nextCopy hs h hl
  have huf := hr.nextFrame h hl
  have hlt := Released.lost_lt (t := t) h hl
  have hends := Released.ends_iff (t := t) hs h hl
  rw [hport, eq_self, true_and] at hends
  obtain ⟨hcellsnd, hcellsdis⟩ := Released.cells_apart (t := t) hs h hl
  have hret := State.retire_retired huk huf cause
  have hlinks := State.retire_links huk huf cause
  have hout := u.retire_outside j cause
  have hretired : s.retiredOf t (l.filter (s.inFrame k.frame) ++ [j]) =
      s.retiredOf t (l.filter (s.inFrame k.frame)) ++ [j] := by
    unfold State.retiredOf
    rw [List.filter_append]
    congr 1
    simp [hport]
  have hcount : (s.releasedFrame t l k.frame f).copyCount =
      f.copyCount - (s.retiredOf t (l.filter (s.inFrame k.frame))).length := rfl
  have hcells : u.freedBy k.frame (s.releasedFrame t l k.frame f) = s.releaseCells t j := by
    unfold State.freedBy State.releaseCells
    rw [hcount]
    by_cases he : s.releaseEnds t j = true
    · rw [if_pos he, if_neg (by have := hends.1 he; omega), h.copy]
      exact State.frameCells_without hr.links hcellsnd hcellsdis
    · rw [if_neg he, if_pos (by have := mt hends.2 he; omega)]
  refine ⟨fun q c => ?_, ?_, fun i => ?_, Released.frames hr h hret.frame ?_, ?_, fun m => ?_, hret.meters.trans hr.meters,
    hret.shed.trans hr.shed, ?_, ?_, hret.ports.trans hr.ports, ?_, hout.tables.trans hr.tables⟩
  · have hq : (u.retire j cause).queue q c = u.queue q c := by unfold State.queue; rw [hout.queues]
    rw [hq, hr.queue, List.filter_append]
    simp [hport]
  · rw [hout.queues, hr.egress]
  · rw [hret.copy, hr.copy]
    by_cases hi : i = j
    · subst hi
      rw [if_pos rfl, if_pos (by simp), hport]
      rfl
    · rw [if_neg hi, if_congr (show i ∈ l ↔ i ∈ l ++ [j] by simp [hi]) rfl rfl]
  · rw [hretired, List.length_append, List.length_singleton, hcount]
    by_cases h2 : 2 ≤ f.copyCount - (s.retiredOf t (l.filter (s.inFrame k.frame))).length
    · rw [if_pos h2, if_neg (by omega), Copy.leaves_of_none h.noPort]
      have hfilter : (l ++ [j]).filter (s.inFrame k.frame) = l.filter (s.inFrame k.frame) ++ [j] := by
        rw [List.filter_append, List.filter_cons, if_pos ((State.inFrame_of h.copy).2 rfl)]
        rfl
      have hnone : [j].filterMap (s.releasePort t) = [] := by simp [hport]
      unfold State.releasedFrame
      rw [hfilter, hretired, List.filterMap_append, hnone, List.append_nil, List.length_append, List.length_singleton,
        Nat.sub_sub]
    · rw [if_neg h2, if_pos (by omega)]
  · rw [hlinks, hr.links, hcells, ← Table.without_append, List.flatMap_append, List.flatMap_singleton]
  · rw [hret.held, hr.held, List.map_append, List.sum_append, Nat.sub_sub]
    congr 2
    simp only [List.map_cons, List.map_nil, List.sum_cons, List.sum_nil, Nat.add_zero]
    rw [hcount]
    have htenant : s.tenantCells m j = if f.tenant = m then f.cellCount else 0 := by
      unfold State.tenantCells
      rw [h.frameOf]
    by_cases he : s.releaseEnds t j = true
    · rw [if_pos he, htenant]
      have := hends.1 he
      exact if_congr ⟨fun hm => hm.1.symm, fun hm => ⟨hm.symm, by omega⟩⟩ rfl rfl
    · rw [if_neg he, if_neg fun hm => he (hends.2 (by have := hm.2; omega))]
  · rw [hret.freeCopies, Runs.toList_push, hr.freeCopies]
    unfold State.retiredOf
    rw [List.filter_append, List.append_assoc]
    simp [hport]
  · rw [hret.freeList, hr.freeList, hcells, ← Runs.pushAll_append, List.flatMap_append, List.flatMap_singleton]
  · rw [hret.acct, List.foldl_append, List.foldl_cons, List.foldl_nil]
    have hcount : s.releaseCount t (l.foldl (s.releaseCount t) s) j = (l.foldl (s.releaseCount t) s).countRetired cause f k := by
      unfold State.releaseCount
      rw [hfate]
      exact State.countTag_of h.copy h.frame cause
    rw [hcount]
    have htables : u.tables = (l.foldl (s.releaseCount t) s).tables := by rw [hr.tables, State.releaseCount_tables]
    rw [← State.countRetired_acct_congr hr.acct htables cause f (s.releasedFrame t l k.frame f).ports k,
      ← State.countRetired_copyCount u cause _ (f.copyCount - (s.retiredOf t (l.filter (s.inFrame k.frame))).length) k]
    rfl

theorem Released.join {q : Port} (hfate : s.releaseFate t j = .moves q) : Released s t (l ++ [j]) (u.appendQueued j k q) := by
  have hport : s.releasePort t j = some q := by unfold State.releasePort; rw [hfate]
  have huf := hr.nextFrame h hl
  have hlt := Released.lost_lt (t := t) h hl
  have hends : ¬s.releaseEnds t j = true := fun he => by
    have := ((Released.ends_iff (t := t) hs h hl).1 he).1
    rw [hport] at this
    cases this
  have heq := State.appendQueued_eq (s := u) (tag := j) (k := k) (q := q) huf
  have hqueue := fun r c => State.appendQueued_queue (s := u) (tag := j) (k := k) (q := q) huf r c
  have hretired (m : List Nat) : s.retiredOf t (m ++ [j]) = s.retiredOf t m := by
    unfold State.retiredOf
    rw [List.filter_append]
    simp [hport]
  have hcells : s.releaseCells t j = [] := if_neg hends
  have hframe (i : Nat) : (u.appendQueued j k q).frame i =
      if i = k.frame then some { s.releasedFrame t l k.frame f with ports := addPort q (s.releasedFrame t l k.frame f).ports }
      else u.frame i := by
    rw [heq]
    exact Table.find_put ..
  have hcopy (i : Nat) : (u.appendQueued j k q).copy i =
      if i = j then some { k with state := .queued, port := some q } else u.copy i := by
    rw [heq]
    exact Table.find_put ..
  have hheld (m : Tenant) : (u.appendQueued j k q).heldCells m = u.heldCells m := by rw [heq]; rfl
  refine ⟨fun r c => ?_, by rw [heq]; exact hr.egress, fun i => ?_, Released.frames hr h hframe ?_, by
      rw [heq, List.flatMap_append, List.flatMap_singleton, hcells, List.append_nil]; exact hr.links,
    fun m => ?_, by rw [heq]; exact hr.meters, by rw [heq]; exact hr.shed, by rw [heq, hretired]; exact hr.freeCopies,
    by rw [heq, List.flatMap_append, List.flatMap_singleton, hcells, List.append_nil]; exact hr.freeList,
    by rw [heq]; exact hr.ports, ?_, by rw [heq]; exact hr.tables⟩
  · rw [hqueue, List.filter_append]
    by_cases hrc : r = q ∧ c = k.cls
    · obtain ⟨rfl, rfl⟩ := hrc
      rw [if_pos ⟨rfl, rfl⟩, hr.queue, List.append_assoc]
      congr 2
      simp [hport, h.copy]
    · rw [if_neg hrc, hr.queue]
      have : ¬(some q = some r ∧ some k.cls = some c) := fun e =>
        hrc ⟨(Option.some.inj e.1).symm, (Option.some.inj e.2).symm⟩
      simp only [List.filter_cons, List.filter_nil, hport, h.copy, Option.map_some, this, decide_false, Bool.false_eq_true,
        if_false, List.append_nil]
  · rw [hcopy, hr.copy]
    by_cases hi : i = j
    · subst hi
      rw [if_pos rfl, if_pos (by simp), hport, h.copy]
      rfl
    · rw [if_neg hi, if_congr (show i ∈ l ↔ i ∈ l ++ [j] by simp [hi]) rfl rfl]
  · have hfilter : (l ++ [j]).filter (s.inFrame k.frame) = l.filter (s.inFrame k.frame) ++ [j] := by
      rw [List.filter_append, List.filter_cons, if_pos ((State.inFrame_of h.copy).2 rfl)]
      rfl
    have hsome : [j].filterMap (s.releasePort t) = [q] := by simp [hport]
    rw [hretired, if_neg (by omega)]
    unfold State.releasedFrame
    rw [hfilter, hretired, List.filterMap_append, hsome, List.foldl_append]
    rfl
  · rw [hheld, hr.held, List.map_append, List.sum_append]
    simp [hends]
  · rw [heq, List.foldl_append]
    show u.acct = (s.releaseCount t (l.foldl (s.releaseCount t) s) j).acct
    have hcount : s.releaseCount t (l.foldl (s.releaseCount t) s) j = l.foldl (s.releaseCount t) s := by
      unfold State.releaseCount
      rw [hfate]
    rw [hcount, hr.acct]

end

end Sys2Proof.Machine
end

section
/-! The calm point (R139, R145): the groups recomputed, the hold pool released group by group. -/
namespace Sys2Proof.Machine

/-! ## What a release touches, whatever the pool -/

/-- Copies have left their places between `s` and `u`, and cells have joined the free list: of the failover controller the hold
pool alone has changed, of the queue manager the class queues alone. -/
structure Releases (s u : State) : Prop where
  outside : s.sameOutside [.cells, .admission, .queues, .failover, .acct] u
  failover : u.failover = { s.failover with hold := u.failover.hold }
  egress : u.queues.ports = s.queues.ports
  meters : u.admission.meters = s.admission.meters
  frees : ∃ freed, Agrees (s.freed freed) u

namespace Releases

variable {s u v : State}

theorem refl (s : State) : Releases s s := ⟨.refl _ s, rfl, rfl, rfl, [], .refl s⟩

theorem trans (h : Releases s u) (k : Releases u v) : Releases s v := by
  obtain ⟨f1, h1⟩ := h.frees
  obtain ⟨f2, k1⟩ := k.frees
  refine ⟨h.outside.trans k.outside, by rw [k.failover, h.failover], k.egress.trans h.egress,
    k.meters.trans h.meters, f1 ++ f2, ?_⟩
  rw [State.freed_append]
  exact (h1.freed f2).agrees k1

/-- A retirement, whatever the records say. -/
theorem retire (s : State) (tag : Nat) (cause : RetireCause) : Releases s (s.retire tag cause) := by
  have hout := s.retire_outside tag cause
  have hleave (k : Copy) : s.leaveCopyPort k = { s with cells := { s.cells with frames := (s.leaveCopyPort k).cells.frames } } :=
    s.leaveCopyPort_eq k
  suffices key : (s.retire tag cause).admission.meters = s.admission.meters ∧ ∃ freed, Agrees (s.freed freed) (s.retire tag cause) from
    ⟨hout.mono (by decide), by rw [hout.failover], by rw [hout.queues], key.1, key.2⟩
  rcases s.retire_cases tag cause with ⟨-, e⟩ | ⟨k, -, ⟨-, e⟩ | ⟨f, -, ⟨-, e⟩ | ⟨-, e⟩⟩⟩
  · rw [e]
    exact ⟨rfl, [], .refl s⟩
  · rw [e, hleave]
    exact ⟨rfl, [], .of_eq rfl rfl rfl rfl rfl rfl rfl rfl rfl⟩
  · have hcount := (s.leaveCopyPort k).countRetired_eq cause f k
    generalize ((s.leaveCopyPort k).countRetired cause f k).acct = a at hcount
    rw [e, hcount, hleave]
    exact ⟨rfl, linkedCells s.cells.links s.cells.links.length k.frame, .of_eq rfl rfl rfl rfl rfl rfl rfl rfl rfl⟩
  · have hcount := (s.leaveCopyPort k).countRetired_eq cause f k
    generalize ((s.leaveCopyPort k).countRetired cause f k).acct = a at hcount
    rw [e, hcount, hleave]
    exact ⟨rfl, [], .of_eq rfl rfl rfl rfl rfl rfl rfl rfl rfl⟩

theorem appendQueued (s : State) (tag : Nat) (k : Copy) (q : Port) : Releases s (s.appendQueued tag k q) := by
  have hout := s.appendQueued_outside tag k q
  suffices key : (s.appendQueued tag k q).queues.ports = s.queues.ports ∧ Agrees (s.freed []) (s.appendQueued tag k q) from
    ⟨hout.mono (by decide), by rw [hout.failover], key.1, by rw [hout.admission], [], key.2⟩
  unfold State.appendQueued State.joinPort
  split <;> exact ⟨rfl, .of_eq rfl rfl rfl rfl rfl rfl rfl rfl rfl⟩

theorem rechoose (s : State) (tag : Nat) (k : Copy) (g : GroupId) : Releases s (s.rechoose tag k g).1 := by
  unfold State.rechoose
  split
  · exact refl s
  · split
    · exact retire s _ _
    · split
      exacts [retire s _ _, appendQueued s _ _ _]

theorem one (s : State) (g : GroupId) (acc : List Port) (j : Nat) : Releases s (State.releaseOne g (s, acc) j).1 := by
  unfold State.releaseOne
  split
  · exact refl s
  · split
    exacts [retire s _ _, rechoose s _ _ _]

theorem many (s : State) (g : GroupId) (acc : List Port) (l : List Nat) : Releases s (l.foldl (State.releaseOne g) (s, acc)).1 := by
  induction l generalizing s acc with
  | nil => exact refl s
  | cons j l ih => exact (one s g acc j).trans (ih _ _)

theorem setHeldCopies (s : State) (g : GroupId) (l : List Nat) : Releases s (s.setHeldCopies g l) :=
  ⟨(s.failover_outside _).mono (by decide), rfl, rfl, rfl, [], .of_eq rfl rfl rfl rfl rfl rfl rfl rfl rfl⟩

theorem group (x : State × List Port) (g : GroupId) : Releases x.1 (State.releaseGroup x g).1 :=
  (setHeldCopies x.1 g []).trans (many _ g _ _)

theorem groups (x : State × List Port) (l : List GroupId) : Releases x.1 (l.foldl State.releaseGroup x).1 := by
  induction l generalizing x with
  | nil => exact refl x.1
  | cons g l ih => exact (group x g).trans (ih _)

end Releases

/-! ## The hold pool is emptied -/

theorem State.releaseOne_hold (s : State) (g : GroupId) (acc : List Port) (j : Nat) :
    (State.releaseOne g (s, acc) j).1.failover = s.failover := by
  have hre (k : Copy) : (s.rechoose j k g).1.failover = s.failover := (s.rechoose_outside j k g).failover
  unfold State.releaseOne
  split
  · rfl
  · split
    exacts [(s.retire_outside _ _).failover, hre _]

theorem State.releaseGroup_hold (x : State × List Port) (g : GroupId) :
    (State.releaseGroup x g).1.failover = (x.1.setHeldCopies g []).failover := by
  unfold State.releaseGroup
  generalize x.1.heldCopies g = l
  generalize x.1.setHeldCopies g [] = s
  generalize x.2 = acc
  induction l generalizing s acc with
  | nil => rfl
  | cons j l ih => exact (ih _ _).trans (s.releaseOne_hold g acc j)

theorem State.releaseGroups_hold (x : State × List Port) (l : List GroupId) (h : GroupId) :
    (l.foldl State.releaseGroup x).1.heldCopies h = if h ∈ l then [] else x.1.heldCopies h := by
  induction l generalizing x with
  | nil => rfl
  | cons g l ih =>
    have hone : (State.releaseGroup x g).1.heldCopies h = if h = g then [] else x.1.heldCopies h := by
      have : (State.releaseGroup x g).1.heldCopies h = (x.1.setHeldCopies g []).heldCopies h := by
        unfold State.heldCopies
        rw [State.releaseGroup_hold]
      rw [this, State.setHeldCopies_heldCopies]
    rw [List.foldl_cons, ih, hone]
    by_cases hl : h ∈ l
    · rw [if_pos hl, if_pos (List.mem_cons_of_mem _ hl)]
    · rw [if_neg hl]
      exact if_congr (by simp [hl]) rfl rfl

/-! ## A sound pool -/

section
variable {s t : State} (hs : s.holdSound)

theorem Released.of_blocks {u v : State} {l : List Nat} (h : Released s t l u) (hc : v.cells = u.cells)
    (ha : v.admission = u.admission) (hq : v.queues = u.queues) (hacct : v.acct = u.acct) (ht : v.tables = u.tables) :
    Released s t l v := by
  have hcopy (j : Nat) : v.copy j = u.copy j := by unfold State.copy; rw [hc]
  have hframe (j : Nat) : v.frame j = u.frame j := by unfold State.frame; rw [hc]
  have hheld (m : Tenant) : v.heldCells m = u.heldCells m := by unfold State.heldCells; rw [ha]
  have hqueue (q : Port) (c : Cls) : v.queue q c = u.queue q c := by unfold State.queue; rw [hq]
  exact ⟨fun q c => (hqueue q c).trans (h.queue q c), by rw [hq, h.egress], fun j => (hcopy j).trans (h.copy j),
    fun i => (hframe i).trans (h.frame i), by rw [hc, h.links], fun m => (hheld m).trans (h.held m), by rw [ha, h.meters],
    by rw [ha, h.shed], by rw [hc, h.freeCopies], by rw [hc, h.freeList], by rw [hc, h.ports], by rw [hacct, h.acct],
    ht.trans h.tables⟩

theorem Released.start {u : State} (hc : u.cells = s.cells) (ha : u.admission = s.admission) (hq : u.queues = s.queues)
    (hacct : u.acct = s.acct) (ht : u.tables = s.tables) : Released s t [] u := by
  have h : Released s t [] s := by
    refine ⟨fun q c => (List.append_nil _).symm, rfl, fun j => rfl, fun first => ?_, rfl, fun m => rfl, rfl, rfl,
      (List.append_nil _).symm, rfl, rfl, rfl, rfl⟩
    cases s.frame first <;> rfl
  exact h.of_blocks hc ha hq hacct ht

include hs

/-- The release of the next copy, in its group (R145). -/
theorem Released.one {u : State} {l rest : List Nat} {j : Nat} {g : GroupId} (hr : Released s t l u)
    (hl : s.heldTags = l ++ j :: rest) (hj : j ∈ s.heldCopies g) (hmc : ∀ h, u.memberChoice g h = t.memberChoice g h)
    (hdark : u.groupState g = .dark → ∀ h, t.memberChoice g h = none) (acc : List Port) :
    Released s t (l ++ [j]) (State.releaseOne g (u, acc) j).1 ∧
      (State.releaseOne g (u, acc) j).2 = acc ++ (s.releasePort t j).toList := by
  obtain ⟨k, f, h, hv⟩ := State.held_of_mem hs hj
  have hfate := h.fate (t := t)
  rw [h.choice hv] at hfate
  have hnd : j ∉ l.filter (s.inFrame k.frame) := fun hmem => Released.notMem hs hl (List.mem_filter.1 hmem).1
  have hport : s.releasePort t j = match s.releaseFate t j with | .moves q => some q | _ => none := rfl
  have hmem (q : Port) : q ∈ (s.releasedFrame t l k.frame f).ports ↔
      q ∈ f.ports ∨ q ∈ ((s.heldOf k.frame).takeWhile (· ≠ j)).filterMap (s.heldChoice t) := by
    rw [h.split hl, takeWhile_ne_append hnd, State.choices_join hs h.frame (h.split hl)]
    exact mem_foldl_addPort _ _
  have hnone (hc : t.memberChoice g f.flowHash = none) :
      Released s t (l ++ [j]) (u.retire j .noPath) ∧ acc = acc ++ (s.releasePort t j).toList := by
    rw [hc] at hfate
    refine ⟨hr.retire hs h hl hfate, ?_⟩
    rw [hport, hfate]
    simp
  unfold State.releaseOne
  rw [hr.nextCopy hs h hl]
  dsimp only
  by_cases hg : u.groupState g = .dark
  · rw [if_pos hg]
    exact hnone (hdark hg _)
  · rw [if_neg hg]
    unfold State.rechoose
    rw [hr.nextFrame h hl]
    dsimp only
    rw [show (s.releasedFrame t l k.frame f).flowHash = f.flowHash from rfl, hmc]
    cases hc : t.memberChoice g f.flowHash with
    | none =>
      obtain ⟨h1, h2⟩ := hnone hc
      refine ⟨h1, ?_⟩
      dsimp only
      rw [← h2]
      simp
    | some q =>
      rw [hc] at hfate
      dsimp only at hfate ⊢
      simp only [← hmem] at hfate
      by_cases hq : q ∈ (s.releasedFrame t l k.frame f).ports
      · rw [if_pos hq] at hfate ⊢
        refine ⟨hr.retire hs h hl hfate, ?_⟩
        rw [hport, hfate]
      · rw [if_neg hq] at hfate ⊢
        refine ⟨hr.join hs h hl hfate, ?_⟩
        rw [hport, hfate]

/-- The release of copies of one group. -/
theorem Released.many {u : State} {l m rest : List Nat} {g : GroupId} (hr : Released s t l u) (hl : s.heldTags = l ++ (m ++ rest))
    (hm : ∀ j ∈ m, j ∈ s.heldCopies g) (ht : u.tables = t.tables) (hlive : u.live.ports = t.live.ports)
    (hdark : u.groupState g = .dark → ∀ h, t.memberChoice g h = none) (acc : List Port) :
    Released s t (l ++ m) (m.foldl (State.releaseOne g) (u, acc)).1 ∧
      (m.foldl (State.releaseOne g) (u, acc)).2 = acc ++ m.filterMap (s.releasePort t) := by
  induction m generalizing u l acc with
  | nil =>
    rw [List.append_nil]
    exact ⟨hr, (List.append_nil _).symm⟩
  | cons j m ih =>
    obtain ⟨h1, h2⟩ := hr.one hs (rest := m ++ rest) hl (hm j List.mem_cons_self) (fun h => State.memberChoice_congr ht hlive g h) hdark acc
    have hout := (Releases.one u g acc j).outside
    have hgs : (State.releaseOne g (u, acc) j).1.groupState g = u.groupState g := by
      unfold State.groupState
      rw [State.releaseOne_hold]
    obtain ⟨h3, h4⟩ := ih h1 (by rw [hl]; simp) (fun i hi => hm i (List.mem_cons_of_mem _ hi)) (hout.tables.trans ht)
      (by rw [hout.live, hlive]) (by rw [hgs]; exact hdark) (State.releaseOne g (u, acc) j).2
    rw [List.append_assoc] at h3
    refine ⟨h3, h4.trans ?_⟩
    rw [h2, List.append_assoc]
    congr 1
    rw [List.filterMap_cons]
    cases s.releasePort t j <;> rfl

/-- The release of group after group, in ascending number. -/
theorem Released.groups {x : State × List Port} {d gs : List GroupId} (hr : Released s t (d.flatMap s.heldCopies) x.1)
    (hsplit : allGroups = d ++ gs) (hhold : ∀ g ∈ gs, x.1.heldCopies g = s.heldCopies g) (ht : x.1.tables = t.tables)
    (hlive : x.1.live.ports = t.live.ports) (hdark : ∀ g, x.1.groupState g = .dark → ∀ h, t.memberChoice g h = none) :
    Released s t s.heldTags (gs.foldl State.releaseGroup x).1 ∧
      (gs.foldl State.releaseGroup x).2 = x.2 ++ (gs.flatMap s.heldCopies).filterMap (s.releasePort t) := by
  induction gs generalizing x d with
  | nil =>
    rw [List.append_nil] at hsplit
    refine ⟨?_, (List.append_nil _).symm⟩
    unfold State.heldTags
    rw [hsplit]
    exact hr
  | cons g gs ih =>
    have hset : Released s t (d.flatMap s.heldCopies) (x.1.setHeldCopies g []) := hr.of_blocks rfl rfl rfl rfl rfl
    have hsame := hhold g List.mem_cons_self
    have htags : s.heldTags = d.flatMap s.heldCopies ++ (s.heldCopies g ++ gs.flatMap s.heldCopies) := by
      unfold State.heldTags
      rw [hsplit, List.flatMap_append, List.flatMap_cons]
    obtain ⟨h1, h2⟩ := hset.many hs htags (fun _ => id) ht hlive (hdark g) x.2
    have hout := (Releases.group x g).outside
    have hnotin : g ∉ gs := by
      have hnd := nodup_allGroups
      rw [hsplit] at hnd
      exact (List.nodup_cons.1 (List.nodup_append.1 hnd).2.1).1
    have hgroup : State.releaseGroup x g = (s.heldCopies g).foldl (State.releaseOne g) (x.1.setHeldCopies g [], x.2) := by
      unfold State.releaseGroup
      rw [hsame]
    obtain ⟨h3, h4⟩ := ih (x := State.releaseGroup x g) (d := d ++ [g])
      (by rw [hgroup, List.flatMap_append, List.flatMap_singleton]; exact h1) (by rw [hsplit]; simp)
      (fun h hh => by
        have hne : h ≠ g := fun e => hnotin (e ▸ hh)
        rw [← hhold h (List.mem_cons_of_mem _ hh)]
        have := State.releaseGroups_hold x [g] h
        rw [if_neg (by simpa using hne)] at this
        exact this)
      (hout.tables.trans ht) (by rw [hout.live, hlive]) fun h => by
        have hgs : (State.releaseGroup x g).1.groupState h = x.1.groupState h := by
          unfold State.groupState
          rw [State.releaseGroup_hold]
          rfl
        rw [hgs]
        exact hdark h
    refine ⟨h3, h4.trans ?_⟩
    rw [hgroup, h2, List.flatMap_cons, List.filterMap_append, List.append_assoc]

end

end Sys2Proof.Machine
end

section
/-! The calm point (R139, R145): what it leaves of the groups and of the hold pool, and what an action that ends in it sends
(O28, O32). -/
namespace Sys2Proof.Machine

/-! ## Notices of the groups -/

/-- Groups that have been recomputed before and stand since ask for no further notice (R132). -/
theorem State.groupAsks_rest {s c t : State} {l : List GroupId} (hstand : ∀ g ∈ l, t.groupState g = c.groupState g)
    (hothers : ∀ g, g ∉ l → c.groupState g = s.groupState g) (m : List GroupId) :
    c.groupAsks t m = s.groupAsks t (m.filter fun g => decide (g ∉ l)) := by
  unfold State.groupAsks
  rw [List.filter_filter]
  have hfilter : (m.filter fun g => decide (t.groupState g ≠ c.groupState g)) =
      m.filter fun g => decide (t.groupState g ≠ s.groupState g) && decide (g ∉ l) := by
    refine List.filter_congr fun g _ => ?_
    by_cases h : g ∈ l
    · simp [h, hstand g h]
    · simp [h, hothers g h]
  rw [← hfilter]
  refine List.map_congr_left fun g h => ?_
  have hg : g ∉ l := fun hl => of_decide_eq_true (List.mem_filter.1 h).2 (hstand g hl)
  rw [hothers g hg]

theorem State.memberChoice_of_dark {s : State} {g : GroupId} (h : s.computeGroup g = .dark) (n : Nat) :
    s.memberChoice g n = none := by
  have hnil : s.usable g = [] := by
    unfold State.computeGroup at h
    by_contra hne
    split at h
    · cases h
    · rw [if_pos (by simpa using hne)] at h
      cases h
  unfold State.memberChoice
  rw [hnil]
  cases (s.groupEntry g).mode <;> rfl

/-! ## The calm point -/

/-- The calm point has been reached in `c`, with the copies, frames, cells, queues and counters of `s`, and has come to `r`. -/
structure Calmed (s c : State) (r : State × List Port) : Prop where
  outside : c.sameOutside [.cells, .admission, .queues, .failover, .acct, .notices, .bus] r.1
  failover : r.1.failover = { c.failover with hold := r.1.failover.hold, groupStates := r.1.failover.groupStates }
  egress : r.1.queues.ports = c.queues.ports
  sent : r.1.bus.sent = c.bus.sent
  emptied : ∀ g, r.1.heldCopies g = []
  groups : ∀ g, r.1.groupState g = c.computeGroup g
  frees : ∃ freed, Agrees ((c.noticed (c.groupAsks r.1 allGroups)).freed freed) r.1
  sound : ∀ t : State, t.tables = c.tables → t.live.ports = c.live.ports → s.holdSound →
    Released s t s.heldTags r.1 ∧ r.2 = s.heldTags.filterMap (s.releasePort t)

/-- What the calm point leaves in place of `c` alone. -/
theorem State.calmPoint_calmed {s c : State} (h : s.sameOutside [.live, .lookup, .failover, .notices, .bus] c)
    (hhold : c.failover.hold = s.failover.hold) : Calmed s c c.calmPoint := by
  obtain ⟨u, hu⟩ : ∃ u : State, u = allGroups.foldl State.recomputeGroup c := ⟨_, rfl⟩
  have hcalm : c.calmPoint = allGroups.foldl State.releaseGroup (u, []) := by rw [hu]; rfl
  have hsent := ((Keeps.refl c).calmPoint).sent
  have hout := c.recomputeGroups_outside allGroups
  have hfail := c.recomputeGroups_failover allGroups
  have hgs (g : GroupId) : u.groupState g = c.computeGroup g := by
    rw [hu, State.recomputeGroups_groupState, if_pos (mem_allGroups g)]
  have hasks := c.recomputeGroups_agrees nodup_allGroups
  rw [← hu] at hout hfail hasks
  have hrel := Releases.groups (u, []) allGroups
  have hempty := State.releaseGroups_hold (u, []) allGroups
  rw [← hcalm] at hrel hempty
  generalize hr : c.calmPoint = r at *
  have hrgs (g : GroupId) : r.1.groupState g = u.groupState g := State.groupState_congr (by rw [hrel.failover]) g
  have hafter : c.groupAsks u allGroups = c.groupAsks r.1 allGroups :=
    (State.groupAsks_congr (fun g _ => hrgs g)
      (fun g _ => State.usable_congr hrel.outside.tables (by rw [hrel.outside.live]) g)
      fun g _ => State.evacuatingMembers_congr hrel.outside.tables (by rw [hrel.failover]) (by rw [hrel.failover]) g).symm
  refine ⟨(hout.mono (by decide)).andThen hrel.outside, by rw [hrel.failover, hfail], by rw [hrel.egress, hout.queues], hsent,
    fun g => by rw [hempty, if_pos (mem_allGroups g)], fun g => (hrgs g).trans (hgs g), ?_, fun t ht hl hs => ?_⟩
  · obtain ⟨freed, hf⟩ := hrel.frees
    rw [← hafter]
    exact ⟨freed, (hasks.freed freed).agrees hf⟩
  · have hstart : Released s t (([] : List GroupId).flatMap s.heldCopies) u :=
      .start (by rw [hout.cells, h.cells]) (by rw [hout.admission, h.admission]) (by rw [hout.queues, h.queues])
        (by rw [hout.acct, h.acct]) (by rw [hout.tables, h.tables])
    have hheld (g : GroupId) : u.heldCopies g = s.heldCopies g := by
      unfold State.heldCopies
      rw [hfail]
      show (c.failover.hold).getD g [] = _
      rw [hhold]
    have hgone := hstart.groups (x := (u, [])) (gs := allGroups) hs (List.nil_append _).symm (fun g _ => hheld g) (by rw [hout.tables, ht]) (by rw [hout.live, hl])
      fun g hd n => by
        rw [State.memberChoice_congr (s := c) ht hl]
        exact State.memberChoice_of_dark ((hgs g).symm.trans hd) n
    rw [← hcalm] at hgone
    exact ⟨hgone.1, hgone.2.trans (List.nil_append _)⟩

theorem Follows.refreed {own : List BusWrite} {u v : State} {l m : List Nat} (h : Follows own (u.freed l) v)
    (hm : v.cells.freeList = Runs.pushAll u.cells.freeList m) : Follows own (u.freed m) v := { h with freeList := hm }

namespace Calmed

variable {s c t : State} {r : State × List Port} (h : Calmed s c r)
include h

/-- The records, the queues and the groups as the statements read them (R145). -/
theorem released (hrec : SameRecords r.1 t) (hq : t.queues.queues = r.1.queues.queues) (hf : t.failover = r.1.failover)
    (ha : t.acct = r.1.acct) (ht : t.tables = c.tables) (hl : t.live.ports = c.live.ports) : s.released t := by
  refine ⟨fun g => ⟨?_, ?_⟩, fun hs => ?_⟩
  · have := h.emptied g
    unfold State.heldCopies at this ⊢
    rw [hf]
    exact this
  · rw [State.groupState_congr (s := r.1) (by rw [hf]) g, h.groups]
    exact (State.computeGroup_congr ht hl (by rw [hf, h.failover]) (by rw [hf, h.failover]) g).symm
  · obtain ⟨hr, -⟩ := h.sound t ht hl hs
    refine ⟨fun q cls => ?_, fun j => (hrec.copy j).trans (hr.copy j), fun first => (hrec.frame first).trans (hr.frame first), fun x => ?_,
      fun m => ?_, hrec.meters.trans hr.meters, ?_, ?_⟩
    · rw [← hr.queue]
      unfold State.queue
      rw [hq]
    · rw [hrec.links, hr.links]
      exact Table.find_without _ _ _
    · exact (hrec.heldCells m).trans (hr.held m)
    · rw [hrec.freeCopies, hr.freeCopies]
      rfl
    · rw [ha, hr.acct]

/-- The cells freed return behind the notices of what comes before and of the groups (R17, R145). -/
theorem releaseSends {asks : List NoticeAsk} {v w : State} (hquiet : s.quiet)
    (hb : Agrees (s.noticed asks) c) (hsent : c.bus.sent = s.bus.sent) (hv : Agrees r.1 v) (hvs : v.bus.sent = r.1.bus.sent)
    (hw : (v.settle s.freeCount).sameOutside [.queues] w) (ht : t = w.finish) (htab : w.tables = c.tables)
    (hl : w.live.ports = c.live.ports) : s.releaseSends t (asks ++ c.groupAsks r.1 allGroups) := by
  obtain ⟨freed, hfreed, hsound⟩ : ∃ freed, Agrees ((c.noticed (c.groupAsks r.1 allGroups)).freed freed) r.1 ∧
      (s.holdSound → freed = s.releaseFreed t) := by
    obtain ⟨freed, hf⟩ := h.frees
    by_cases hs : s.holdSound
    · obtain ⟨hr, -⟩ := h.sound t (by rw [ht]; exact htab) (by rw [ht]; exact hl) hs
      refine ⟨s.releaseFreed t, hf.refreed ?_, fun _ => rfl⟩
      have hlist : (c.noticed (c.groupAsks r.1 allGroups)).cells.freeList = s.cells.freeList := by
        rw [State.noticed_eq]
        show c.cells.freeList = _
        rw [hb.freeList, State.noticed_eq]
      rw [hlist]
      exact hr.freeList
    · exact ⟨freed, hf, fun e => absurd e hs⟩
  have hall : Agrees ((s.noticed (asks ++ c.groupAsks r.1 allGroups)).freed freed) v := by
    rw [State.noticed_append]
    exact (Follows.agrees_left ((hb.noticed _).freed freed) hfreed).agrees hv
  have hcount : (s.noticed (asks ++ c.groupAsks r.1 allGroups)).freeCount = s.freeCount := by
    unfold State.freeCount
    rw [State.noticed_eq]
  have hend := hall.settled
  rw [hcount] at hend
  have hdone := hend.agrees hw.agrees
  have hwsent : w.bus.sent = s.bus.sent := by
    rw [hw.bus, ((Gathers.refl v).settle _).sent, hvs, h.sent, hsent]
  refine ⟨freed, ?_, ?_, hsound⟩
  · rw [ht]
    exact ⟨hdone.freeList, hdone.ports, hdone.shed⟩
  · rw [ht]
    exact hdone.finish_delivers hquiet (((Gathers.refl s).noticed _).settled _) hwsent

end Calmed

end Sys2Proof.Machine
end

section
/-! The trial expiry (R119, R125): the port enters UP, and the release of the calm point behind it (O28). -/
namespace Sys2Proof.Machine

section
variable (s : State) (p : Port)

/-- The entry into UP up to the drain timer (R125): the state and timers, the work list. -/
def State.entering : State := (((s.setLiveness p .up).stopTrial p).removeWork p).stopDrain p

/-- The drained mark clears unless a drain walk of the port runs (R125). -/
def State.unmarked : State := if s.drainWalkOf p then s else s.setDrained p false

/-- The stall timer starts if copies are posted (R125). -/
def State.stallStarted : State := if 0 < s.postedCount p then s.startStall p else s

/-- The entry into UP before it is announced. -/
def State.preparedUp : State := ((s.entering p).unmarked p).stallStarted p

/-- The removal of the entries of `p` brings the calm point (R133, R145). -/
def State.calmsAt : Bool := s.reachesCalm (((s.setLiveness p .up).stopTrial p).removeWork p)

/-- The entry of `p` into UP, with the release where it brings the calm point. -/
def State.enteredUp : State × List Port :=
  if s.calmsAt p then ((s.preparedUp p).announce p (s.liveness p) .trialExpiry).calmPoint
  else ((s.preparedUp p).announce p (s.liveness p) .trialExpiry, [])

theorem State.calmsAt_iff :
    s.calmsAt p = true ↔ s.failover.walk = none ∧ s.failover.work ≠ [] ∧ ∀ e ∈ s.failover.work, e.1 = p := by
  have hwork : (((s.setLiveness p .up).stopTrial p).removeWork p).walkWork =
      (!(s.failover.work.filter fun e => e.1 ≠ p).isEmpty || s.failover.walk.isSome) := rfl
  unfold State.calmsAt State.reachesCalm
  rw [hwork]
  cases s.failover.walk <;> simp [List.filter_eq_nil_iff]

theorem State.entering_eq :
    s.entering p =
      { s with
        live := { s.live with ports := (s.entering p).live.ports }
        failover := { s.failover with work := s.failover.work.filter fun e => e.1 ≠ p } } := rfl

theorem State.entering_livePort (q : Port) :
    (s.entering p).livePort q =
      if q = p then { s.livePort p with state := .up, trial := none, drain := none } else s.livePort q := by
  have hwork (v : State) (r : Port) : (v.removeWork p).livePort r = v.livePort r := rfl
  unfold State.entering
  simp only [State.stopDrain, State.stopTrial, State.setLiveness, State.setLivePort_livePort, hwork, if_true]
  split <;> rfl

theorem State.unmarked_eq :
    s.unmarked p = { s with failover := { s.failover with drained := (s.unmarked p).failover.drained } } := by
  unfold State.unmarked
  split <;> rfl

theorem State.unmarked_isDrained (q : Port) :
    (s.unmarked p).isDrained q = if q = p then if s.drainWalkOf p then s.isDrained p else false else s.isDrained q := by
  unfold State.unmarked
  split
  · split
    · subst_vars; rfl
    · rfl
  · exact State.setDrained_isDrained ..

theorem State.stallStarted_eq :
    s.stallStarted p = { s with live := { s.live with ports := (s.stallStarted p).live.ports } } := by
  unfold State.stallStarted
  split <;> rfl

theorem State.stallStarted_livePort (q : Port) :
    (s.stallStarted p).livePort q =
      if q = p then
        { s.livePort p with stall := if 0 < s.postedCount p then some (s.expiry (s.portEntry p).stall) else (s.livePort p).stall }
      else s.livePort q := by
  unfold State.stallStarted
  split
  · exact State.setLivePort_livePort ..
  · split
    · subst_vars; rfl
    · rfl

theorem State.preparedUp_eq :
    s.preparedUp p =
      { s with
        live := { s.live with ports := (s.preparedUp p).live.ports }
        failover := { s.failover with
          work := s.failover.work.filter fun e => e.1 ≠ p, drained := ((s.entering p).unmarked p).failover.drained } } := by
  unfold State.preparedUp
  rw [State.stallStarted_eq]
  generalize (((s.entering p).unmarked p).stallStarted p).live.ports = ports
  rw [State.unmarked_eq]
  generalize ((s.entering p).unmarked p).failover.drained = drained
  rw [State.entering_eq]

theorem State.preparedUp_livePort (q : Port) :
    (s.preparedUp p).livePort q =
      if q = p then
        { s.livePort p with
          state := .up, trial := none, drain := none
          stall := if 0 < s.postedCount p then some (s.expiry (s.portEntry p).stall) else (s.livePort p).stall }
      else s.livePort q := by
  have hlive (r : Port) : ((s.entering p).unmarked p).livePort r = (s.entering p).livePort r := by
    rw [State.unmarked_eq]; rfl
  have hcount : ((s.entering p).unmarked p).postedCount p = s.postedCount p := by rw [State.unmarked_eq]; rfl
  have hexp : ((s.entering p).unmarked p).expiry (((s.entering p).unmarked p).portEntry p).stall =
      s.expiry (s.portEntry p).stall := by
    unfold State.expiry State.now State.portEntry
    rw [State.unmarked_eq, State.entering_eq]
  unfold State.preparedUp
  rw [State.stallStarted_livePort, hlive, hlive, hcount, hexp, State.entering_livePort, State.entering_livePort, if_pos rfl]
  split <;> rfl

theorem State.preparedUp_failover :
    (s.preparedUp p).failover =
      { s.failover with
        work := s.failover.work.filter fun e => e.1 ≠ p
        drained := (s.preparedUp p).failover.drained } := by
  rw [State.preparedUp_eq]

theorem State.preparedUp_isDrained (q : Port) :
    (s.preparedUp p).isDrained q = if q = p then if s.drainWalkOf p then s.isDrained p else false else s.isDrained q := by
  have hmark : (s.preparedUp p).isDrained q = ((s.entering p).unmarked p).isDrained q := by
    rw [State.preparedUp_eq]; rfl
  rw [hmark, State.unmarked_isDrained]
  rfl

theorem State.preparedUp_outside : s.sameOutside [.live, .failover] (s.preparedUp p) := by
  rw [State.preparedUp_eq]
  simp [State.sameOutside]

end

/-- The entry of a TRIAL port into UP announced, before any release. -/
theorem State.preparedUp_announced {s : State} {p : Port} (hl : s.liveness p = .trial) {u : State}
    (hu : u = (s.preparedUp p).announce p (s.liveness p) .trialExpiry) :
    s.groupsFollow u p ∧ Agrees (s.noticed (s.liveAsks u p .trialExpiry)) u ∧
      s.sameOutside [.live, .failover, .notices, .bus] u ∧
      u.failover = { s.failover with
        work := s.failover.work.filter fun e => e.1 ≠ p, drained := (s.preparedUp p).failover.drained
        groupStates := u.failover.groupStates } ∧
      (∀ q, u.livePort q = (s.preparedUp p).livePort q) ∧ u.bus.sent = s.bus.sent ∧ u.liveness p ≠ s.liveness p := by
  have hout := s.preparedUp_outside p
  have hup : (s.preparedUp p).liveness p = .up := by
    rw [← State.livePort_liveness, State.preparedUp_livePort, if_pos rfl]
  have hne : (s.preparedUp p).liveness p ≠ s.liveness p := by rw [hup, hl]; decide
  have hnone : s.lostAsks (s.preparedUp p) p = [] := if_neg fun h => by
    rw [hup] at h
    exact h.1.elim (by decide) (by decide)
  have hagree : Agrees s (s.preparedUp p) := by
    rw [State.preparedUp_eq]
    exact .of_eq rfl rfl rfl rfl rfl rfl rfl rfl rfl
  obtain ⟨hgroups, hfollows⟩ := State.announce_follows (u := s.preparedUp p) .trialExpiry hout.tables
    (fun g => State.groupState_congr (by rw [s.preparedUp_failover p]) g) hne (by rw [hnone]; exact hagree)
  have hann := (s.preparedUp p).announce_outside p (s.liveness p) .trialExpiry
  have hfail := (s.preparedUp p).announce_failover p (s.liveness p) .trialExpiry
  rw [s.preparedUp_failover p] at hfail
  rw [hu]
  refine ⟨hgroups, hfollows, (hout.mono (by decide)).andThen hann, hfail, fun q => State.announce_livePort .., ?_, ?_⟩
  · have h : ((s.preparedUp p).announce p (s.liveness p) .trialExpiry).bus.sent = (s.preparedUp p).bus.sent :=
      by
      unfold State.announce State.askPortState
      exact (((Keeps.refl (s.preparedUp p)).ask _ _ _ _).recomputeGroupsOf p).sent
    rw [h, hout.bus]
  · rw [State.announce_liveness]
    exact hne

/-- Settles O28: the entry announced, the calm point where it is reached, the attempts at the end. -/
theorem trialExpiryBringsPortUp : Obligations.TrialExpiryBringsPortUp := by
  intro p s hq hl hd
  obtain ⟨u, hu⟩ : ∃ u : State, u = (s.preparedUp p).announce p (s.liveness p) .trialExpiry := ⟨_, rfl⟩
  obtain ⟨hgroups, hfollows, huout, hufail, hulive, husent, hne⟩ := State.preparedUp_announced hl hu
  have hrow : exec (.trialExpiry p) s =
      .next (((s.enteredUp p).1.settle s.freeCount).oweEach ((s.enteredUp p).2 ++ [p])).finish := if_pos ⟨hl, hd⟩
  have hcases : s.enteredUp p = if s.calmsAt p then u.calmPoint else (u, []) := by rw [hu]; rfl
  have hcalmed : s.calmsAt p = true → Calmed s u (s.enteredUp p) := fun hc => by
    rw [hcases, if_pos hc]
    exact State.calmPoint_calmed (huout.mono (by decide)) (by rw [hufail])
  have hquiet : ¬s.calmsAt p = true → s.enteredUp p = (u, []) := fun hc => by rw [hcases, if_neg hc]
  obtain ⟨hrout, hrfail, hregress⟩ :
      u.sameOutside [.cells, .admission, .queues, .failover, .acct, .notices, .bus] (s.enteredUp p).1 ∧
      (s.enteredUp p).1.failover = { u.failover with
        hold := (s.enteredUp p).1.failover.hold, groupStates := (s.enteredUp p).1.failover.groupStates } ∧
      (s.enteredUp p).1.queues.ports = u.queues.ports := by
    by_cases hc : s.calmsAt p = true
    · exact ⟨(hcalmed hc).outside, (hcalmed hc).failover, (hcalmed hc).egress⟩
    · rw [hquiet hc]
      exact ⟨.refl _ _, rfl, rfl⟩
  rw [hrow]
  generalize s.enteredUp p = r at *
  have hset := r.1.settle_outside s.freeCount
  have hrec := (SameRecords.refl r.1).settle s.freeCount
  have howe := (r.1.settle s.freeCount).oweEach_outside (r.2 ++ [p])
  have hend := State.finish_outside ((r.1.settle s.freeCount).oweEach (r.2 ++ [p]))
  have hring (q : Port) : ((r.1.settle s.freeCount).oweEach (r.2 ++ [p])).egressPort q =
      { s.egressPort q with owed := (s.egressPort q).owed + if q ∈ r.2 ++ [p] then 1 else 0 } := by
    have hsame : (r.1.settle s.freeCount).egressPort q = s.egressPort q :=
      (State.ring_congr hset.queues q).trans ((egressPort_congr hregress q).trans (State.ring_congr huout.queues q))
    rw [State.oweEach_egressPort, hsame]
  have hqueues := (r.1.settle s.freeCount).oweEach_queues (r.2 ++ [p])
  rw [hset.queues] at hqueues
  obtain ⟨w, hw⟩ : ∃ w, w = (r.1.settle s.freeCount).oweEach (r.2 ++ [p]) := ⟨_, rfl⟩
  rw [← hw] at howe hend hring hqueues ⊢
  have hwfail : w.failover = r.1.failover := by rw [howe.failover, hset.failover]
  have hwlive : w.live = u.live := by rw [howe.live, hset.live, hrout.live]
  have hwtables : w.tables = u.tables := by rw [howe.tables, hset.tables, hrout.tables]
  have hlive (q : Port) : w.livePort q = (s.preparedUp p).livePort q := (livePort_congr (by rw [hwlive]) q).trans (hulive q)
  have hdrained (q : Port) : w.finish.isDrained q = (s.preparedUp p).isDrained q := by
    show w.failover.drained.getD q false = _
    rw [hwfail, hrfail, hufail]
    rfl
  have hposted : w.finish.postedCount p = u.postedCount p := by
    show (w.egressPort p).slots.length = _
    rw [hring]
    exact (congrArg (fun e : EgressPort => e.slots.length) (State.ring_congr huout.queues p)).symm
  have hgs (hstand : ∀ g ∈ s.groupsOf p, r.1.groupState g = u.groupState g) :
      s.liveAsks w.finish p .trialExpiry = s.liveAsks u p .trialExpiry :=
    State.liveAsks_of_end (livePort_congr (s := u) (t := w.finish) (by show w.live.ports = _; rw [hwlive]) p) hposted
      (fun g hg => (State.groupState_congr (s := r.1) (t := w.finish) (by show w.failover.groupStates = _; rw [hwfail]) g).trans
        (hstand g hg))
      (fun g => State.usable_congr hwtables (by show w.live.ports = _; rw [hwlive]) g)
      (fun g => State.evacuatingMembers_congr hwtables (by show w.failover.work = _; rw [hwfail, hrfail])
        (by show w.failover.walk = _; rw [hwfail, hrfail]) g) _
  have hfollow : ∀ g ∈ s.groupsOf p, u.groupState g = u.computeGroup g := fun g hg => by
    have h := hgroups g
    rwa [if_neg hne, if_pos hg] at h
  have hothers : ∀ g, g ∉ s.groupsOf p → u.groupState g = s.groupState g := fun g hg => by
    have h := hgroups g
    rwa [if_neg hne, if_neg hg] at h
  refine ⟨w.finish, rfl, ?_, fun q hqp => ?_, ?_, ?_, fun q hqp => ?_, ?_, ?_, ?_, ?_⟩
  · exact (hlive p).trans (by rw [State.preparedUp_livePort, if_pos rfl])
  · exact (hlive q).trans (by rw [State.preparedUp_livePort, if_neg hqp])
  · show w.failover.work = _
    rw [hwfail, hrfail, hufail]
  · rw [hdrained, State.preparedUp_isDrained, if_pos rfl]
  · rw [hdrained, State.preparedUp_isDrained, if_neg hqp]
  · show w.failover.walk = _
    rw [hwfail, hrfail, hufail]
  · show _ < (w.egressPort p).owed
    rw [hring, if_pos (by simp)]
    exact Nat.lt_succ_self _
  · exact ((((huout.mono (by decide)).andThen hrout).andThen hset).andThen howe).andThen hend
  · by_cases hc : s.calmsAt p = true
    · have h := hcalmed hc
      have hstand : ∀ g ∈ s.groupsOf p, r.1.groupState g = u.groupState g := fun g hg => (h.groups g).trans (hfollow g hg).symm
      rw [if_pos ((s.calmsAt_iff p).1 hc)]
      refine ⟨h.released ?_ hqueues hwfail ?_ hwtables (by show w.live.ports = _; rw [hwlive]), ?_, fun hs q => ?_⟩
      · exact hrec.trans (.of_blocks howe.cells howe.admission)
      · show w.acct = _
        rw [howe.acct, hset.acct]
      · have hrest : s.groupAsks w.finish (allGroups.filter fun g => decide (g ∉ s.groupsOf p)) = u.groupAsks r.1 allGroups := by
          rw [State.groupAsks_rest hstand hothers]
          exact State.groupAsks_congr
            (fun g _ => State.groupState_congr (s := r.1) (t := w.finish) (by show w.failover.groupStates = _; rw [hwfail]) g)
            (fun g _ => State.usable_congr (by show w.tables = _; rw [hwtables, hrout.tables])
              (by show w.live.ports = _; rw [hwlive, hrout.live]) g)
            fun g _ => State.evacuatingMembers_congr (by show w.tables = _; rw [hwtables, hrout.tables])
              (by show w.failover.work = _; rw [hwfail]) (by show w.failover.walk = _; rw [hwfail]) g
        rw [hgs hstand, hrest]
        exact h.releaseSends hq hfollows husent (.refl _) rfl (howe) rfl hwtables (by rw [hwlive])
      · obtain ⟨-, hports⟩ := h.sound w.finish hwtables (by show w.live.ports = _; rw [hwlive]) hs
        refine (hring q).trans ?_
        rw [hports]
        simp only [List.mem_append, List.mem_filterMap, List.mem_singleton, List.any_eq_true, decide_eq_true_iff]
        rw [if_congr or_comm rfl rfl]
    · have hr := hquiet hc
      have hsettle : r.1.settle s.freeCount = u := by
        rw [hr]
        refine State.settle_of_eq ?_
        unfold State.freeCount
        rw [huout.cells]
      rw [hsettle] at howe
      rw [hr] at hrfail hgs hring hwfail hqueues
      rw [if_neg fun h => hc ((s.calmsAt_iff p).2 h)]
      have hasks := hgs fun _ _ => rfl
      refine ⟨fun g => ?_, ?_, ?_, ?_, ?_, fun q => ?_⟩
      · have h := hgroups g
        rw [State.groupState_congr (s := u) (t := w.finish) (by show w.failover.groupStates = _; rw [hwfail]),
          State.computeGroup_congr (s := u) (t := w.finish) hwtables (by show w.live.ports = _; rw [hwlive])
            (by show w.failover.work = _; rw [hwfail]) (by show w.failover.walk = _; rw [hwfail]),
          show w.finish.liveness p = u.liveness p from congrArg LivePort.state (livePort_congr (s := u) (by show w.live.ports = _; rw [hwlive]) p)]
        exact h
      · rw [hasks]
        exact State.delivers_noticed hq ((hfollows.agrees howe.agrees).finish_delivers hq ((Gathers.refl s).noticed _)
          (by rw [howe.bus, husent]))
      · show w.failover.hold = _
        rw [hwfail, hufail]
      · have hall : s.sameOutside [.queues, .live, .failover, .notices, .bus] u := huout.mono (by decide)
        exact (hall.andThen howe).andThen hend
      · show w.queues.queues = _
        rw [hqueues, huout.queues]
      · refine (hring q).trans ?_
        simp only [List.nil_append, List.mem_singleton]

end Sys2Proof.Machine
end

section
/-! One visit of a walk (R136 to R138, R140), and the end of a walk that hands over to the next entry of the work list
(R139). -/
namespace Sys2Proof.Machine

/-! ## One visit -/

/-- The state behind a visit of copy `tag`, record `k`, of port `p`, whose outcome is `o`. -/
def State.visited (s : State) (p : Port) (tag : Nat) (k : Copy) : Visit → State
  | .stays => s
  | .retires cause => (s.dequeue p k.cls tag).retire tag cause
  | .moves q => s.moveCopy tag k p q

/-- The cells that a visit frees (R17). -/
def State.visitFreed (s : State) (k : Copy) (f : Frame) : Visit → List Nat
  | .retires _ => s.freedBy k.frame f
  | _ => []

/-- The port that receives the copy visited. -/
def Visit.received : Visit → List Port
  | .moves q => [q]
  | _ => []

section
variable {s : State} {p q : Port} {tag : Nat} {k : Copy} {f : Frame}

theorem State.visitOutcome_eq (hf : s.frame k.frame = some f) (kind : WorkKind) (p : Port) :
    s.visitOutcome kind p k = s.treats kind p k f := by
  unfold State.visitOutcome State.treats
  rw [hf]
  cases k.via <;> cases kind <;> rfl

theorem State.treats_ne {kind : WorkKind} (h : s.treats kind p k f = .moves q) : q ≠ p := by
  unfold State.treats at h
  split at h
  · split at h <;> cases h
  · split at h
    · cases h
    · split at h
      · cases h
      · split at h <;> cases h
        assumption

theorem State.moveCopy_eq (hf : s.frame k.frame = some f) :
    s.moveCopy tag k p q =
      { s with
        cells := { s.cells with
          frames := (s.cells.frames.put k.frame { f with ports := f.ports.filter (· ≠ p) }).put k.frame
            { f with ports := addPort q (f.ports.filter (· ≠ p)) }
          copies := s.cells.copies.put tag { k with state := .queued, port := some q } }
        queues := ((s.dequeue p k.cls tag).setQueue q k.cls ((s.dequeue p k.cls tag).queue q k.cls ++ [tag])).queues } := by
  have hleave : (s.dequeue p k.cls tag).leavePort k.frame p =
      (s.dequeue p k.cls tag).setFrame k.frame { f with ports := f.ports.filter (· ≠ p) } :=
    State.leavePort_of_frame (s := s.dequeue p k.cls tag) hf p
  have hframe : ((s.dequeue p k.cls tag).setFrame k.frame { f with ports := f.ports.filter (· ≠ p) }).frame k.frame =
      some { f with ports := f.ports.filter (· ≠ p) } := by rw [State.setFrame_frame, if_pos rfl]
  unfold State.moveCopy
  rw [hleave, State.appendQueued_eq hframe]
  rfl

/-- What a visit with outcome `o` leaves (R137, R138, R140). -/
structure Visited (s v : State) (p : Port) (tag : Nat) (k : Copy) (f : Frame) (o : Visit) : Prop where
  outside : s.sameOutside [.cells, .admission, .queues, .acct] v
  queue : ∀ (r : Port) (b : Cls), v.queue r b =
    if b = k.cls then
      if r = p then if o = .stays then s.queue p b else (s.queue p b).erase tag
      else s.queue r b ++ if o = .moves r then [tag] else []
    else s.queue r b
  egress : v.queues.ports = s.queues.ports
  copy : ∀ j, v.copy j =
    if j = tag then
      match (generalizing := false) o with
      | .stays => s.copy tag
      | .retires _ => none
      | .moves q => some { k with state := .queued, port := some q }
    else s.copy j
  frame : ∀ j, j ≠ k.frame → v.frame j = s.frame j
  acct : v.acct = match (generalizing := false) o with
    | .retires cause => (s.countRetired cause f k).acct
    | _ => s.acct
  follows : Agrees (s.freed (s.visitFreed k f o)) v

/-- A retirement off the queue is one of the copy where it stood. -/
theorem State.dequeue_retired (hk : s.copy tag = some k) (hf : s.frame k.frame = some f) (cause : RetireCause) :
    Retired s ((s.dequeue p k.cls tag).retire tag cause) tag k f cause := by
  have h := State.retire_retired (s := s.dequeue p k.cls tag) hk hf cause
  have hacct := State.countRetired_acct_congr (s := s) (u := s.dequeue p k.cls tag) rfl rfl cause f f.ports k
  exact ⟨h.copy, h.frame, h.links, h.held, h.meters, h.shed, h.freeCopies, h.freeList, h.ports, h.acct.trans hacct⟩

theorem State.visited_visited (hk : s.copy tag = some k) (hf : s.frame k.frame = some f) {o : Visit}
    (ho : ∀ q, o = .moves q → q ≠ p) : Visited s (s.visited p tag k o) p tag k f o := by
  have hdequeue (r : Port) (b : Cls) :
      (s.dequeue p k.cls tag).queue r b = if r = p ∧ b = k.cls then (s.queue p k.cls).erase tag else s.queue r b :=
    State.setQueue_queue ..
  cases o with
  | stays =>
    refine ⟨.refl _ s, fun r b => ?_, rfl, fun j => ?_, fun _ _ => rfl, rfl, .refl s⟩
    · simp only [State.visited, if_true, reduceCtorEq, if_false, List.append_nil]
      split
      · split
        · subst_vars; rfl
        · rfl
      · rfl
    · dsimp only
      split
      · subst_vars; rfl
      · rfl
  | retires cause =>
    have h := State.dequeue_retired (p := p) hk hf cause
    have hout := (s.dequeue p k.cls tag).retire_outside tag cause
    have hall : s.sameOutside [.cells, .admission, .queues, .acct] ((s.dequeue p k.cls tag).retire tag cause) :=
      ((s.dequeue_outside p k.cls tag).mono (by decide)).andThen hout
    refine ⟨hall, fun r b => ?_, by rw [State.visited, hout.queues]; rfl, h.copy, fun j hj => ?_, h.acct, ?_⟩
    · rw [State.visited, State.queue_congr hout.queues, hdequeue]
      simp only [reduceCtorEq, if_false, List.append_nil]
      by_cases hb : b = k.cls
      · subst hb
        by_cases hr : r = p
        · rw [if_pos ⟨hr, rfl⟩, if_pos rfl, if_pos hr]
        · rw [if_neg fun e => hr e.1, if_pos rfl, if_neg hr]
      · rw [if_neg fun e => hb e.2, if_neg hb]
    · exact (h.frame j).trans (if_neg hj)
    · exact .of_eq (congrArg PathMonitor.winbase hall.path) (congrArg PathMonitor.mode hall.path) hall.tables
        (congrArg LivenessMonitor.timebase hall.live) h.freeList h.ports h.shed hall.notices hall.bus
  | moves q =>
    have hq := ho q rfl
    have heq : s.visited p tag k (.moves q) = _ := State.moveCopy_eq hf
    refine ⟨?_, fun r b => ?_, ?_, fun j => ?_, fun j hj => ?_, ?_, ?_⟩
    · rw [heq]; simp [State.sameOutside]
    · have hqueue : (s.visited p tag k (.moves q)).queue r b =
          ((s.dequeue p k.cls tag).setQueue q k.cls ((s.dequeue p k.cls tag).queue q k.cls ++ [tag])).queue r b := by
        rw [heq]; rfl
      have hjoin : (s.dequeue p k.cls tag).queue q k.cls = s.queue q k.cls := (hdequeue q k.cls).trans (if_neg fun e => hq e.1)
      rw [hqueue, State.setQueue_queue, hjoin, hdequeue]
      simp only [reduceCtorEq, if_false, Visit.moves.injEq]
      by_cases hb : b = k.cls
      · subst hb
        by_cases hr : r = q
        · subst hr
          rw [if_pos ⟨rfl, rfl⟩, if_pos rfl, if_neg hq, if_pos rfl]
        · rw [if_neg fun e => hr e.1, if_pos rfl]
          by_cases hrp : r = p
          · rw [if_pos ⟨hrp, rfl⟩, if_pos hrp]
          · rw [if_neg fun e => hrp e.1, if_neg hrp, if_neg fun e => hr e.symm, List.append_nil]
      · rw [if_neg fun e => hb e.2, if_neg fun e => hb e.2, if_neg hb]
    · rw [heq]; rfl
    · rw [heq]
      exact Table.find_put ..
    · rw [heq]
      refine (Table.find_put ..).trans ?_
      rw [if_neg hj]
      exact (Table.find_put ..).trans (if_neg hj)
    · rw [heq]
    · rw [heq]
      exact .of_eq rfl rfl rfl rfl rfl rfl rfl rfl rfl

end

theorem StepState.visit_of_copy {x : StepState} {tag : Nat} {k : Copy} {f : Frame} (hk : x.st.copy tag = some k)
    (hf : x.st.frame k.frame = some f) (kind : WorkKind) (p : Port) :
    x.visit kind p k.cls tag =
      { x with
        st := x.st.visited p tag k (x.st.treats kind p k f)
        resume := if x.st.treats kind p k f = .stays then some tag else x.resume
        received := x.received ++ (x.st.treats kind p k f).received } := by
  unfold StepState.visit
  rw [hk]
  dsimp only
  rw [State.visitOutcome_eq hf]
  cases x.st.treats kind p k f <;> simp [State.visited, Visit.received]

/-! ## The end of a walk, with work left -/

section
variable (s : State) (p : Port) (k : WorkKind) (rest : List (Port × WorkKind))

/-- The walk of this entry begins: it leaves the work list, the tails are recorded, a drain walk sets the drained mark
(R134, R140). -/
def State.walkTaken : State :=
  let w : Walk :=
    { port := p, kind := k, tails := allClasses.map fun c => (s.queue p c).getLast?, cls := 0, resume := none }
  if k = .drain then ((s.setWork rest).setWalk (some w)).setDrained p true else (s.setWork rest).setWalk (some w)

variable {s p k rest} in
theorem State.startWalk_of_work (h : s.failover.work = (p, k) :: rest) :
    s.startWalk = (s.walkTaken p k rest).recomputeGroupsOf p := by
  unfold State.startWalk
  rw [h]
  rfl

theorem State.walkTaken_eq :
    s.walkTaken p k rest =
      { s with
        failover := { s.failover with
          work := rest, walk := (s.walkTaken p k rest).failover.walk, drained := (s.walkTaken p k rest).failover.drained } } := by
  unfold State.walkTaken
  split <;> rfl

theorem State.walkTaken_walk :
    (s.walkTaken p k rest).failover.walk =
      some { port := p, kind := k, tails := allClasses.map fun c => (s.queue p c).getLast?, cls := 0, resume := none } := by
  unfold State.walkTaken
  split <;> rfl

/-- The head entry counts as evacuation work before and behind the start of its walk (R132). -/
theorem State.walkTaken_computeGroup {s : State} {p : Port} {k : WorkKind} {rest : List (Port × WorkKind)}
    (hw : s.failover.work = (p, k) :: rest) (hn : s.failover.walk = none) (g : GroupId) :
    (s.walkTaken p k rest).computeGroup g = s.computeGroup g ∧
      (s.walkTaken p k rest).evacuatingMembers g = s.evacuatingMembers g := by
  have hwork : (s.walkTaken p k rest).failover.work = rest := by rw [State.walkTaken_eq]
  have hevac (m : Port) : (s.walkTaken p k rest).evacuating m = s.evacuating m := by
    rw [Bool.eq_iff_iff, State.evacuating_iff, State.evacuating_iff, State.walkTaken_walk, hwork, hw, hn]
    simp only [List.mem_cons, Prod.mk.injEq, Option.some.injEq, exists_eq_left', reduceCtorEq, false_and, exists_false, or_false]
    rw [or_comm, eq_comm (a := p), eq_comm (a := k)]
  have hmembers : (s.walkTaken p k rest).evacuatingMembers g = s.evacuatingMembers g := by
    unfold State.evacuatingMembers
    rw [State.groupEntry_congr (s := s) (by rw [State.walkTaken_eq])]
    exact List.filter_congr fun m _ => hevac m
  have husable : (s.walkTaken p k rest).usable g = s.usable g :=
    State.usable_congr (by rw [State.walkTaken_eq]) (by rw [State.walkTaken_eq]) g
  refine ⟨?_, hmembers⟩
  unfold State.computeGroup
  rw [hmembers, husable]

end

/-- A walk of `p` has ended and the walk of the next entry of the work list begun, between `s` and `y` (R132, R134, R139). -/
structure HandsOver (s y : State) (p : Port) (next : Port × WorkKind) (rest : List (Port × WorkKind)) : Prop where
  work : y.failover.work = rest
  walk : y.failover.walk.map (fun v => (v.port, v.kind)) = some next
  hold : y.failover.hold = s.failover.hold
  groups : s.recomputed y (s.groupsOf p ++ s.groupsOf next.1)
  follows : Agrees (s.noticed (s.groupAsks y (s.groupsOf p) ++
    s.groupAsks y ((s.groupsOf next.1).filter fun h => decide (h ∉ s.groupsOf p)))) y
  outside : s.sameOutside [.failover, .notices, .bus] y
  sent : y.bus.sent = s.bus.sent

theorem State.endWalk_next {s : State} {p : Port} {next : Port × WorkKind} {rest : List (Port × WorkKind)}
    (hw : s.failover.work = next :: rest) : ∃ y, s.endWalk p = (y, []) ∧ HandsOver s y p next rest := by
  obtain ⟨p', k⟩ := next
  obtain ⟨c, hc⟩ : ∃ c, c = s.setWalk none := ⟨_, rfl⟩
  obtain ⟨u, hu⟩ : ∃ u, u = (c.groupsOf p).foldl State.recomputeGroup c := ⟨_, rfl⟩
  obtain ⟨d, hd⟩ : ∃ d, d = u.walkTaken p' k rest := ⟨_, rfl⟩
  obtain ⟨y, hy⟩ : ∃ y, y = (d.groupsOf p').foldl State.recomputeGroup d := ⟨_, rfl⟩
  have hcout : s.sameOutside [.failover] c := by rw [hc]; exact s.failover_outside _
  have huout := c.recomputeGroups_outside (c.groupsOf p)
  have hufail := c.recomputeGroups_failover (c.groupsOf p)
  have hugs := c.recomputeGroups_groupState (c.groupsOf p)
  have huasks := c.recomputeGroups_agrees (c.nodup_groupsOf p)
  have hucomp := c.recomputeGroups_computeGroup (c.groupsOf p)
  rw [← hu] at huout hufail hugs huasks hucomp
  have hyout := d.recomputeGroups_outside (d.groupsOf p')
  have hyfail := d.recomputeGroups_failover (d.groupsOf p')
  have hygs := d.recomputeGroups_groupState (d.groupsOf p')
  have hyasks := d.recomputeGroups_agrees (d.nodup_groupsOf p')
  have hycomp := d.recomputeGroups_computeGroup (d.groupsOf p')
  have hyusable := d.recomputeGroups_usable (d.groupsOf p')
  have hyevac := d.recomputeGroups_evacuatingMembers (d.groupsOf p')
  rw [← hy] at hyout hyfail hygs hyasks hycomp hyusable hyevac
  have hcwork : c.failover.work = (p', k) :: rest := by rw [hc]; exact hw
  have huwork : u.failover.work = (p', k) :: rest := by rw [hufail]; exact hcwork
  have huwalk : u.failover.walk = none := by rw [hufail, hc]; rfl
  have hdeq := u.walkTaken_eq p' k rest
  have hdwalk := u.walkTaken_walk p' k rest
  have hdcomp := State.walkTaken_computeGroup huwork huwalk
  rw [← hd] at hdeq hdwalk hdcomp
  have hdout : u.sameOutside [.failover] d := by rw [hdeq]; exact u.failover_outside _
  have hgroups (q : Port) : c.groupsOf q = s.groupsOf q := State.groupsOf_congr hcout.tables q
  have hgroups' (q : Port) : d.groupsOf q = s.groupsOf q :=
    State.groupsOf_congr (by rw [hdout.tables, huout.tables, hcout.tables]) q
  have hcgs (g : GroupId) : c.groupState g = s.groupState g := State.groupState_congr (by rw [hc]; rfl) g
  have hdgs (g : GroupId) : d.groupState g = u.groupState g := State.groupState_congr (by rw [hdeq]) g
  rw [hgroups] at hugs huasks
  rw [hgroups'] at hygs hyasks
  have hcompute (g : GroupId) : y.computeGroup g = c.computeGroup g := (hycomp g).trans ((hdcomp g).1.trans (hucomp g))
  have hstate (g : GroupId) : y.groupState g =
      if g ∈ s.groupsOf p ++ s.groupsOf p' then y.computeGroup g else s.groupState g := by
    rw [hygs, hdgs, hugs, hcgs, hcompute, ← hucomp, ← (hdcomp g).1]
    by_cases h1 : g ∈ s.groupsOf p'
    · rw [if_pos h1, if_pos (List.mem_append_right _ h1)]
    · rw [if_neg h1]
      exact if_congr (by simp [h1]) rfl rfl
  have hend : s.endWalk p = (y, []) := by
    have hrec : (s.setWalk none).recomputeGroupsOf p = u := by rw [hu, hc]; rfl
    have hstart : u.startWalk = y := by rw [State.startWalk_of_work huwork, hy, hd]; rfl
    have hne : u.failover.work.isEmpty = false := by rw [huwork]; rfl
    unfold State.endWalk
    rw [hrec]
    dsimp only
    rw [hne, hstart]
    rfl
  have hstand : ∀ g ∈ s.groupsOf p, y.groupState g = u.groupState g := fun g hg => by
    rw [hugs, if_pos hg, hstate, if_pos (List.mem_append_left _ hg), hcompute]
  have hfirst : c.groupAsks u (s.groupsOf p) = s.groupAsks y (s.groupsOf p) := by
    have hs : c.groupAsks u (s.groupsOf p) = s.groupAsks u (s.groupsOf p) := by
      unfold State.groupAsks
      simp only [hcgs]
    rw [hs]
    refine State.groupAsks_congr (fun g hg => (hstand g hg).symm) (fun g _ => ?_) fun g _ => ?_
    · exact (State.usable_congr (s := u) (by rw [hyout.tables, hdout.tables]) (by rw [hyout.live, hdout.live]) g).symm
    · exact ((hyevac g).trans (hdcomp g).2).symm
  have hsecond : d.groupAsks y (s.groupsOf p') =
      s.groupAsks y ((s.groupsOf p').filter fun h => decide (h ∉ s.groupsOf p)) := by
    refine State.groupAsks_rest (fun g hg => (hstand g hg).trans (hdgs g).symm) (fun g hg => ?_) _
    rw [hdgs, hugs, if_neg hg, hcgs]
  refine ⟨y, hend, by rw [hyfail, hdeq], ?_, ?_, hstate, ?_, ?_, ?_⟩
  · rw [hyfail]
    show d.failover.walk.map _ = _
    rw [hdwalk]
    rfl
  · rw [hyfail, hdeq]
    show u.failover.hold = _
    rw [hufail, hc]
    rfl
  · rw [State.noticed_append, ← hfirst, ← hsecond]
    have h1 : Agrees (s.noticed (c.groupAsks u (s.groupsOf p))) d :=
      (Follows.agrees_left (hcout.agrees.noticed _) huasks).agrees hdout.agrees
    exact Follows.agrees_left (h1.noticed _) hyasks
  · exact (((hcout.mono (by decide)).andThen huout).andThen hdout).andThen hyout
  · have h1 : u.bus.sent = c.bus.sent := by rw [hu]; exact ((Keeps.refl c).recomputeGroupsOf p).sent
    have h2 : y.bus.sent = d.bus.sent := by rw [hy]; exact ((Keeps.refl d).recomputeGroupsOf p').sent
    rw [h2, hdout.bus, h1, hcout.bus]

end Sys2Proof.Machine
end

section
/-! Walk steps that end their walk: the last visit with work left, and the calm point (O32). -/
namespace Sys2Proof.Machine

theorem State.ask_freed (s : State) (F : List Nat) (k : NoticeKind) (a b c : Nat) :
    (s.freed F).ask k a b c = (s.ask k a b c).freed F := by
  have hn : (s.freed F).notices = s.notices := rfl
  unfold State.ask
  rw [hn]
  split <;> rfl

theorem State.noticed_freed (s : State) (F : List Nat) (l : List NoticeAsk) : (s.freed F).noticed l = (s.noticed l).freed F := by
  induction l generalizing s with
  | nil => rfl
  | cons n l ih => rw [State.noticed_cons, State.noticed_cons, State.ask_freed, ih]

/-! ## The loop of a step -/

section
variable {kind : WorkKind} {p : Port} {tails : List (Option Nat)} {n visits : Nat} {x : StepState}

theorem walkVisits_of_done (h : ¬x.cls < 4) : walkVisits kind p tails n visits x = x := by
  cases n with
  | zero => rfl
  | succ n => rw [walkVisits, dif_neg h]

/-- A class without anything further to visit is passed over (R135). -/
theorem walkVisits_of_none {c : Cls} (hc : x.cls = c) (hn : x.next? tails p c = none) :
    walkVisits kind p tails (n + 1) visits x = walkVisits kind p tails n visits { x with cls := x.cls + 1, resume := none } := by
  obtain ⟨st, cls, resume, received⟩ := x
  subst hc
  rw [walkVisits, dif_pos c.isLt]
  dsimp only
  rw [hn]

/-- A step without visits left stands before the next copy (R136). -/
theorem walkVisits_of_spent {c : Cls} {tag : Nat} (hc : x.cls = c) (hn : x.next? tails p c = some tag) :
    walkVisits kind p tails (n + 1) 0 x = x := by
  obtain ⟨st, cls, resume, received⟩ := x
  subst hc
  rw [walkVisits, dif_pos c.isLt]
  dsimp only
  rw [hn]
  rfl

/-- A visit, of the recorded tail or of a copy before it. -/
theorem walkVisits_of_some {c : Cls} {tag : Nat} (hc : x.cls = c) (hn : x.next? tails p c = some tag) :
    walkVisits kind p tails (n + 1) (visits + 1) x =
      if tails.getD c none = some tag then
        walkVisits kind p tails n visits { x.visit kind p c tag with cls := (x.visit kind p c tag).cls + 1, resume := none }
      else walkVisits kind p tails n visits (x.visit kind p c tag) := by
  obtain ⟨st, cls, resume, received⟩ := x
  subst hc
  rw [walkVisits, dif_pos c.isLt]
  dsimp only
  rw [hn]
  rfl

end

/-- What a step has made of the part, its visits done: the ports and the place, then the end of the walk where it is reached. -/
theorem exec_walk {s : State} {w : Walk} (hw : s.failover.walk = some w) : exec (walkRow w.kind) s = .next (s.walkStep w).finish := by
  cases hk : w.kind with
  | evacuate =>
    show execEvacuationWalkStep s = _
    unfold execEvacuationWalkStep
    rw [hw]
    exact if_pos hk
  | drain =>
    show execDrainWalkStep s = _
    unfold execDrainWalkStep
    rw [hw]
    exact if_pos hk

/-- The state of a step before its visits. -/
def State.stepStart (s : State) (w : Walk) : StepState := { st := s, cls := w.cls, resume := w.resume, received := [] }

theorem State.walkStep_of_end {s : State} {w : Walk} {x : StepState}
    (hx : walkVisits w.kind w.port w.tails (Config.walkVisits + 5) Config.walkVisits (s.stepStart w) = x) (hcls : ¬x.cls < 4) :
    s.walkStep w =
      ((State.endWalk (if s.queuesEmpty w.port then x.st else x.st.adoptIfEmpty w.port) w.port).1.oweEach
        (x.received ++ (State.endWalk (if s.queuesEmpty w.port then x.st else x.st.adoptIfEmpty w.port) w.port).2)).settle
          s.freeCount := by
  unfold State.walkStep
  unfold State.stepStart at hx
  rw [hx]
  dsimp only
  rw [if_neg hcls]

theorem State.walkStep_of_rest {s : State} {w : Walk} {x : StepState}
    (hx : walkVisits w.kind w.port w.tails (Config.walkVisits + 5) Config.walkVisits (s.stepStart w) = x) (hcls : x.cls < 4) :
    s.walkStep w =
      ((State.setWalk (if s.queuesEmpty w.port then x.st else x.st.adoptIfEmpty w.port)
        (some { w with cls := x.cls, resume := x.resume })).oweEach x.received).settle s.freeCount := by
  unfold State.walkStep
  unfold State.stepStart at hx
  rw [hx]
  dsimp only
  rw [if_pos hcls, List.append_nil]

/-! ## The last visit, work left -/

section
variable {s : State} {w : Walk} {p : Port} {tag : Nat} {k : Copy} {f : Frame} {next : Port × WorkKind}
  {rest : List (Port × WorkKind)}

/-- The last visit of a walk at class 3: the copy is the recorded tail. -/
theorem State.walkStep_last (hp : w.port = p) (hcls : w.cls = 3) (hres : w.resume = none)
    (ht : w.tails.getD 3 none = some tag) (hqueue : s.queue p 3 = [tag]) (hk : s.copy tag = some k) (hk3 : k.cls = 3)
    (hf : s.frame k.frame = some f) :
    s.walkStep w =
      ((State.endWalk ((s.visited p tag k (s.treats w.kind p k f)).adoptIfEmpty p) p).1.oweEach
        ((s.treats w.kind p k f).received ++
          (State.endWalk ((s.visited p tag k (s.treats w.kind p k f)).adoptIfEmpty p) p).2)).settle s.freeCount := by
  have hx : walkVisits w.kind w.port w.tails (Config.walkVisits + 5) Config.walkVisits (s.stepStart w) =
      { st := s.visited p tag k (s.treats w.kind p k f), cls := 4, resume := none
        received := (s.treats w.kind p k f).received } := by
    have hnext : (s.stepStart w).next? w.tails p 3 = some tag := by
      unfold StepState.next?
      rw [show w.tails.getD (3 : Cls) none = some tag from ht]
      show (if tag ∈ s.queue p 3 then (afterResume (s.queue p 3) w.resume).head? else none) = _
      rw [hqueue, hres, if_pos List.mem_cons_self]
      rfl
    have hvisit := StepState.visit_of_copy (x := s.stepStart w) hk hf w.kind p
    rw [hk3] at hvisit
    rw [hp]
    show walkVisits w.kind p w.tails (36 + 1) (31 + 1) _ = _
    rw [walkVisits_of_some (c := 3) hcls hnext, if_pos (show w.tails.getD (3 : Cls) none = some tag from ht), hvisit]
    have hthree : (s.stepStart w).cls + 1 = 4 := by
      show w.cls + 1 = 4
      rw [hcls]
    dsimp only
    rw [hthree, walkVisits_of_done (show ¬4 < 4 by decide)]
    rfl
  have hne : s.queuesEmpty p = false := by
    rw [← Bool.not_eq_true, State.queuesEmpty_iff]
    intro h
    rw [h 3] at hqueue
    cases hqueue
  rw [State.walkStep_of_end hx (show ¬4 < 4 by decide), hp, hne]
  rfl

end

end Sys2Proof.Machine
end

section
/-! The two ends of a walk: the last visit with work left (R139), and the calm point at the end of the last walk (R145), as O32
states them. -/
namespace Sys2Proof.Machine

section
variable {s v y : State} {p : Port} {next : Port × WorkKind} {rest : List (Port × WorkKind)}

/-- A state whose groups, work list and tables are those of another hands its walk over as that one would. -/
theorem HandsOver.of_before (h : HandsOver v y p next rest) (ht : v.tables = s.tables) (hf : v.failover = s.failover) :
    s.recomputed y (s.groupsOf p ++ s.groupsOf next.1) ∧
      v.groupAsks y (v.groupsOf p) ++ v.groupAsks y ((v.groupsOf next.1).filter fun h => decide (h ∉ v.groupsOf p)) =
        s.groupAsks y (s.groupsOf p) ++ s.groupAsks y ((s.groupsOf next.1).filter fun h => decide (h ∉ s.groupsOf p)) := by
  have hgroups (q : Port) : v.groupsOf q = s.groupsOf q := State.groupsOf_congr ht q
  have hgs (g : GroupId) : v.groupState g = s.groupState g := State.groupState_congr (by rw [hf]) g
  have hasks (l : List GroupId) : v.groupAsks y l = s.groupAsks y l := by
    unfold State.groupAsks
    simp only [hgs]
  refine ⟨fun g => ?_, by simp only [hgroups, hasks]⟩
  have := h.groups g
  rwa [hgroups, hgroups, hgs] at this

end

/-- The first clause of O32: the last visit of a walk, with the next entry of the work list behind it. -/
theorem lastVisit (s : State) (w : Walk) (p : Port) (tag : Nat) (k : Copy) (f : Frame) (next : Port × WorkKind)
    (rest : List (Port × WorkKind)) (hq : s.quiet) (hw : s.failover.walk = some w) (hp : w.port = p) (hcls : w.cls = 3)
    (hres : w.resume = none) (htail : w.tails.getD 3 none = some tag) (hqueue : s.queue p 3 = [tag])
    (hk : s.copy tag = some k) (hk3 : k.cls = 3) (hkp : k.port = some p) (hf : s.frame k.frame = some f)
    (hwork : s.failover.work = next :: rest) :
    ∃ t, exec (walkRow w.kind) s = .next t ∧
      (∀ j, j ≠ tag → t.copy j = s.copy j) ∧ (∀ j, j ≠ k.frame → t.frame j = s.frame j) ∧
      (∀ (r : Port) (c : Cls), ¬(c = 3 ∧ (r = p ∨ s.treats w.kind p k f = .moves r)) → t.queue r c = s.queue r c) ∧
      (∀ r : Port, r ≠ p → t.egressPort r =
        { s.egressPort r with
          owed := (s.egressPort r).owed + if s.treats w.kind p k f = .moves r then 1 else 0 }) ∧
      t.egressPort p =
        s.adoptedIf p (s.treats w.kind p k f ≠ .stays ∧ s.queue p 0 = [] ∧ s.queue p 1 = [] ∧ s.queue p 2 = []) ∧
      t.failover.hold = s.failover.hold ∧ t.failover.work = rest ∧
      t.failover.walk.map (fun v => (v.port, v.kind)) = some next ∧
      s.recomputed t (s.groupsOf p ++ s.groupsOf next.1) ∧
      s.sameOutside [.cells, .admission, .queues, .failover, .acct, .notices, .bus] t ∧
      ∀ base : State,
        base = s.noticed
          (s.groupAsks t (s.groupsOf p) ++
            s.groupAsks t ((s.groupsOf next.1).filter fun h => decide (h ∉ s.groupsOf p))) →
        (match s.treats w.kind p k f with
          | .stays =>
            t.queue p 3 = [tag] ∧ t.cells = s.cells ∧ t.acct = s.acct ∧ t.admission = s.admission ∧
              s.delivers t base [] []
          | .retires cause =>
            t.queue p 3 = [] ∧ s.lostCopy t tag k f (s.countRetired cause f k) ∧
              t.suppliesOf (base.settled (s.freedBy k.frame f)) ∧
              s.delivers t (base.settled (s.freedBy k.frame f)) [] []
          | .moves q =>
            t.queue p 3 = [] ∧ t.queue q 3 = s.queue q 3 ++ [tag] ∧
              t.copy tag = some { k with state := .queued, port := some q } ∧
              t.frame k.frame = some { f with ports := addPort q (f.ports.filter (· ≠ p)) } ∧
              t.cells = { s.cells with frames := t.cells.frames, copies := t.cells.copies } ∧ t.acct = s.acct ∧
              t.admission = s.admission ∧ s.delivers t base [] []) := by
  have hrow := exec_walk hw
  rw [State.walkStep_last hp hcls hres htail hqueue hk hk3 hf] at hrow
  have hne : ∀ q, s.treats w.kind p k f = .moves q → q ≠ p := fun q => State.treats_ne
  have hret (cause : RetireCause) (ho : s.treats w.kind p k f = .retires cause) :
      Retired s (s.visited p tag k (s.treats w.kind p k f)) tag k f cause := by
    rw [ho]
    exact State.dequeue_retired hk hf cause
  have hmove (q : Port) (ho : s.treats w.kind p k f = .moves q) :
      (s.visited p tag k (s.treats w.kind p k f)).frame k.frame = some { f with ports := addPort q (f.ports.filter (· ≠ p)) } ∧
      (s.visited p tag k (s.treats w.kind p k f)).cells =
        { s.cells with
          frames := (s.visited p tag k (s.treats w.kind p k f)).cells.frames
          copies := (s.visited p tag k (s.treats w.kind p k f)).cells.copies } ∧
      (s.visited p tag k (s.treats w.kind p k f)).admission = s.admission := by
    have heq : s.visited p tag k (s.treats w.kind p k f) = s.moveCopy tag k p q := by rw [ho]; rfl
    rw [heq, State.moveCopy_eq hf]
    exact ⟨(Table.find_put ..).trans (if_pos rfl), rfl, rfl⟩
  have hstay (ho : s.treats w.kind p k f = .stays) : s.visited p tag k (s.treats w.kind p k f) = s := by rw [ho]; rfl
  have hv := State.visited_visited hk hf hne
  generalize s.treats w.kind p k f = o at *
  generalize s.visited p tag k o = v at *
  have haout := v.adoptIfEmpty_outside p
  have haqueue := v.adoptIfEmpty_queue p
  have haring := v.adoptIfEmpty_egressPort p
  have haqueues := v.adoptIfEmpty_queues p
  generalize v.adoptIfEmpty p = a at *
  have hafail : a.failover = s.failover := by rw [haout.failover, hv.outside.failover]
  have hatables : a.tables = s.tables := by rw [haout.tables, hv.outside.tables]
  obtain ⟨y, hy, hand⟩ := State.endWalk_next (s := a) (p := p) (next := next) (rest := rest) (by rw [hafail, hwork])
  rw [hy] at hrow
  dsimp only at hrow
  rw [List.append_nil] at hrow
  obtain ⟨hgroups, hasks⟩ := hand.of_before hatables hafail
  have hyfollows := hand.follows
  rw [hasks] at hyfollows
  obtain ⟨freed, hfreed⟩ : ∃ freed, freed = s.visitFreed k f o := ⟨_, rfl⟩
  have hvfollows := hv.follows
  rw [← hfreed] at hvfollows
  obtain ⟨l, hl⟩ : ∃ l : List Port, l = o.received := ⟨_, rfl⟩
  have hlmem (r : Port) : r ∈ l ↔ o = .moves r := by
    rw [hl]
    cases o <;> simp [Visit.received, eq_comm]
  rw [← hl] at hrow
  have howe := y.oweEach_outside l
  have howeRing := y.oweEach_egressPort l
  have howeQueues := y.oweEach_queues l
  generalize y.oweEach l = z at *
  have hset := z.settle_outside s.freeCount
  have hrec := (SameRecords.refl z).settle s.freeCount
  obtain ⟨asks, hasksDef⟩ : ∃ asks, asks = s.groupAsks y (s.groupsOf p) ++
      s.groupAsks y ((s.groupsOf next.1).filter fun h => decide (h ∉ s.groupsOf p)) := ⟨_, rfl⟩
  rw [← hasksDef] at hyfollows
  have hz : Agrees ((s.noticed asks).freed freed) z := by
    rw [← State.noticed_freed]
    exact (Follows.agrees_left ((hvfollows.agrees haout.agrees).noticed asks) hyfollows).agrees howe.agrees
  have hcount : (s.noticed asks).freeCount = s.freeCount := by
    unfold State.freeCount
    rw [State.noticed_eq]
  have hdone := hz.settled
  rw [hcount] at hdone
  have hzsent : z.bus.sent = s.bus.sent := by rw [howe.bus, hand.sent, haout.bus, hv.outside.bus]
  have hdelivers : s.delivers (z.settle s.freeCount).finish ((s.noticed asks).settled freed) [] [] :=
    hdone.finish_delivers hq (((Gathers.refl s).noticed _).settled _) (((Gathers.refl z).settle _).sent.trans hzsent)
  have hnothing : freed = [] → z.settle s.freeCount = z := fun hn => State.settle_of_eq (by
    have := hz.freeCount
    rw [hn, State.freed_nil, hcount] at this
    exact this)
  generalize hwd : z.settle s.freeCount = x at *
  have hrecords : SameRecords v x.finish := by
    refine .trans (.trans (.of_blocks ?_ ?_) hrec) (.of_blocks rfl rfl)
    · rw [howe.cells, hand.outside.cells, haout.cells]
    · rw [howe.admission, hand.outside.admission, haout.admission]
  have hacct : x.finish.acct = v.acct := by
    show x.acct = _
    rw [hset.acct, howe.acct, hand.outside.acct, haout.acct]
  have hfail : x.finish.failover = y.failover := by
    show x.failover = _
    rw [hset.failover, howe.failover]
  have htables : x.finish.tables = y.tables := by
    show x.tables = _
    rw [hset.tables, howe.tables]
  have hlive : x.finish.live = y.live := by
    show x.live = _
    rw [hset.live, howe.live]
  have hxqueue (r : Port) (b : Cls) : x.finish.queue r b = v.queue r b := by
    have h1 : x.queue r b = z.queue r b := State.queue_congr hset.queues r b
    have h2 : z.queue r b = y.queue r b := by unfold State.queue; rw [howeQueues]
    exact h1.trans (h2.trans ((State.queue_congr hand.outside.queues r b).trans (haqueue r b)))
  have hring (r : Port) : x.finish.egressPort r =
      { a.egressPort r with owed := (a.egressPort r).owed + if o = .moves r then 1 else 0 } := by
    have h1 : x.egressPort r = z.egressPort r := State.ring_congr hset.queues r
    refine h1.trans ((howeRing r).trans ?_)
    rw [State.ring_congr hand.outside.queues r, if_congr (hlmem r) rfl rfl]
  have hvring (r : Port) : v.egressPort r = s.egressPort r := egressPort_congr hv.egress r
  have hgsEnd (g : GroupId) : x.finish.groupState g = y.groupState g := State.groupState_congr (by rw [hfail]) g
  have hasksEnd (m : List GroupId) : s.groupAsks x.finish m = s.groupAsks y m :=
    State.groupAsks_congr (fun g _ => hgsEnd g) (fun g _ => State.usable_congr htables (by rw [hlive]) g)
      fun g _ => State.evacuatingMembers_congr htables (by rw [hfail]) (by rw [hfail]) g
  refine ⟨x.finish, hrow, fun j hj => ?_, fun j hj => ?_, fun r c hrc => ?_, fun r hr => ?_, ?_, ?_, ?_, ?_, fun g => ?_, ?_, ?_⟩
  · rw [hrecords.copy, hv.copy, if_neg hj]
  · rw [hrecords.frame, hv.frame j hj]
  · rw [hxqueue, hv.queue, hk3]
    split
    · subst_vars
      rw [if_neg fun e => hrc ⟨rfl, .inl e⟩, if_neg fun e => hrc ⟨rfl, .inr e⟩, List.append_nil]
    · rfl
  · rw [hring, haring, if_neg hr, hvring]
  · rw [hring, haring, if_pos rfl, if_neg fun e => hne p e rfl]
    have hempty : (∀ b : Cls, v.queue p b = []) ↔ o ≠ .stays ∧ s.queue p 0 = [] ∧ s.queue p 1 = [] ∧ s.queue p 2 = [] := by
      have hthree : v.queue p 3 = [] ↔ o ≠ .stays := by
        rw [hv.queue, if_pos hk3.symm, if_pos rfl, hqueue]
        by_cases ho : o = .stays
        · simp [ho]
        · simp [ho]
      have hother (b : Cls) (hb : b ≠ 3) : v.queue p b = s.queue p b := by rw [hv.queue, if_neg (by rw [hk3]; exact hb)]
      rw [← hthree, ← hother 0 (by decide), ← hother 1 (by decide), ← hother 2 (by decide)]
      constructor
      · exact fun h => ⟨h 3, h 0, h 1, h 2⟩
      · rintro ⟨h3, h0, h1, h2⟩ b
        match b with
        | 0 => exact h0
        | 1 => exact h1
        | 2 => exact h2
        | 3 => exact h3
    unfold State.adoptedIf State.scheduleProfile State.portEntry
    simp only [hempty, hvring, hv.outside.tables]
    rfl
  · rw [hfail, hand.hold, hafail]
  · rw [hfail, hand.work]
  · rw [hfail, hand.walk]
  · rw [hgsEnd, State.computeGroup_congr htables (by rw [hlive]) (by rw [hfail]) (by rw [hfail]) g]
    exact hgroups g
  · exact (((((hv.outside.mono (by decide)).andThen haout).andThen hand.outside).andThen howe).andThen hset).andThen
      (State.finish_outside x)
  · intro base hbase
    rw [hasksEnd, hasksEnd, ← hasksDef] at hbase
    subst hbase
    cases o with
    | stays =>
      have hs := hstay rfl
      rw [hs] at hxqueue haout
      rw [show freed = [] from hfreed] at hdelivers hnothing
      have hxz := hnothing rfl
      refine ⟨by rw [hxqueue, hqueue], ?_, ?_, ?_, hdelivers⟩
      · show x.cells = _
        rw [hxz, howe.cells, hand.outside.cells, haout.cells]
      · rw [hacct, hs]
      · show x.admission = _
        rw [hxz, howe.admission, hand.outside.admission, haout.admission]
    | retires cause =>
      rw [show freed = s.freedBy k.frame f from hfreed] at hdelivers hdone
      refine ⟨?_, (hret cause rfl).lostCopy hrecords hacct, ⟨hdone.freeList, hdone.ports, hdone.shed⟩, hdelivers⟩
      rw [hxqueue, hv.queue, if_pos hk3.symm, if_pos rfl, if_neg (by simp), hqueue]
      simp
    | moves q =>
      obtain ⟨hframe, hcells, hadm⟩ := hmove q rfl
      rw [show freed = [] from hfreed] at hdelivers hnothing
      have hxz := hnothing rfl
      have hxcells : x.finish.cells = v.cells := by
        show x.cells = _
        rw [hxz, howe.cells, hand.outside.cells, haout.cells]
      refine ⟨?_, ?_, ?_, ?_, ?_, ?_, ?_, hdelivers⟩
      · rw [hxqueue, hv.queue, if_pos hk3.symm, if_pos rfl, if_neg (by simp), hqueue]
        simp
      · rw [hxqueue, hv.queue, if_pos hk3.symm, if_neg (hne q rfl), if_pos rfl]
      · rw [hrecords.copy, hv.copy, if_pos rfl]
      · rw [hrecords.frame, hframe]
      · rw [hxcells]
        exact hcells
      · rw [hacct, hv.acct]
      · show x.admission = _
        rw [hxz, howe.admission, hand.outside.admission, haout.admission, hadm]

end Sys2Proof.Machine
end

section
/-! The end of the last walk, nothing left to visit: the calm point and the release of the hold pool (R139, R145). -/
namespace Sys2Proof.Machine

/-- A step at class 3 without a recorded tail ends the walk without a visit (R135). -/
theorem State.walkStep_over {s : State} {w : Walk} (hcls : w.cls = 3) (ht : w.tails.getD 3 none = none) :
    s.walkStep w = ((s.endWalk w.port).1.oweEach (s.endWalk w.port).2).settle s.freeCount := by
  have hx : walkVisits w.kind w.port w.tails (Config.walkVisits + 5) Config.walkVisits (s.stepStart w) =
      { st := s, cls := 4, resume := none, received := [] } := by
    have hnext : (s.stepStart w).next? w.tails w.port 3 = none := by
      unfold StepState.next?
      rw [show w.tails.getD (3 : Cls) none = none from ht]
    have hthree : (s.stepStart w).cls + 1 = 4 := by
      show w.cls + 1 = 4
      rw [hcls]
    show walkVisits w.kind w.port w.tails (36 + 1) 32 _ = _
    rw [walkVisits_of_none (c := 3) hcls hnext, hthree, walkVisits_of_done (show ¬4 < 4 by decide)]
    rfl
  have hadopt : (if s.queuesEmpty w.port then s else s.adoptIfEmpty w.port) = s := by
    split
    · rfl
    · rename_i h
      unfold State.adoptIfEmpty
      rw [if_neg (by simp [h])]
  rw [State.walkStep_of_end hx (show ¬4 < 4 by decide)]
  dsimp only
  rw [hadopt, List.nil_append]

/-- The third clause of O32. -/
theorem lastWalkEnds (s : State) (w : Walk) (hq : s.quiet) (hw : s.failover.walk = some w) (hcls : w.cls = 3)
    (ht : w.tails.getD 3 none = none) (hwork : s.failover.work = []) :
    ∃ t, exec (walkRow w.kind) s = .next t ∧
      t.failover.walk = none ∧ t.failover.work = [] ∧ t.failover.drained = s.failover.drained ∧ s.released t ∧
      s.releaseSends t
        (s.groupAsks t (s.groupsOf w.port) ++
          s.groupAsks t (allGroups.filter fun h => decide (h ∉ s.groupsOf w.port))) ∧
      (s.holdSound → ∀ q : Port, t.egressPort q =
        { s.egressPort q with
          owed := (s.egressPort q).owed +
            if s.heldTags.any (fun j => decide (s.releasePort t j = some q)) then 1 else 0 }) ∧
      s.sameOutside [.cells, .admission, .queues, .failover, .acct, .notices, .bus] t := by
  have hrow := exec_walk hw
  rw [State.walkStep_over hcls ht] at hrow
  obtain ⟨c, hc⟩ : ∃ c, c = s.setWalk none := ⟨_, rfl⟩
  obtain ⟨u, hu⟩ : ∃ u, u = (c.groupsOf w.port).foldl State.recomputeGroup c := ⟨_, rfl⟩
  have hcout : s.sameOutside [.failover] c := by rw [hc]; exact s.failover_outside _
  have huout := c.recomputeGroups_outside (c.groupsOf w.port)
  have hufail := c.recomputeGroups_failover (c.groupsOf w.port)
  have hugs := c.recomputeGroups_groupState (c.groupsOf w.port)
  have huasks := c.recomputeGroups_agrees (c.nodup_groupsOf w.port)
  have hucomp := c.recomputeGroups_computeGroup (c.groupsOf w.port)
  have husent : u.bus.sent = c.bus.sent := by rw [hu]; exact ((Keeps.refl c).recomputeGroupsOf w.port).sent
  rw [← hu] at huout hufail hugs huasks hucomp
  have hcfail : c.failover = { s.failover with walk := none } := by rw [hc]; rfl
  have hend : s.endWalk w.port = u.calmPoint := by
    have hrec : (s.setWalk none).recomputeGroupsOf w.port = u := by rw [hu, hc]; rfl
    have hempty : u.failover.work.isEmpty = true := by
      rw [hufail, hcfail]
      show s.failover.work.isEmpty = true
      rw [hwork]
      rfl
    unfold State.endWalk
    rw [hrec]
    dsimp only
    rw [if_pos hempty]
  rw [hend] at hrow
  have hout : s.sameOutside [.failover, .notices, .bus] u := (hcout.mono (by decide)).andThen huout
  have h := State.calmPoint_calmed (s := s) (c := u) (hout.mono (by decide)) (by rw [hufail, hcfail])
  have hgroups : c.groupsOf w.port = s.groupsOf w.port := State.groupsOf_congr hcout.tables w.port
  have hcgs (g : GroupId) : c.groupState g = s.groupState g := State.groupState_congr (by rw [hcfail]) g
  rw [hgroups] at hugs huasks
  have hasksC (t : State) (l : List GroupId) : c.groupAsks t l = s.groupAsks t l := by
    unfold State.groupAsks
    simp only [hcgs]
  rw [hasksC] at huasks
  have hfollows := Follows.agrees_left (hcout.agrees.noticed _) huasks
  generalize u.calmPoint = r at *
  have howe := r.1.oweEach_outside r.2
  have howeRing := r.1.oweEach_egressPort r.2
  have howeQueues := r.1.oweEach_queues r.2
  have hset := (r.1.oweEach r.2).settle_outside s.freeCount
  have hrec := (SameRecords.refl (r.1.oweEach r.2)).settle s.freeCount
  obtain ⟨v, hv⟩ : ∃ v, v = r.1.oweEach r.2 := ⟨_, rfl⟩
  rw [← hv] at hrow howe howeRing howeQueues hset hrec
  have hsends (t : State) (hte : t = (v.settle s.freeCount).finish) (htab : (v.settle s.freeCount).tables = u.tables)
      (hlive : (v.settle s.freeCount).live.ports = u.live.ports) :
      s.releaseSends t (s.groupAsks u (s.groupsOf w.port) ++ u.groupAsks r.1 allGroups) :=
    h.releaseSends hq hfollows (by rw [husent, hcout.bus]) howe.agrees (by rw [howe.bus]) (.refl _ _) hte htab hlive
  generalize v.settle s.freeCount = x at *
  have hfail : x.finish.failover = r.1.failover := by
    show x.failover = _
    rw [hset.failover, howe.failover]
  have htables : x.tables = u.tables := by rw [hset.tables, howe.tables, h.outside.tables]
  have hlive : x.live = u.live := by rw [hset.live, howe.live, h.outside.live]
  have hrecords : SameRecords r.1 x.finish :=
    .trans (.trans (.of_blocks howe.cells howe.admission) hrec) (.of_blocks rfl rfl)
  have hqueues : x.finish.queues.queues = r.1.queues.queues := by
    show x.queues.queues = _
    rw [hset.queues, howeQueues]
  have hgs (g : GroupId) : x.finish.groupState g = r.1.groupState g := State.groupState_congr (by rw [hfail]) g
  have husable (g : GroupId) : x.finish.usable g = u.usable g :=
    State.usable_congr htables (by show x.live.ports = _; rw [hlive]) g
  have hevac (g : GroupId) : x.finish.evacuatingMembers g = u.evacuatingMembers g :=
    State.evacuatingMembers_congr (t := x.finish) htables ((congrArg FailoverController.work hfail).trans (by rw [h.failover]))
      ((congrArg FailoverController.walk hfail).trans (by rw [h.failover])) g
  have hstand : ∀ g ∈ s.groupsOf w.port, r.1.groupState g = u.groupState g := fun g hg => by
    rw [h.groups, hugs, if_pos hg, hucomp]
  have hothers : ∀ g, g ∉ s.groupsOf w.port → u.groupState g = s.groupState g := fun g hg => by
    rw [hugs, if_neg hg, hcgs]
  have hfirst : s.groupAsks x.finish (s.groupsOf w.port) = s.groupAsks u (s.groupsOf w.port) :=
    State.groupAsks_congr (fun g hg => (hgs g).trans (hstand g hg)) (fun g _ => husable g) fun g _ => hevac g
  have hsecond : s.groupAsks x.finish (allGroups.filter fun g => decide (g ∉ s.groupsOf w.port)) = u.groupAsks r.1 allGroups := by
    rw [State.groupAsks_rest hstand hothers]
    exact State.groupAsks_congr (fun g _ => hgs g)
      (fun g _ => (husable g).trans
        (State.usable_congr (s := u) (t := r.1) h.outside.tables (by rw [h.outside.live]) g).symm)
      fun g _ => (hevac g).trans
        (State.evacuatingMembers_congr (s := u) (t := r.1) h.outside.tables (by rw [h.failover]) (by rw [h.failover]) g).symm
  refine ⟨x.finish, hrow, ?_, ?_, ?_, ?_, ?_, fun hs q => ?_, ?_⟩
  · rw [hfail, h.failover, hufail, hcfail]
  · rw [hfail, h.failover, hufail, hcfail]
    exact hwork
  · rw [hfail, h.failover, hufail, hcfail]
  · exact h.released hrecords hqueues hfail (by show x.acct = _; rw [hset.acct, howe.acct]) htables (by show x.live.ports = _; rw [hlive])
  · rw [hfirst, hsecond]
    exact hsends _ rfl htables (by rw [hlive])
  · obtain ⟨-, hports⟩ := h.sound x.finish htables (by show x.live.ports = _; rw [hlive]) hs
    have hring : x.finish.egressPort q =
        { s.egressPort q with owed := (s.egressPort q).owed + if q ∈ r.2 then 1 else 0 } := by
      have h1 : x.egressPort q = v.egressPort q := State.ring_congr hset.queues q
      have h2 : r.1.egressPort q = s.egressPort q :=
        (egressPort_congr h.egress q).trans (State.ring_congr hout.queues q)
      refine h1.trans ((howeRing q).trans ?_)
      rw [h2]
    rw [hring, hports]
    simp only [List.mem_filterMap, List.any_eq_true, decide_eq_true_iff]
  · exact ((((hout.mono (by decide)).andThen h.outside).andThen howe).andThen hset).andThen (State.finish_outside x)

end Sys2Proof.Machine
end

section
/-! A walk step that makes its 32 visits (R135, R136): each copy treated by the rules, those moved in order (O32). -/
namespace Sys2Proof.Machine

theorem afterResume_append {a b : List Nat} (h : (a ++ b).Nodup) : afterResume (a ++ b) a.getLast? = b := by
  induction a using List.reverseRecOn with
  | nil => rfl
  | append_singleton a r _ =>
    have hr : r ∉ a := fun hmem => by
      rw [List.append_assoc] at h
      exact (List.nodup_append.1 h).2.2 r hmem r (by simp) rfl
    have hdrop : (a ++ ([r] ++ b)).dropWhile (· ≠ r) = r :: b := by
      rw [List.dropWhile_append_of_pos fun x hx => by simpa using fun e : x = r => hr (e ▸ hx)]
      simp
    rw [List.getLast?_append, List.getLast?_singleton]
    show (if r ∈ a ++ [r] ++ b then _ else _) = _
    rw [if_pos (by simp), List.append_assoc, hdrop]
    rfl

/-! ## The copies visited so far -/

/-- The copies that the walk leaves in place. -/
def State.stayed (s : State) (kind : WorkKind) (p : Port) (l : List Nat) : List Nat :=
  l.filter fun j => decide (s.treatsTag kind p j = .stays)

/-- What a walk step counts for the copy of this tag. -/
def State.walkCount (s : State) (kind : WorkKind) (p : Port) (a : State) (j : Nat) : State :=
  match s.treatsTag kind p j with
  | .retires cause => s.countTag a cause j
  | _ => a

/-- The copies `l` of class `c` have been visited between `s` and `v`. -/
structure Toured (s : State) (kind : WorkKind) (p : Port) (c : Cls) (l : List Nat) (v : State) : Prop where
  outside : s.sameOutside [.cells, .admission, .queues, .acct] v
  own : ∀ a m, s.queue p c = a ++ (l ++ m) → v.queue p c = a ++ (s.stayed kind p l ++ m)
  others : ∀ q : Port, q ≠ p → v.queue q c = s.queue q c ++ l.filter fun j => decide (s.treatsTag kind p j = .moves q)
  classes : ∀ (q : Port) (b : Cls), b ≠ c → v.queue q b = s.queue q b
  egress : v.queues.ports = s.queues.ports
  untouched : ∀ j, j ∉ l → v.copy j = s.copy j
  copies : ∀ j ∈ l, v.copy j =
    match s.treatsTag kind p j with
    | .stays => s.copy j
    | .retires _ => none
    | .moves q => (s.copy j).map fun k => { k with state := .queued, port := some q }
  frames : ∀ first, (∀ j ∈ l, (s.copy j).map (fun k => k.frame) ≠ some first) → v.frame first = s.frame first
  acct : v.acct = (l.foldl (s.walkCount kind p) s).acct

section
variable {s v : State} {kind : WorkKind} {p : Port} {c : Cls} {l : List Nat}

theorem State.walkCount_tables (s : State) (kind : WorkKind) (p : Port) (a : State) (l : List Nat) :
    (l.foldl (s.walkCount kind p) a).tables = a.tables := by
  induction l generalizing a with
  | nil => rfl
  | cons j l ih =>
    rw [List.foldl_cons, ih]
    unfold State.walkCount State.countTag
    split
    · split
      · rfl
      · split
        · rfl
        · rw [State.countRetired_eq]
    · rfl

theorem Toured.start (s : State) (kind : WorkKind) (p : Port) (c : Cls) : Toured s kind p c [] s where
  outside := .refl _ s
  own _ _ h := h
  others _ _ := (List.append_nil _).symm
  classes _ _ _ := rfl
  egress := rfl
  untouched _ _ := rfl
  copies _ h := absurd h List.not_mem_nil
  frames _ _ := rfl
  acct := rfl

theorem State.treatsTag_eq {k : Copy} {f : Frame} {j : Nat} (hk : s.copy j = some k) (hf : s.frame k.frame = some f) :
    s.treatsTag kind p j = s.treats kind p k f := by
  unfold State.treatsTag
  rw [hk]
  dsimp only
  rw [hf]

/-- One copy more, of another frame. -/
theorem Toured.next {j : Nat} {k : Copy} {f : Frame} (h : Toured s kind p c l v) (hnd : (s.queue p c).Nodup) (hk : s.copy j = some k)
    (hcls : k.cls = c) (hf : s.frame k.frame = some f) (hj : j ∉ l)
    (hapart : ∀ i ∈ l, (s.copy i).map (fun k => k.frame) ≠ some k.frame) :
    v.copy j = some k ∧ v.frame k.frame = some f ∧ v.treats kind p k f = s.treatsTag kind p j ∧
      Toured s kind p c (l ++ [j]) (v.visited p j k (s.treatsTag kind p j)) := by
  have hvk : v.copy j = some k := (h.untouched j hj).trans hk
  have hvf : v.frame k.frame = some f := (h.frames _ hapart).trans hf
  have htag : s.treatsTag kind p j = s.treats kind p k f := State.treatsTag_eq hk hf
  have htreats : v.treats kind p k f = s.treatsTag kind p j := by
    rw [htag]
    unfold State.treats
    simp only [State.memberChoice_congr h.outside.tables (by rw [h.outside.live])]
  have hne : ∀ q, s.treatsTag kind p j = .moves q → q ≠ p := fun q hq => State.treats_ne (htag ▸ hq)
  have hv := State.visited_visited (s := v) (p := p) hvk hvf hne
  have hcount : s.walkCount kind p (l.foldl (s.walkCount kind p) s) j =
      match s.treatsTag kind p j with
      | .retires cause => (l.foldl (s.walkCount kind p) s).countRetired cause f k
      | _ => l.foldl (s.walkCount kind p) s := by
    unfold State.walkCount State.countTag
    rw [hk] <;> cases s.treatsTag kind p j <;> simp only [hf]
  have hstay : s.stayed kind p (l ++ [j]) = s.stayed kind p l ++ if s.treatsTag kind p j = .stays then [j] else [] := by
    unfold State.stayed
    rw [List.filter_append, List.filter_cons]
    simp only [decide_eq_true_iff, List.filter_nil]
  have hmoved (q : Port) : (l ++ [j]).filter (fun i => decide (s.treatsTag kind p i = .moves q)) =
      l.filter (fun i => decide (s.treatsTag kind p i = .moves q)) ++ if s.treatsTag kind p j = .moves q then [j] else [] := by
    rw [List.filter_append, List.filter_cons]
    simp only [decide_eq_true_iff, List.filter_nil]
  refine ⟨hvk, hvf, htreats, ?_⟩
  refine ⟨h.outside.andThen hv.outside, fun a m ham => ?_, fun q hq => ?_, fun q b hb => ?_, hv.egress.trans h.egress, fun i hi => ?_,
    fun i hi => ?_, fun first hfirst => ?_, ?_⟩
  · have hown := h.own a (j :: m) (by rw [ham, List.append_assoc]; rfl)
    rw [hv.queue, if_pos hcls.symm, if_pos rfl, hstay, ← hcls]
    rw [hcls] at *
    by_cases ho : s.treatsTag kind p j = .stays
    · rw [if_pos ho, if_pos ho, hown]
      simp
    · rw [if_neg ho, if_neg ho, hown, List.append_nil]
      rw [ham] at hnd
      have hja : j ∉ a := fun hmem => (List.nodup_append.1 hnd).2.2 j hmem j (by simp) rfl
      have hjs : j ∉ s.stayed kind p l := fun hmem => hj (List.mem_filter.1 hmem).1
      rw [List.erase_append_right _ hja, List.erase_append_right _ hjs, List.erase_cons_head]
  · rw [hv.queue, if_pos hcls.symm, if_neg hq, h.others q hq, hmoved, List.append_assoc]
  · rw [hv.queue, if_neg (by rw [hcls]; exact hb), h.classes q b hb]
  · obtain ⟨hil, hij⟩ := not_or.1 (mt List.mem_append.2 hi)
    rw [hv.copy, if_neg (by simpa using hij), h.untouched i hil]
  · rw [hv.copy]
    by_cases hij : i = j
    · subst hij
      rw [if_pos rfl, hvk, hk] <;> cases s.treatsTag kind p i <;> rfl
    · rw [if_neg hij, h.copies i ((List.mem_append.1 hi).resolve_right (by simpa using hij))]
  · have hkf : first ≠ k.frame := fun e => hfirst j (by simp) (by rw [hk, e]; rfl)
    rw [hv.frame first hkf, h.frames first fun i hi => hfirst i (List.mem_append_left _ hi)]
  · have hcountRetired (cause : RetireCause) :
        (v.countRetired cause f k).acct = ((l.foldl (s.walkCount kind p) s).countRetired cause f k).acct :=
      State.countRetired_acct_congr (s := l.foldl (s.walkCount kind p) s) (u := v) h.acct
        (by rw [h.outside.tables, State.walkCount_tables]) cause f f.ports k
    rw [List.foldl_append, List.foldl_cons, List.foldl_nil, hcount, hv.acct]
    cases s.treatsTag kind p j with
    | stays => exact h.acct
    | moves q => exact h.acct
    | retires cause => exact hcountRetired cause

/-! ## The loop -/

/-- The visits of the copies `m` that stand behind the place of the walk, the recorded tail behind them. -/
theorem walkVisits_many {tails : List (Option Nat)} {tail n : Nat} {before rest m : List Nat} {x : StepState}
    (htail : tails.getD c none = some tail) (hrest : tail ∈ rest) (hnd : (s.queue p c).Nodup)
    (hqueue : s.queue p c = before ++ (l ++ (m ++ rest))) (hcls : x.cls = c)
    (hcopies : ∀ j ∈ m, ∃ k, s.copy j = some k ∧ k.cls = c ∧ (s.frame k.frame).isSome = true)
    (happart : (l ++ m).Pairwise fun i j => (s.copy i).map (fun k => k.frame) ≠ (s.copy j).map (fun k => k.frame))
    (ht : Toured s kind p c l x.st) (hres : x.resume = (before ++ s.stayed kind p l).getLast?)
    (hrec : x.received = l.flatMap fun j => (s.treatsTag kind p j).received) :
    ∃ y, walkVisits kind p tails (n + m.length + 1) m.length x = y ∧ y.cls = c ∧ Toured s kind p c (l ++ m) y.st ∧
      y.resume = (before ++ s.stayed kind p (l ++ m)).getLast? ∧
      y.received = (l ++ m).flatMap fun j => (s.treatsTag kind p j).received := by
  have hown := ht.own before (m ++ rest) hqueue
  have hvnd : (before ++ s.stayed kind p l ++ (m ++ rest)).Nodup := by
    rw [hqueue] at hnd
    rw [List.append_assoc]
    exact hnd.sublist (List.Sublist.append_left (List.Sublist.append_right List.filter_sublist _) _)
  have hnext : x.next? tails p c = (m ++ rest).head? := by
    unfold StepState.next?
    rw [htail]
    dsimp only
    rw [hown, if_pos (by simp [hrest]), hres, ← List.append_assoc, afterResume_append hvnd]
  induction m generalizing l x with
  | nil =>
    obtain ⟨r, rest', hr⟩ := List.exists_cons_of_ne_nil (List.ne_nil_of_mem hrest)
    rw [hr] at hnext
    refine ⟨x, walkVisits_of_spent hcls hnext, hcls, ?_, ?_, ?_⟩
    · rwa [List.append_nil]
    · rwa [List.append_nil]
    · rwa [List.append_nil]
  | cons j m ih =>
    obtain ⟨k, hk, hkc, hfs⟩ := hcopies j List.mem_cons_self
    obtain ⟨f, hf⟩ := Option.isSome_iff_exists.1 hfs
    have hj : j ∉ l := fun hmem => by
      rw [hqueue] at hnd
      exact (List.nodup_append.1 (List.nodup_append.1 hnd).2.1).2.2 j hmem j (by simp) rfl
    have hapart : ∀ i ∈ l, (s.copy i).map (fun k => k.frame) ≠ some k.frame := fun i hi => by
      have := (List.pairwise_append.1 happart).2.2 i hi j List.mem_cons_self
      rwa [hk] at this
    obtain ⟨hxk, hxf, htreats, hnew⟩ := ht.next hnd hk hkc hf hj hapart
    have hvisit := StepState.visit_of_copy hxk hxf kind p
    rw [hkc, htreats] at hvisit
    have hne : ¬tails.getD c none = some j := fun e => by
      have hjt : tail = j := Option.some.inj (htail.symm.trans e)
      rw [hqueue] at hnd
      have hmr := (List.nodup_append.1 (List.nodup_append.1 hnd).2.1).2.1
      exact (List.nodup_append.1 hmr).2.2 j List.mem_cons_self tail hrest hjt.symm
    have hstep : walkVisits kind p tails (n + (j :: m).length + 1) (j :: m).length x =
        walkVisits kind p tails (n + m.length + 1) m.length (x.visit kind p c j) := by
      show walkVisits kind p tails ((n + m.length + 1) + 1) (m.length + 1) x = _
      rw [walkVisits_of_some hcls hnext, if_neg hne]
    have hqueue' : s.queue p c = before ++ (l ++ [j] ++ (m ++ rest)) := by rw [hqueue]; simp
    have hstay : s.stayed kind p (l ++ [j]) = s.stayed kind p l ++ if s.treatsTag kind p j = .stays then [j] else [] := by
      unfold State.stayed
      rw [List.filter_append, List.filter_cons]
      simp only [decide_eq_true_iff, List.filter_nil]
    have hres' : (x.visit kind p c j).resume = (before ++ s.stayed kind p (l ++ [j])).getLast? := by
      rw [hvisit, hstay]
      dsimp only
      split
      · simp
      · rw [List.append_nil, hres]
    have hown' := hnew.own before (m ++ rest) hqueue'
    have hvnd' : (before ++ s.stayed kind p (l ++ [j]) ++ (m ++ rest)).Nodup := by
      rw [hqueue'] at hnd
      rw [List.append_assoc]
      exact hnd.sublist (List.Sublist.append_left (List.Sublist.append_right List.filter_sublist _) _)
    have hst : (x.visit kind p c j).st = x.st.visited p j k (s.treatsTag kind p j) := by rw [hvisit]
    obtain ⟨y, hy, hycls, hyt, hyres, hyrec⟩ := ih (l := l ++ [j]) (x := x.visit kind p c j) hqueue' (by rw [hvisit]; exact hcls)
      (fun i hi => hcopies i (List.mem_cons_of_mem _ hi)) (by rw [List.append_assoc]; exact happart) (by rw [hst]; exact hnew) hres'
      (by rw [hvisit, hrec, List.flatMap_append, List.flatMap_singleton]) (by rw [hst]; exact hown') hvnd' (by
        unfold StepState.next?
        rw [htail]
        dsimp only
        rw [hst, hown', if_pos (by simp [hrest]), hres', ← List.append_assoc, afterResume_append hvnd'])
    rw [List.append_assoc] at hyt hyres hyrec
    exact ⟨y, hstep.trans hy, hycls, hyt, hyres, hyrec⟩

end

/-- The second clause of O32: a step of 32 visits with more to visit. -/
theorem visitsSpent (s : State) (w : Walk) (p : Port) (c : Cls) (before visited rest : List Nat) (tail : Nat)
    (hw : s.failover.walk = some w) (hp : w.port = p) (hcls : w.cls = c) (hres : w.resume = before.getLast?)
    (hqueue : s.queue p c = before ++ visited ++ rest) (hnd : (s.queue p c).Nodup) (hlen : visited.length = 32)
    (htail : w.tails.getD c none = some tail) (hrest : tail ∈ rest)
    (hcopies : ∀ j ∈ visited, ∃ k, s.copy j = some k ∧ k.cls = c ∧ k.port = some p ∧ (s.frame k.frame).isSome = true)
    (hapart : visited.Pairwise fun i j => (s.copy i).map (fun k => k.frame) ≠ (s.copy j).map (fun k => k.frame)) :
    ∃ t, exec (walkRow w.kind) s = .next t ∧
      t.failover =
        { s.failover with
          walk := some { w with
            resume := (visited.filter fun j => decide (s.treatsTag w.kind p j = .stays)).getLast?.or w.resume } } ∧
      t.queue p c = before ++ (visited.filter fun j => decide (s.treatsTag w.kind p j = .stays)) ++ rest ∧
      (∀ b : Cls, b ≠ c → t.queue p b = s.queue p b) ∧ t.egressPort p = s.egressPort p ∧
      (∀ q : Port, q ≠ p → ∀ b : Cls, t.queue q b =
        s.queue q b ++
          if b = c then visited.filter (fun j => decide (s.treatsTag w.kind p j = .moves q)) else []) ∧
      (∀ q : Port, q ≠ p → t.egressPort q =
        { s.egressPort q with
          owed := (s.egressPort q).owed +
            if visited.any (fun j => decide (s.treatsTag w.kind p j = .moves q)) then 1 else 0 }) ∧
      (∀ j, j ∉ visited → t.copy j = s.copy j) ∧
      (∀ j ∈ visited, t.copy j =
        match s.treatsTag w.kind p j with
        | .stays => s.copy j
        | .retires _ => none
        | .moves q => (s.copy j).map fun k => { k with state := .queued, port := some q }) ∧
      t.acct =
        (visited.foldl (fun a j =>
          match s.treatsTag w.kind p j with
          | .retires cause => s.countTag a cause j
          | _ => a) s).acct ∧
      s.sameOutside [.cells, .admission, .queues, .failover, .acct, .notices, .bus] t := by
  have hqueue' : s.queue p c = before ++ ([] ++ (visited ++ rest)) := by rw [hqueue]; simp
  obtain ⟨y, hy, hycls, hyt, hyres, hyrec⟩ := walkVisits_many (l := []) (n := 4) (kind := w.kind) (x := s.stepStart w) htail hrest hnd
    hqueue' hcls (fun j hj => by obtain ⟨k, h1, h2, -, h3⟩ := hcopies j hj; exact ⟨k, h1, h2, h3⟩) hapart
    (.start s w.kind p c) (hres.trans (by simp [State.stayed])) rfl
  rw [hlen] at hy
  rw [List.nil_append] at hyt hyres hyrec
  have hrow := exec_walk hw
  rw [State.walkStep_of_rest (x := y) (by rw [hp]; exact hy) (by rw [hycls]; exact c.isLt)] at hrow
  have hyqueue := hyt.own before rest (by rw [hqueue, List.append_assoc])
  have hadopt : (if s.queuesEmpty w.port then y.st else y.st.adoptIfEmpty w.port) = y.st := by
    rw [hp]
    split
    · rfl
    · unfold State.adoptIfEmpty
      rw [if_neg]
      rw [Bool.and_eq_true, State.queuesEmpty_iff]
      rintro ⟨-, h⟩
      rw [h c] at hyqueue
      have : tail ∈ ([] : List Nat) := by rw [hyqueue]; simp [hrest]
      cases this
  rw [hadopt] at hrow
  have howe := (y.st.setWalk (some { w with cls := y.cls, resume := y.resume })).oweEach_outside y.received
  have howeRing := (y.st.setWalk (some { w with cls := y.cls, resume := y.resume })).oweEach_egressPort y.received
  have howeQueues := (y.st.setWalk (some { w with cls := y.cls, resume := y.resume })).oweEach_queues y.received
  have hset := ((y.st.setWalk (some { w with cls := y.cls, resume := y.resume })).oweEach y.received).settle_outside s.freeCount
  have hrec := (SameRecords.refl ((y.st.setWalk (some { w with cls := y.cls, resume := y.resume })).oweEach y.received)).settle s.freeCount
  generalize (y.st.setWalk (some { w with cls := y.cls, resume := y.resume })).oweEach y.received = z at *
  generalize z.settle s.freeCount = x at *
  have hxqueue (q : Port) (b : Cls) : x.finish.queue q b = y.st.queue q b := by
    have h1 : x.queue q b = z.queue q b := State.queue_congr hset.queues q b
    refine h1.trans ?_
    unfold State.queue
    rw [howeQueues]
    rfl
  have hreceived (q : Port) : q ∈ y.received ↔ visited.any (fun j => decide (s.treatsTag w.kind p j = .moves q)) = true := by
    have hone (o : Visit) : q ∈ o.received ↔ o = .moves q := by cases o <;> simp [Visit.received, eq_comm]
    rw [hyrec]
    simp only [List.mem_flatMap, List.any_eq_true, decide_eq_true_iff, hone]
  have hring (q : Port) : x.finish.egressPort q =
      { s.egressPort q with
        owed := (s.egressPort q).owed + if visited.any (fun j => decide (s.treatsTag w.kind p j = .moves q)) then 1 else 0 } := by
    have h1 : x.egressPort q = z.egressPort q := State.ring_congr hset.queues q
    have h2 : (y.st.setWalk (some { w with cls := y.cls, resume := y.resume })).egressPort q = s.egressPort q :=
      egressPort_congr (s := s) hyt.egress q
    refine h1.trans ((howeRing q).trans ?_)
    rw [h2, if_congr (hreceived q) rfl rfl]
  have hrecords : SameRecords y.st x.finish :=
    .trans (.trans (.of_blocks (by rw [howe.cells]; rfl) (by rw [howe.admission]; rfl)) hrec) (.of_blocks rfl rfl)
  refine ⟨x.finish, hrow, ?_, ?_, fun b hb => ?_, ?_, fun q hq b => ?_, fun q _ => hring q, fun j hj => ?_, fun j hj => ?_, ?_, ?_⟩
  · show x.failover = _
    rw [hset.failover, howe.failover]
    show { y.st.failover with walk := some { w with cls := y.cls, resume := y.resume } } = _
    rw [hyt.outside.failover, hycls, hyres, List.getLast?_append, ← hres, ← hcls]
    rfl
  · rw [hxqueue, hyqueue, List.append_assoc]
    rfl
  · rw [hxqueue, hyt.classes p b hb]
  · rw [hring, if_neg]
    · rfl
    · rw [List.any_eq_true]
      rintro ⟨j, hj, hm⟩
      obtain ⟨k, hk, -, -, hfs⟩ := hcopies j hj
      obtain ⟨f, hf⟩ := Option.isSome_iff_exists.1 hfs
      rw [decide_eq_true_iff, State.treatsTag_eq hk hf] at hm
      exact State.treats_ne hm rfl
  · rw [hxqueue]
    by_cases hb : b = c
    · subst hb
      rw [if_pos rfl, hyt.others q hq]
    · rw [if_neg hb, List.append_nil, hyt.classes q b hb]
  · rw [hrecords.copy, hyt.untouched j hj]
  · rw [hrecords.copy]
    exact hyt.copies j hj
  · show x.acct = _
    rw [hset.acct, howe.acct]
    exact hyt.acct
  · have hwalk : y.st.sameOutside [.failover] (y.st.setWalk (some { w with cls := y.cls, resume := y.resume })) :=
      y.st.failover_outside _
    exact ((((hyt.outside.mono (by decide)).andThen hwalk).andThen howe).andThen hset).andThen (State.finish_outside x)

/-- Settles O32. -/
theorem walkStepsTreatLastCopy : Obligations.WalkStepsTreatLastCopy :=
  ⟨lastVisit, fun s w p c before visited rest tail _ => visitsSpent s w p c before visited rest tail, lastWalkEnds⟩

end Sys2Proof.Machine
end

section
/-! One posted copy of a reset port, handled as ABORTED (R109, R111, R143): what becomes of it, as `State.resetFate` says
(O54). -/
namespace Sys2Proof.Machine

/-! ## What the handling of a copy touches, whatever the records say -/

namespace Releases

variable (s : State)

theorem leavePort (first : Nat) (p : Port) : Releases s (s.leavePort first p) := by
  unfold State.leavePort
  split
  · exact refl s
  · exact ⟨(s.setFrame_outside _ _).mono (by decide), rfl, rfl, rfl, [], .of_eq rfl rfl rfl rfl rfl rfl rfl rfl rfl⟩

theorem setCopy (n : Nat) (k : Copy) : Releases s (s.setCopy n k) :=
  ⟨(s.setCopy_outside _ _).mono (by decide), rfl, rfl, rfl, [], .of_eq rfl rfl rfl rfl rfl rfl rfl rfl rfl⟩

theorem setQueue (p : Port) (c : Cls) (l : List Nat) : Releases s (s.setQueue p c l) :=
  ⟨(s.queues_outside _).mono (by decide), rfl, rfl, rfl, [], .of_eq rfl rfl rfl rfl rfl rfl rfl rfl rfl⟩

theorem hold (n : Nat) (k : Copy) (g : GroupId) : Releases s (s.hold n k g) :=
  (setCopy s n _).trans (setHeldCopies _ g _)

theorem lateAbort (tag : Nat) (k : Copy) (g : GroupId) : Releases s (s.lateAbort tag k g).1 := by
  have judged (u : State) (h : Releases s u) : Releases s
      (if u.walkWork then
        if u.holdCount < Config.holdRoom then (u.hold tag { k with port := none } g, none) else (u.retire tag .holdFull, none)
      else u.rechoose tag { k with port := none } g).1 := by
    split
    · split
      exacts [h.trans (hold _ _ _ _), h.trans (retire _ _ _)]
    · exact h.trans (rechoose _ _ _ _)
  unfold State.lateAbort
  cases k.port with
  | none => exact judged _ (setCopy s _ _)
  | some p => exact judged _ ((leavePort s _ p).trans (setCopy _ _ _))

theorem directReturn (p : Port) (tag : Nat) (k : Copy) : Releases s (s.directReturn p tag k) := by
  unfold State.directReturn
  split
  exacts [retire s _ _, (setCopy s _ _).trans (setQueue _ _ _ _)]

theorem resetAbort (p : Port) (acc : List Port) (tag : Nat) : Releases s (State.resetAbort p (s, acc) tag).1 := by
  unfold State.resetAbort
  split
  · exact refl s
  · unfold State.aborted
    dsimp only
    split
    exacts [lateAbort s _ _ _, directReturn s _ _ _]

theorem resetAborts (p : Port) (acc : List Port) (l : List Nat) : Releases s (l.foldl (State.resetAbort p) (s, acc)).1 := by
  induction l generalizing s acc with
  | nil => exact refl s
  | cons j l ih => exact (resetAbort s p acc j).trans (ih _ _)

end Releases

/-! ## The outcome for one copy -/

/-- The record of a copy behind its fate. -/
def ResetFate.record (k : Copy) : ResetFate → Option Copy
  | .returns => some { k with state := .queued }
  | .held _ => some { k with state := .held, port := none }
  | .joins q => some { k with state := .queued, port := some q }
  | .retired _ => none

/-- The frame record behind the fate of its copy on `p`. -/
def ResetFate.frameAfter (p : Port) (f : Frame) : ResetFate → Option Frame
  | .returns => some f
  | .held _ => some { f with ports := f.ports.filter (· ≠ p) }
  | .joins q => some { f with ports := addPort q (f.ports.filter (· ≠ p)) }
  | .retired _ => if 2 ≤ f.copyCount then some { f with copyCount := f.copyCount - 1, ports := f.ports.filter (· ≠ p) } else none

/-- The cells that the fate of a copy frees (R17). -/
def State.fateFreed (s : State) (k : Copy) (f : Frame) : ResetFate → List Nat
  | .retired _ => s.freedBy k.frame f
  | _ => []

/-- What the fate of a copy counts (R16). -/
def State.fateCount (s : State) (k : Copy) (f : Frame) : ResetFate → State
  | .retired cause => s.countRetired cause f k
  | _ => s

/-- The port whose queue the copy joins, or returns to the head of. -/
def ResetFate.received (p : Port) : ResetFate → List Port
  | .returns => [p]
  | .joins q => [q]
  | _ => []

/-- Posted copy `tag` of `p` has met its fate between `s` and `v`. -/
structure AbortedAs (s v : State) (p : Port) (tag : Nat) (k : Copy) (f : Frame) (fate : ResetFate) : Prop where
  copy : ∀ j, v.copy j = if j = tag then fate.record k else s.copy j
  frame : ∀ j, v.frame j = if j = k.frame then fate.frameAfter p f else s.frame j
  links : v.cells.links = Table.without s.cells.links (s.fateFreed k f fate)
  freeList : v.cells.freeList = Runs.pushAll s.cells.freeList (s.fateFreed k f fate)
  acct : v.acct = (s.fateCount k f fate).acct
  held : ∀ g, v.heldCopies g = s.heldCopies g ++ if fate = .held g then [tag] else []
  pool : Table.sorted s.failover.hold = true → Table.sorted v.failover.hold = true ∧
    v.holdCount = s.holdCount + if ∃ g, fate = .held g then 1 else 0
  queue : ∀ (q : Port) (c : Cls), v.queue q c =
    (if q = p ∧ fate = .returns ∧ c = k.cls then [tag] else []) ++
      (s.queue q c ++ if fate = .joins q ∧ c = k.cls then [tag] else [])

section
variable {s v : State} {p q : Port} {tag : Nat} {k : Copy} {f : Frame} {g : GroupId}

theorem AbortedAs.returns (hf : s.frame k.frame = some f) : AbortedAs s (s.requeued p tag k) p tag k f .returns where
  copy j := Table.find_put ..
  frame j := by
    show s.frame j = _
    split
    · subst_vars; exact hf
    · rfl
  links := rfl
  freeList := rfl
  acct := rfl
  held _ := by rw [if_neg (by simp), List.append_nil]; rfl
  pool h := ⟨h, by rw [if_neg (by simp)]; rfl⟩
  queue r c := by
    refine (State.setQueue_queue ..).trans ?_
    by_cases h : r = p ∧ c = k.cls
    · obtain ⟨rfl, rfl⟩ := h
      simp
    · rw [if_neg h, if_neg fun e => h ⟨e.1, e.2.2⟩]
      simp
      rfl

theorem State.holdCount_appended {u : State} (hso : Table.sorted s.failover.hold = true)
    (h : u.failover.hold = s.failover.hold.setD g (s.heldCopies g ++ [tag]) []) :
    Table.sorted u.failover.hold = true ∧ u.holdCount = s.holdCount + 1 := by
  have hsize : s.holdCount = (s.heldCopies g).length + holdSize (s.failover.hold.erase g) := holdSize_eq hso g
  refine ⟨by rw [h]; exact Table.sorted_setD _ _ _ _ hso, ?_⟩
  show holdSize u.failover.hold = _
  rw [h, holdSize_setD hso, List.length_append, List.length_singleton, hsize]
  omega

theorem AbortedAs.holds (hf : s.frame k.frame = some f) (g : GroupId) :
    AbortedAs s ((s.detached tag k p).hold tag { k with port := none } g) p tag k f (.held g) := by
  have hd := State.detached_eq (tag := tag) (p := p) hf
  have hcopy := State.detached_copy (tag := tag) (p := p) hf
  have hframe := State.detached_frame (tag := tag) (p := p) hf
  have hheld (h : GroupId) : (s.detached tag k p).heldCopies h = s.heldCopies h := by rw [hd]; rfl
  have hhold : ((s.detached tag k p).hold tag { k with port := none } g).failover.hold =
      s.failover.hold.setD g (s.heldCopies g ++ [tag]) [] := by
    unfold State.hold
    show (s.detached tag k p).failover.hold.setD g ((s.detached tag k p).heldCopies g ++ [tag]) [] = _
    rw [hheld, hd]
  refine ⟨fun j => ?_, hframe, ?_, ?_, ?_, fun h => ?_, fun hso => ?_, fun r c => ?_⟩
  · refine (Table.find_put ..).trans ?_
    by_cases hj : j = tag
    · rw [if_pos hj, if_pos hj]; rfl
    · rw [if_neg hj, if_neg hj]
      exact (hcopy j).trans (if_neg hj)
  · show (s.detached tag k p).cells.links = _
    rw [hd]; rfl
  · show (s.detached tag k p).cells.freeList = _
    rw [hd]; rfl
  · show (s.detached tag k p).acct = _
    rw [hd]; rfl
  · refine (State.setHeldCopies_heldCopies ..).trans ?_
    have hset (h : GroupId) : ((s.detached tag k p).setCopy tag { k with state := .held, port := none }).heldCopies h =
        s.heldCopies h := hheld h
    by_cases hg : h = g
    · subst hg
      rw [if_pos rfl, if_pos rfl, hheld]
    · rw [if_neg hg, if_neg (by simpa using fun e => hg e.symm), List.append_nil]
      exact hset h
  · obtain ⟨h1, h2⟩ := State.holdCount_appended hso hhold
    exact ⟨h1, by rw [h2, if_pos ⟨g, rfl⟩]⟩
  · have hq : ((s.detached tag k p).hold tag { k with port := none } g).queue r c = s.queue r c := by
      show (s.detached tag k p).queue r c = _
      rw [hd]; rfl
    rw [hq]
    simp

theorem AbortedAs.joins (hf : s.frame k.frame = some f) (q : Port) :
    AbortedAs s ((s.detached tag k p).appendQueued tag { k with port := none } q) p tag k f (.joins q) := by
  have hd := State.detached_eq (tag := tag) (p := p) hf
  have hfd : (s.detached tag k p).frame ({ k with port := none } : Copy).frame = some { f with ports := f.ports.filter (· ≠ p) } :=
    (State.detached_frame hf _).trans (if_pos rfl)
  have heq := State.appendQueued_eq (tag := tag) (q := q) hfd
  have hqueue := State.appendQueued_queue (tag := tag) (q := q) hfd
  generalize (s.detached tag k p).appendQueued tag { k with port := none } q = v at *
  have hhold : v.failover = s.failover := by rw [heq, hd]
  refine ⟨fun j => ?_, fun j => ?_, ?_, ?_, ?_, fun h => ?_, fun hso => ?_, fun r c => ?_⟩
  · rw [heq]
    refine (Table.find_put ..).trans ?_
    by_cases hj : j = tag
    · rw [if_pos hj, if_pos hj]; rfl
    · rw [if_neg hj, if_neg hj]
      exact (State.detached_copy hf j).trans (if_neg hj)
  · rw [heq]
    refine (Table.find_put ..).trans ?_
    by_cases hj : j = k.frame
    · rw [if_pos hj, if_pos hj]; rfl
    · rw [if_neg hj, if_neg hj]
      exact (State.detached_frame (tag := tag) hf j).trans (if_neg hj)
  · rw [heq, hd]; rfl
  · rw [heq, hd]; rfl
  · rw [heq, hd]; rfl
  · rw [if_neg (by simp), List.append_nil]
    unfold State.heldCopies
    rw [hhold]
  · refine ⟨by rw [hhold]; exact hso, ?_⟩
    rw [if_neg (by simp)]
    exact State.holdCount_congr (by rw [hhold])
  · have hs : (s.detached tag k p).queue q k.cls = s.queue q k.cls := by rw [hd]; rfl
    have hs' : (s.detached tag k p).queue r c = s.queue r c := by rw [hd]; rfl
    rw [hqueue]
    dsimp only
    rw [hs, hs']
    simp only [reduceCtorEq, false_and, and_false, if_false, List.nil_append, ResetFate.joins.injEq]
    by_cases hr : r = q ∧ c = k.cls
    · obtain ⟨rfl, rfl⟩ := hr
      rw [if_pos ⟨rfl, rfl⟩, if_pos ⟨rfl, rfl⟩]
    · rw [if_neg hr, if_neg fun e => hr ⟨e.1.symm, e.2⟩, List.append_nil]

theorem AbortedAs.retired {cause : RetireCause} (h : Retired s v tag k f cause) (hp : k.port = some p)
    (hlinks : v.cells.links = Table.without s.cells.links (s.freedBy k.frame f)) (hq : v.queues = s.queues)
    (hf : v.failover = s.failover) : AbortedAs s v p tag k f (.retired cause) where
  copy := h.copy
  frame j := by
    rw [h.frame, Copy.leaves_of_some hp]
    rfl
  links := hlinks
  freeList := h.freeList
  acct := h.acct
  held g := by
    rw [if_neg (by simp), List.append_nil]
    unfold State.heldCopies
    rw [hf]
  pool hso := by
    rw [if_neg (by simp)]
    exact ⟨by rw [hf]; exact hso, State.holdCount_congr (by rw [hf])⟩
  queue r c := by
    rw [State.queue_congr hq]
    simp

theorem AbortedAs.retire (hk : s.copy tag = some k) (hp : k.port = some p) (hf : s.frame k.frame = some f) (cause : RetireCause) :
    AbortedAs s (s.retire tag cause) p tag k f (.retired cause) :=
  .retired (State.retire_retired hk hf cause) hp (State.retire_links hk hf cause) (s.retire_outside tag cause).queues
    (s.retire_outside tag cause).failover

theorem AbortedAs.detached (hp : k.port = some p) (hf : s.frame k.frame = some f) (cause : RetireCause) :
    AbortedAs s ((s.detached tag k p).retire tag cause) p tag k f (.retired cause) := by
  have hk' : (s.detached tag k p).copy tag = some { k with port := none } := by rw [State.detached_copy hf, if_pos rfl]
  have hf' : (s.detached tag k p).frame ({ k with port := none } : Copy).frame = some { f with ports := f.ports.filter (· ≠ p) } := by
    rw [State.detached_frame hf, if_pos rfl]
  have hlinks := State.retire_links hk' hf' cause
  have hout := State.detached_retire_outside (tag := tag) (p := p) hf cause
  have hfreed : (s.detached tag k p).freedBy k.frame { f with ports := f.ports.filter (· ≠ p) } = s.freedBy k.frame f := by
    rw [State.detached_eq hf]; rfl
  have hsame : (s.detached tag k p).cells.links = s.cells.links := by rw [State.detached_eq hf]
  dsimp only at hlinks
  rw [hfreed, hsame] at hlinks
  exact .retired (State.detached_retired hp hf cause) hp hlinks hout.queues hout.failover

/-- The handling of an ABORTED copy is its fate, the room in the pool given. -/
theorem State.aborted_as (hk : s.copy tag = some k) (hp : k.port = some p) (hf : s.frame k.frame = some f) {room : Bool}
    (hroom : k.via.isSome = true → s.walkWork = true → room = decide (s.holdCount < 4096)) :
    AbortedAs s (s.aborted p tag k).1 p tag k f (s.resetFate p room k f) ∧
      (if k.via.isNone && !s.isDrained p then [p] else (s.aborted p tag k).2.toList) =
        (s.resetFate p room k f).received p := by
  unfold State.resetFate
  cases hv : k.via with
  | none =>
    rw [State.aborted_of_direct hv]
    cases hd : s.isDrained p with
    | true =>
      rw [State.directReturn_of_drained hd]
      exact ⟨.retire hk hp hf .portDown, rfl⟩
    | false =>
      rw [State.directReturn_of_clear hd]
      exact ⟨.returns hf, rfl⟩
  | some g =>
    have hww : (s.detached tag k p).walkWork = s.walkWork := by rw [State.detached_eq hf]; rfl
    have hcount : (s.detached tag k p).holdCount = s.holdCount := by rw [State.detached_eq hf]; rfl
    rw [State.aborted_of_via hv, State.lateAbort_of_port hp, hww, hcount, State.rechoose_detached hf]
    dsimp only
    by_cases hw : s.walkWork = true
    · rw [if_pos hw, if_pos (s.walkWork_iff.1 hw), hroom (by rw [hv]; rfl) hw]
      by_cases hh : s.holdCount < 4096
      · rw [if_pos (show s.holdCount < Config.holdRoom from hh), if_pos (decide_eq_true hh)]
        exact ⟨.holds hf g, rfl⟩
      · rw [if_neg (show ¬s.holdCount < Config.holdRoom from hh), if_neg (by simpa using hh)]
        exact ⟨.detached hp hf .holdFull, rfl⟩
    · rw [if_neg hw, if_neg fun h => hw (s.walkWork_iff.2 h)]
      cases hm : s.memberChoice g f.flowHash with
      | none => exact ⟨.detached hp hf .noPath, rfl⟩
      | some q =>
        dsimp only
        by_cases hq : q ∈ f.ports.filter (· ≠ p)
        · rw [if_pos hq, if_pos hq]
          exact ⟨.detached hp hf .merged, rfl⟩
        · rw [if_neg hq, if_neg hq]
          exact ⟨.joins hf q, rfl⟩

end

end Sys2Proof.Machine
end

section
/-! The posted copies of a reset port, one after another: the via-group copies, oldest post first, then the direct ones, newest
first (R111, R144). -/
namespace Sys2Proof.Machine

/-! ## The room in the hold pool -/

theorem length_filter_take {l m : List Nat} {j n : Nat} (hnd : (l ++ j :: m).Nodup) :
    (l.filter fun i => decide (i ∈ (l ++ j :: m).take n)).length = min l.length n ∧
      (j ∈ (l ++ j :: m).take n ↔ l.length < n) := by
  have hj : j ∉ l := fun h => (List.nodup_append.1 hnd).2.2 j h j (by simp) rfl
  by_cases hn : n ≤ l.length
  · rw [List.take_append_of_le_length hn]
    have hmem : ∀ i ∈ l.drop n, i ∉ l.take n := fun i hd ht => by
      have hl := (List.nodup_append.1 hnd).1
      rw [← List.take_append_drop n l] at hl
      exact (List.nodup_append.1 hl).2.2 i ht i hd rfl
    have hfilter : (l.filter fun i => decide (i ∈ l.take n)) = l.take n := by
      conv_lhs => rw [← List.take_append_drop n l]
      rw [List.filter_append, List.filter_eq_self.2 fun i hi => by
        rw [List.take_append_drop]; exact decide_eq_true hi, List.filter_eq_nil_iff.2 fun i hi => by
        rw [List.take_append_drop, decide_eq_true_iff]; exact hmem i hi, List.append_nil]
    refine ⟨by rw [hfilter, List.length_take, Nat.min_comm], iff_of_false (fun h => hj (List.mem_of_mem_take h)) (by omega)⟩
  · have htake : l ++ [j] <+: (l ++ j :: m).take n := by
      rw [show l ++ j :: m = (l ++ [j]) ++ m by simp, List.take_append]
      rw [List.take_of_length_le (by rw [List.length_append, List.length_singleton]; omega)]
      exact List.prefix_append _ _
    have hsub := htake.sublist.subset
    refine ⟨?_, iff_of_true (hsub (by simp)) (by omega)⟩
    rw [List.filter_eq_self.2 fun i hi => decide_eq_true (hsub (List.mem_append_left _ hi))]
    omega

/-! ## The copies so far -/

/-- The fate of a copy holds it. -/
def ResetFate.holds : ResetFate → Bool
  | .held _ => true
  | _ => false

/-- The copies `l` posted on `p` have met their fates between `e` and `u`, in this order; `acc` are the ports named. -/
structure Aborts (e : State) (p : Port) (via l : List Nat) (u : State) (acc : List Port) : Prop where
  copy : ∀ j, j ∉ l → u.copy j = e.copy j
  met : ∀ j ∈ l, ∀ k, e.copy j = some k → ∀ f, e.frame k.frame = some f → ∀ fate, e.resetFateOf p via j = some fate →
    u.copy j = fate.record k ∧ u.frame k.frame = fate.frameAfter p f
  frame : ∀ first, (∀ j ∈ l, e.frameKey j ≠ some first) → u.frame first = e.frame first
  links : u.cells.links = Table.without e.cells.links (l.flatMap (e.resetFreed p via))
  freeList : u.cells.freeList = Runs.pushAll e.cells.freeList (l.flatMap (e.resetFreed p via))
  acct : u.acct = (l.foldl (e.resetCount p via) e).acct
  held : ∀ g, u.heldCopies g = e.heldCopies g ++ l.filter fun j => decide (e.resetFateOf p via j = some (.held g))
  pool : Table.sorted e.failover.hold = true → Table.sorted u.failover.hold = true ∧
    u.holdCount = e.holdCount + (l.filter fun j => (e.resetFateOf p via j).any ResetFate.holds).length
  queue : ∀ (q : Port) (c : Cls), u.queue q c =
    (if q = p then
        (l.filter fun j => decide (e.resetFateOf p via j = some .returns ∧ (e.copy j).map (fun k => k.cls) = some c)).reverse
      else []) ++
      (e.queue q c ++ l.filter fun j =>
        decide (e.resetFateOf p via j = some (.joins q) ∧ (e.copy j).map (fun k => k.cls) = some c))
  received : acc = l.flatMap fun j => ((e.resetFateOf p via j).map (·.received p)).getD []

section
variable {e u : State} {p : Port} {via l : List Nat} {acc : List Port}

theorem Aborts.start (e : State) (p : Port) (via : List Nat) : Aborts e p via [] e [] where
  copy _ _ := rfl
  met _ h := absurd h List.not_mem_nil
  frame _ _ := rfl
  links := rfl
  freeList := rfl
  acct := rfl
  held _ := (List.append_nil _).symm
  pool h := ⟨h, rfl⟩
  queue q c := by simp
  received := rfl

theorem State.resetCount_tables (e : State) (p : Port) (via : List Nat) (a : State) (l : List Nat) :
    (l.foldl (e.resetCount p via) a).tables = a.tables := by
  induction l generalizing a with
  | nil => rfl
  | cons j l ih =>
    rw [List.foldl_cons, ih]
    unfold State.resetCount State.countTag
    split
    · split
      · rfl
      · split
        · rfl
        · rw [State.countRetired_eq]
    · rfl

theorem State.resetFateOf_of {s : State} {j : Nat} {k : Copy} {f : Frame} (hk : s.copy j = some k) (hf : s.frame k.frame = some f) :
    s.resetFateOf p via j = some (s.resetFate p (decide (j ∈ via.take (4096 - s.holdCount))) k f) := by
  unfold State.resetFateOf
  rw [hk, Option.bind_some, hf]
  rfl

/-- What the fates of copies are judged by stands through the releases of others. -/
theorem Releases.resetFate {s v : State} (h : Releases s v) (p : Port) (room : Bool) (k : Copy) (f : Frame) :
    v.resetFate p room k f = s.resetFate p room k f := by
  have hd : v.isDrained p = s.isDrained p := by unfold State.isDrained; rw [h.failover]
  have hw : v.failover.work = s.failover.work := by rw [h.failover]
  have hk : v.failover.walk = s.failover.walk := by rw [h.failover]
  unfold State.resetFate
  simp only [hd, hw, hk, State.memberChoice_congr h.outside.tables (by rw [h.outside.live])]

theorem filter_snoc {P : Nat → Bool} {j : Nat} : (l ++ [j]).filter P = l.filter P ++ if P j = true then [j] else [] := by
  rw [List.filter_append, List.filter_cons, List.filter_nil]

/-- One copy more, of another frame, the room in the pool being what the fates say. -/
theorem Aborts.next {j : Nat} {k : Copy} {f : Frame} (h : Aborts e p via l u acc) (hr : Releases e u) (hk : e.copy j = some k)
    (hp : k.port = some p) (hf : e.frame k.frame = some f) (hj : j ∉ l)
    (hapart : ∀ i ∈ l, e.frameKey i ≠ some k.frame) (hcells : ((l ++ [j]).flatMap (e.resetFreed p via)).Nodup)
    (hroom : k.via.isSome = true → u.walkWork = true →
      decide (j ∈ via.take (4096 - e.holdCount)) = decide (u.holdCount < 4096)) :
    Aborts e p via (l ++ [j]) (State.resetAbort p (u, acc) j).1 (State.resetAbort p (u, acc) j).2 := by
  have huk : u.copy j = some k := (h.copy j hj).trans hk
  have huf : u.frame k.frame = some f := (h.frame _ hapart).trans hf
  have hkey : e.frameKey j = some k.frame := by unfold State.frameKey; rw [hk]; rfl
  obtain ⟨ha, hrec⟩ := State.aborted_as huk hp huf hroom
  have hfate := State.resetFateOf_of (p := p) (via := via) hk hf
  rw [hr.resetFate] at ha hrec
  generalize e.resetFate p (decide (j ∈ via.take (4096 - e.holdCount))) k f = fate at *
  have hstep : State.resetAbort p (u, acc) j = ((u.aborted p j k).1, acc ++ fate.received p) := by
    unfold State.resetAbort
    dsimp only
    rw [huk]
    dsimp only
    rw [hrec]
  rw [hstep]
  dsimp only
  have hfreed : u.fateFreed k f fate = e.resetFreed p via j := by
    rw [List.flatMap_append, List.flatMap_singleton] at hcells
    obtain ⟨-, hnd, hdis⟩ := List.nodup_append.1 hcells
    unfold State.resetFreed at hnd hdis ⊢
    rw [hfate] at hnd hdis ⊢
    cases fate with
    | retired cause =>
      show u.freedBy k.frame f = e.freedByTag j
      dsimp only at hnd hdis
      rw [State.freedByTag_of hk hf] at hnd hdis ⊢
      unfold State.freedBy at hnd hdis ⊢
      by_cases h2 : 2 ≤ f.copyCount
      · rw [if_pos h2, if_pos h2]
      · rw [if_neg h2] at hnd hdis
        rw [if_neg h2, if_neg h2]
        exact State.frameCells_without h.links hnd fun x hx hin => hdis x hin x hx rfl
    | returns | held _ | joins _ => rfl
  have hcount : e.resetCount p via (l.foldl (e.resetCount p via) e) j = (l.foldl (e.resetCount p via) e).fateCount k f fate := by
    unfold State.resetCount
    rw [hfate]
    cases fate with
    | retired cause => exact State.countTag_of hk hf cause
    | returns | held _ | joins _ => rfl
  have hacct : (u.fateCount k f fate).acct = ((l.foldl (e.resetCount p via) e).fateCount k f fate).acct := by
    cases fate with
    | retired cause =>
      exact State.countRetired_acct_congr h.acct (by rw [hr.outside.tables, State.resetCount_tables]) cause f f.ports k
    | returns | held _ | joins _ => exact h.acct
  refine ⟨fun i hi => ?_, fun i hi k' hk' f' hf' fate' hfate' => ?_, fun first hfirst => ?_, ?_, ?_, ?_, fun g => ?_, fun hso => ?_,
    fun q c => ?_, ?_⟩
  · obtain ⟨hil, hij⟩ := not_or.1 (mt List.mem_append.2 hi)
    rw [ha.copy, if_neg (by simpa using hij), h.copy i hil]
  · rcases List.mem_append.1 hi with hil | hij
    · have hne : i ≠ j := fun e => hj (e ▸ hil)
      have hframe : k'.frame ≠ k.frame := fun e' => hapart i hil (by
        unfold State.frameKey
        rw [hk', ← e']
        rfl)
      obtain ⟨h1, h2⟩ := h.met i hil k' hk' f' hf' fate' hfate'
      rw [ha.copy, if_neg hne, ha.frame, if_neg hframe]
      exact ⟨h1, h2⟩
    · rw [List.mem_singleton.1 hij] at hk' hfate' ⊢
      rw [hk] at hk'
      cases hk'
      rw [hf] at hf'
      cases hf'
      rw [hfate] at hfate'
      cases hfate'
      rw [ha.copy, if_pos rfl, ha.frame, if_pos rfl]
      exact ⟨rfl, rfl⟩
  · have hne : first ≠ k.frame := fun e' => hfirst j (by simp) (by rw [hkey, e'])
    rw [ha.frame, if_neg hne, h.frame first fun i hi => hfirst i (List.mem_append_left _ hi)]
  · rw [ha.links, hfreed, h.links, ← Table.without_append, List.flatMap_append, List.flatMap_singleton]
  · rw [ha.freeList, hfreed, h.freeList, ← Runs.pushAll_append, List.flatMap_append, List.flatMap_singleton]
  · rw [ha.acct, hacct, List.foldl_append, List.foldl_cons, List.foldl_nil, hcount]
  · rw [ha.held, h.held, filter_snoc, hfate, List.append_assoc]
    simp only [decide_eq_true_iff, Option.some.injEq]
  · obtain ⟨h1, h2⟩ := h.pool hso
    obtain ⟨h3, h4⟩ := ha.pool h1
    refine ⟨h3, ?_⟩
    rw [h4, h2, filter_snoc, hfate, List.length_append]
    cases fate <;> simp [ResetFate.holds, Nat.add_assoc]
  · rw [ha.queue, h.queue, filter_snoc, filter_snoc, hfate, hk]
    simp only [decide_eq_true_iff, Option.some.injEq, Option.map_some, List.reverse_append]
    by_cases hq : q = p
    · subst hq
      by_cases hc : k.cls = c
      · subst hc
        cases fate <;> simp
      · have hc' : ¬c = k.cls := fun e => hc e.symm
        cases fate <;> simp [hc, hc']
    · by_cases hc : k.cls = c
      · subst hc
        simp [hq]
      · have hc' : ¬c = k.cls := fun e => hc e.symm
        simp [hq, hc, hc']
  · rw [h.received, List.flatMap_append, List.flatMap_singleton, hfate]
    rfl

/-- All of them, in their order. -/
theorem Aborts.fold {direct m : List Nat} (h : Aborts e p via l u acc) (hr : Releases e u) (horder : l ++ m = via ++ direct)
    (hso : Table.sorted e.failover.hold = true) (hnd : (via ++ direct).Nodup)
    (hvia : ∀ j ∈ via, ∀ k, e.copy j = some k → k.via.isSome = true)
    (hdirect : ∀ j ∈ direct, ∀ k, e.copy j = some k → k.via = none)
    (hcopies : ∀ j ∈ via ++ direct, ∃ k, e.copy j = some k ∧ k.port = some p ∧ (e.frame k.frame).isSome = true)
    (hapart : (via ++ direct).Pairwise fun i j => e.frameKey i ≠ e.frameKey j)
    (hcells : ((via ++ direct).flatMap (e.resetFreed p via)).Nodup) :
    Aborts e p via (l ++ m) (m.foldl (State.resetAbort p) (u, acc)).1 (m.foldl (State.resetAbort p) (u, acc)).2 ∧
      Releases e (m.foldl (State.resetAbort p) (u, acc)).1 := by
  induction m generalizing l u acc with
  | nil => rw [List.append_nil]; exact ⟨h, hr⟩
  | cons j m ih =>
    have hmem : j ∈ via ++ direct := by rw [← horder]; simp
    obtain ⟨k, hk, hp, hfs⟩ := hcopies j hmem
    obtain ⟨f, hf⟩ := Option.isSome_iff_exists.1 hfs
    have hj : j ∉ l := fun hl => by
      rw [← horder] at hnd
      exact (List.nodup_append.1 hnd).2.2 j hl j List.mem_cons_self rfl
    have hpair : ∀ i ∈ l, e.frameKey i ≠ some k.frame := fun i hi => by
      rw [← horder] at hapart
      have := (List.pairwise_append.1 hapart).2.2 i hi j List.mem_cons_self
      have hkey : e.frameKey j = some k.frame := by unfold State.frameKey; rw [hk]; rfl
      rwa [hkey] at this
    have hfreed : ((l ++ [j]).flatMap (e.resetFreed p via)).Nodup := by
      rw [← horder, show l ++ j :: m = (l ++ [j]) ++ m by simp, List.flatMap_append] at hcells
      exact (List.nodup_append.1 hcells).1
    have hroom : k.via.isSome = true → u.walkWork = true →
        decide (j ∈ via.take (4096 - e.holdCount)) = decide (u.holdCount < 4096) := fun hv hw => by
      obtain ⟨m', hm'⟩ : ∃ m', via = l ++ j :: m' := by
        rcases List.append_eq_append_iff.1 horder with ⟨a, ha, hb⟩ | ⟨c, hc, hd⟩
        · cases a with
          | nil =>
            have hin : j ∈ direct := by
              rw [List.nil_append] at hb
              rw [← hb]
              exact List.mem_cons_self
            rw [hdirect j hin k hk] at hv
            cases hv
          | cons a as =>
            rw [List.cons_append] at hb
            obtain ⟨rfl, -⟩ := List.cons.inj hb
            exact ⟨as, ha⟩
        · have hin : j ∈ direct := by rw [hd]; simp
          rw [hdirect j hin k hk] at hv
          cases hv
      have hvnd : (l ++ j :: m').Nodup := hm' ▸ (List.nodup_append.1 hnd).1
      obtain ⟨hlen, hiff⟩ := length_filter_take (n := 4096 - e.holdCount) hvnd
      have hheld : (l.filter fun i => (e.resetFateOf p via i).any ResetFate.holds) =
          l.filter fun i => decide (i ∈ (l ++ j :: m').take (4096 - e.holdCount)) := by
        refine List.filter_congr fun i hi => ?_
        have hivia : i ∈ via := by rw [hm']; exact List.mem_append_left _ hi
        obtain ⟨k', hk', -, hfs'⟩ := hcopies i (List.mem_append_left _ hivia)
        obtain ⟨f', hf'⟩ := Option.isSome_iff_exists.1 hfs'
        obtain ⟨g, hg⟩ := Option.isSome_iff_exists.1 (hvia i hivia k' hk')
        have hwe : e.failover.work ≠ [] ∨ e.failover.walk.isSome = true := by
          refine e.walkWork_iff.1 ?_
          unfold State.walkWork at hw ⊢
          rwa [hr.failover] at hw
        rw [State.resetFateOf_of hk' hf', ← hm']
        unfold State.resetFate
        rw [hg]
        dsimp only
        rw [if_pos hwe]
        by_cases hin : i ∈ via.take (4096 - e.holdCount)
        · rw [decide_eq_true hin]; rfl
        · rw [decide_eq_false hin]; rfl
      rw [decide_eq_decide, (h.pool hso).2, hheld, hlen, hm', hiff]
      omega
    have hnext := h.next hr hk hp hf hj hpair hfreed hroom
    have hrel : Releases e (State.resetAbort p (u, acc) j).1 := hr.trans (Releases.resetAbort u p acc j)
    have := ih hnext hrel (by rw [List.append_assoc]; exact horder)
    rw [List.append_assoc] at this
    exact this

end

end Sys2Proof.Machine
end

section
/-! A reset with room in the hold pool, or without via-group copies: what becomes of the posted copies whatever their frames say
(R109, R142, R144). -/
namespace Sys2Proof.Machine

section
variable {s : State} {p : Port} {tag : Nat} {k : Copy} {g : GroupId}

/-- A late abort while there is evacuation work and room in the pool: the copy is HELD (R143). -/
theorem State.lateAbort_holds (hw : s.walkWork = true) (hh : s.holdCount < 4096) (tag : Nat) (k : Copy) (g : GroupId) :
    ∃ u : State, u = { s with cells := { s.cells with frames := u.cells.frames } } ∧
      s.lateAbort tag k g = ((u.setCopy tag { k with port := none }).hold tag { k with port := none } g, none) := by
  obtain ⟨u, hu, hframes⟩ : ∃ u : State, u = (match k.port with | some p => s.leavePort k.frame p | none => s) ∧
      u = { s with cells := { s.cells with frames := u.cells.frames } } := by
    refine ⟨_, rfl, ?_⟩
    unfold State.leavePort
    split
    · split <;> rfl
    · rfl
  have hwork : (u.setCopy tag { k with port := none }).walkWork = true := by rw [hframes]; exact hw
  have hroom : (u.setCopy tag { k with port := none }).holdCount < Config.holdRoom := by rw [hframes]; exact hh
  refine ⟨u, hframes, ?_⟩
  have hjudged : (if (u.setCopy tag { k with port := none }).walkWork then
        if (u.setCopy tag { k with port := none }).holdCount < Config.holdRoom then
          ((u.setCopy tag { k with port := none }).hold tag { k with port := none } g, none)
        else ((u.setCopy tag { k with port := none }).retire tag .holdFull, none)
      else (u.setCopy tag { k with port := none }).rechoose tag { k with port := none } g) =
      ((u.setCopy tag { k with port := none }).hold tag { k with port := none } g, none) := by
    rw [if_pos hwork, if_pos hroom]
  rw [← hjudged, hu]
  rfl

end

/-- The copies `l` posted on `p` have been handled between `e` and `u`: the via-group ones HELD, the direct ones returned, or
retired on a drained port. -/
structure Parted (e : State) (p : Port) (l : List Nat) (u : State) : Prop where
  releases : Releases e u
  copy : ∀ j, j ∉ l → u.copy j = e.copy j
  heldCopy : ∀ j ∈ l, ∀ k, e.copy j = some k → k.via.isSome = true → u.copy j = some { k with state := .held, port := none }
  directCopy : ∀ j ∈ l, ∀ k, e.copy j = some k → k.via = none →
    u.copy j = if e.isDrained p then none else some { k with state := .queued }
  held : ∀ g : GroupId, u.heldCopies g = e.heldCopies g ++ l.filter fun j => decide ((e.copy j).bind (fun k => k.via) = some g)
  pool : Table.sorted u.failover.hold = true ∧ u.holdCount = e.holdCount + (l.filter e.isVia).length
  queue : ∀ (q : Port) (c : Cls), u.queue q c =
    (if q = p ∧ e.isDrained p = false then
      (l.filter fun j => !e.isVia j && decide ((e.copy j).map (fun k => k.cls) = some c)).reverse else []) ++ e.queue q c

section
variable {e u : State} {p : Port} {l : List Nat} {acc : List Port}

theorem Parted.start (hso : Table.sorted e.failover.hold = true) : Parted e p [] e where
  releases := .refl e
  copy _ _ := rfl
  heldCopy _ h := absurd h List.not_mem_nil
  directCopy _ h := absurd h List.not_mem_nil
  held _ := (List.append_nil _).symm
  pool := ⟨hso, rfl⟩
  queue q c := by simp

theorem State.isVia_of {j : Nat} {k : Copy} (hk : e.copy j = some k) : e.isVia j = k.via.isSome := by
  unfold State.isVia
  rw [hk]

/-- One copy more. -/
theorem Parted.next {j : Nat} (h : Parted e p l u) (hj : j ∉ l)
    (hroom : e.isVia j = true → e.walkWork = true ∧ u.holdCount < 4096) :
    Parted e p (l ++ [j]) (State.resetAbort p (u, acc) j).1 := by
  have hrel := h.releases.trans (Releases.resetAbort u p acc j)
  have huj : u.copy j = e.copy j := h.copy j hj
  cases hk : e.copy j with
  | none =>
    have hstep : State.resetAbort p (u, acc) j = (u, acc) := by
      unfold State.resetAbort
      dsimp only
      rw [huj, hk]
    have hvia : e.isVia j = false := by unfold State.isVia; rw [hk]
    rw [hstep]
    refine ⟨h.releases, fun i hi => h.copy i fun hl => hi (List.mem_append_left _ hl), fun i hi k hk' => ?_, fun i hi k hk' => ?_,
      fun g => ?_, ?_, fun q c => ?_⟩
    · rcases List.mem_append.1 hi with hi | hi
      · exact h.heldCopy i hi k hk'
      · rw [List.mem_singleton.1 hi, hk] at hk'; cases hk'
    · rcases List.mem_append.1 hi with hi | hi
      · exact h.directCopy i hi k hk'
      · rw [List.mem_singleton.1 hi, hk] at hk'; cases hk'
    · rw [filter_snoc, hk]
      simpa using h.held g
    · rw [filter_snoc, hvia]
      simpa using h.pool
    · rw [filter_snoc, hk]
      simpa using h.queue q c
  | some k =>
    rw [hk] at huj
    have hstep : (State.resetAbort p (u, acc) j).1 = (u.aborted p j k).1 := by
      unfold State.resetAbort
      dsimp only
      rw [huj]
    have hisVia := State.isVia_of hk
    cases hv : k.via with
    | some g =>
      have hvia : e.isVia j = true := by rw [hisVia, hv]; rfl
      obtain ⟨hw, hh⟩ := hroom hvia
      have huw : u.walkWork = true := by
        unfold State.walkWork at hw ⊢
        rwa [h.releases.failover]
      obtain ⟨y, hy, hlate⟩ := State.lateAbort_holds huw hh j k g
      have hab : (State.resetAbort p (u, acc) j).1 = (y.setCopy j { k with port := none }).hold j { k with port := none } g := by
        rw [hstep, State.aborted_of_via hv, hlate]
      rw [hab] at hrel ⊢
      have hcopy (i : Nat) : ((y.setCopy j { k with port := none }).hold j { k with port := none } g).copy i =
          if i = j then some { k with state := .held, port := none } else u.copy i := by
        refine (Table.find_put ..).trans ?_
        by_cases hi : i = j
        · rw [if_pos hi, if_pos hi]
        · rw [if_neg hi, if_neg hi]
          refine (Table.find_put ..).trans ((if_neg hi).trans ?_)
          rw [hy]
          rfl
      have hheld (m : GroupId) : ((y.setCopy j { k with port := none }).hold j { k with port := none } g).heldCopies m =
          if m = g then u.heldCopies g ++ [j] else u.heldCopies m := by
        have hsame (m : GroupId) : y.heldCopies m = u.heldCopies m := by rw [hy]; rfl
        refine (State.setHeldCopies_heldCopies ..).trans ?_
        by_cases hm : m = g
        · rw [if_pos hm, if_pos hm]
          exact congrArg (· ++ [j]) (hsame g)
        · rw [if_neg hm, if_neg hm]
          exact hsame m
      have hpool : ((y.setCopy j { k with port := none }).hold j { k with port := none } g).failover.hold =
          u.failover.hold.setD g (u.heldCopies g ++ [j]) [] := by rw [hy]; rfl
      have hqueue (q : Port) (c : Cls) :
          ((y.setCopy j { k with port := none }).hold j { k with port := none } g).queue q c = u.queue q c := by rw [hy]; rfl
      generalize (y.setCopy j { k with port := none }).hold j { k with port := none } g = v at *
      refine ⟨hrel, fun i hi => ?_, fun i hi k' hk' hv' => ?_, fun i hi k' hk' hv' => ?_, fun m => ?_, ?_, fun q c => ?_⟩
      · obtain ⟨hil, hij⟩ := not_or.1 (mt List.mem_append.2 hi)
        rw [hcopy, if_neg (by simpa using hij), h.copy i hil]
      · rw [hcopy]
        by_cases hij : i = j
        · rw [hij, hk] at hk'
          cases hk'
          rw [if_pos hij]
        · rw [if_neg hij]
          exact h.heldCopy i ((List.mem_append.1 hi).resolve_right (by simpa using hij)) k' hk' hv'
      · rw [hcopy]
        by_cases hij : i = j
        · rw [hij, hk] at hk'
          cases hk'
          rw [hv] at hv'
          cases hv'
        · rw [if_neg hij]
          exact h.directCopy i ((List.mem_append.1 hi).resolve_right (by simpa using hij)) k' hk' hv'
      · rw [hheld, filter_snoc, hk, Option.bind_some, hv, h.held g, h.held m]
        by_cases hm : m = g
        · subst hm; simp
        · have hm' : ¬g = m := fun e => hm e.symm
          simp [hm, hm']
      · obtain ⟨h1, h2⟩ := State.holdCount_appended h.pool.1 hpool
        refine ⟨h1, ?_⟩
        rw [h2, h.pool.2, filter_snoc, if_pos hvia, List.length_append, List.length_singleton, Nat.add_assoc]
      · rw [hqueue, h.queue, filter_snoc, hvia]
        simp
    | none =>
      have hvia : e.isVia j = false := by rw [hisVia, hv]; rfl
      have hdrain : u.isDrained p = e.isDrained p := by unfold State.isDrained; rw [h.releases.failover]
      have hab : (State.resetAbort p (u, acc) j).1 = u.directReturn p j k := by
        rw [hstep, State.aborted_of_direct hv]
      rw [hab] at hrel ⊢
      have hcopy (i : Nat) : (u.directReturn p j k).copy i =
          if i = j then if e.isDrained p then none else some { k with state := .queued } else u.copy i := by
        cases hd : e.isDrained p with
        | true =>
          rw [State.directReturn_of_drained (hdrain.trans hd), State.retire_copy]
          rfl
        | false =>
          rw [State.directReturn_of_clear (hdrain.trans hd)]
          exact Table.find_put ..
      have hfail : (u.directReturn p j k).failover = u.failover := by
        unfold State.directReturn
        split
        exacts [(u.retire_outside _ _).failover, rfl]
      have hqueue (q : Port) (c : Cls) : (u.directReturn p j k).queue q c =
          (if q = p ∧ e.isDrained p = false ∧ c = k.cls then [j] else []) ++ u.queue q c := by
        cases hd : e.isDrained p with
        | true =>
          rw [State.directReturn_of_drained (hdrain.trans hd), State.queue_congr (u.retire_outside _ _).queues]
          simp
        | false =>
          rw [State.directReturn_of_clear (hdrain.trans hd)]
          refine (State.setQueue_queue ..).trans ?_
          by_cases hqc : q = p ∧ c = k.cls
          · obtain ⟨rfl, rfl⟩ := hqc
            rw [if_pos ⟨rfl, rfl⟩, if_pos ⟨rfl, rfl, rfl⟩]
            rfl
          · rw [if_neg hqc, if_neg fun e => hqc ⟨e.1, e.2.2⟩]
            rfl
      generalize u.directReturn p j k = v at *
      refine ⟨hrel, fun i hi => ?_, fun i hi k' hk' hv' => ?_, fun i hi k' hk' hv' => ?_, fun m => ?_, ?_, fun q c => ?_⟩
      · obtain ⟨hil, hij⟩ := not_or.1 (mt List.mem_append.2 hi)
        rw [hcopy, if_neg (by simpa using hij), h.copy i hil]
      · rw [hcopy]
        by_cases hij : i = j
        · rw [hij, hk] at hk'
          cases hk'
          rw [hv] at hv'
          cases hv'
        · rw [if_neg hij]
          exact h.heldCopy i ((List.mem_append.1 hi).resolve_right (by simpa using hij)) k' hk' hv'
      · rw [hcopy]
        by_cases hij : i = j
        · rw [hij, hk] at hk'
          cases hk'
          rw [if_pos hij]
        · rw [if_neg hij]
          exact h.directCopy i ((List.mem_append.1 hi).resolve_right (by simpa using hij)) k' hk' hv'
      · have hm : v.heldCopies m = u.heldCopies m := by unfold State.heldCopies; rw [hfail]
        rw [hm, h.held m, filter_snoc, hk, Option.bind_some, hv]
        simp
      · refine ⟨by rw [hfail]; exact h.pool.1, ?_⟩
        rw [State.holdCount_congr (s := u) (by rw [hfail]), h.pool.2, filter_snoc, hvia]
        simp
      · rw [hqueue, h.queue, filter_snoc, hvia, hk]
        by_cases hqp : q = p ∧ e.isDrained p = false
        · obtain ⟨rfl, hd⟩ := hqp
          by_cases hc : c = k.cls
          · subst hc; simp [hd]
          · have hc' : ¬k.cls = c := fun e => hc e.symm
            simp [hd, hc, hc']
        · rw [if_neg hqp, if_neg hqp, if_neg fun e => hqp ⟨e.1, e.2.1⟩]
          rfl

/-- All of them, the pool having room for the via-group copies. -/
theorem Parted.fold {m : List Nat} (h : Parted e p l u) (hnd : (l ++ m).Nodup)
    (hroom : (l ++ m).filter e.isVia = [] ∨ e.walkWork = true ∧ e.holdCount + ((l ++ m).filter e.isVia).length ≤ 4096) :
    Parted e p (l ++ m) (m.foldl (State.resetAbort p) (u, acc)).1 := by
  induction m generalizing l u acc with
  | nil => rwa [List.append_nil]
  | cons j m ih =>
    have hj : j ∉ l := fun hl => (List.nodup_append.1 hnd).2.2 j hl j List.mem_cons_self rfl
    have hnext := h.next (acc := acc) hj fun hv => by
      rw [List.filter_append, List.filter_cons, if_pos hv] at hroom
      rcases hroom with hnil | ⟨hw, hle⟩
      · simp at hnil
      · refine ⟨hw, ?_⟩
        rw [h.pool.2]
        simp only [List.length_append, List.length_cons] at hle
        omega
    have := ih (acc := (State.resetAbort p (u, acc) j).2) hnext (by rw [List.append_assoc]; exact hnd)
      (by rw [List.append_assoc]; exact hroom)
    rw [List.append_assoc] at this
    exact this

end

end Sys2Proof.Machine
end

section
/-! The cells of a reset port (R19): returned to the free list, reported, and issued again from position 0 under lap 1. -/
namespace Sys2Proof.Machine

/-! ## A report, where cells have been freed, and a refill run -/

/-- The refill run that ends an action, behind a report where the free count is no longer what it was (R17). -/
def State.supplied (s : State) (before : Nat) : State := if s.freeCount = before then s.refill else s.report.refill

/-- What a change of level and each port's share keep, it keeps. -/
theorem State.supplied_induct {P : State → Prop} (hset : ∀ u l, P u → P (u.setShed l)) (hport : ∀ u p, P u → P (u.refillPort p))
    {s : State} (h : P s) (before : Nat) : P (s.supplied before) := by
  obtain ⟨-, hreport, hrefill⟩ := State.supply_induct hset hport
  unfold State.supplied
  split
  exacts [hrefill _ h, hrefill _ (hreport _ 3 h)]

theorem Follows.supplied {own : List BusWrite} {u v : State} (h : Follows own u v) (before : Nat) :
    Follows own (u.supplied before) (v.supplied before) := by
  unfold State.supplied
  rw [h.freeCount]
  split
  exacts [h.refill, h.report.refill]

theorem Gathers.supplied {r s : State} (h : Gathers r s) (before : Nat) : Gathers r (s.supplied before) := by
  unfold State.supplied
  split
  exacts [h.refill, h.report.refill]

theorem SameRecords.supplied {r s : State} (h : SameRecords r s) (before : Nat) : SameRecords r (s.supplied before) :=
  State.supplied_induct (P := SameRecords r) (fun _ l k => k.setShed l) (fun _ p k => k.refillPort p) h before

theorem State.supplied_outside (s : State) (before : Nat) :
    s.sameOutside [.cells, .admission, .notices, .bus] (s.supplied before) := by
  unfold State.supplied
  split
  exacts [s.refill_outside, s.report_outside.trans (State.refill_outside _)]

/-- Whatever the reports, the cells are issued at the newest ends and their entries written (R4, R6). -/
theorem State.supplied_issues (s : State) (before : Nat) : ∃ given new, Issues s (s.supplied before) given new := by
  refine State.supplied_induct (P := fun u => ∃ given new, Issues s u given new) (fun u l h => ?_) (fun u p h => ?_)
    ⟨_, _, .refl s⟩ before
  · obtain ⟨given, new, h⟩ := h
    have hset : Issues u (u.setShed l) (fun _ => []) [] := by
      have hport (p : Port) : (u.setShed l).cellPort p = u.cellPort p := by simp [State.setShed, State.cellPort]
      refine ⟨by simp [State.setShed], fun p => by rw [hport, List.append_nil], fun hpos => ?_⟩
      have hw := (Issues.refl u).written hpos
      exact ⟨fun p => by rw [hport]; exact hpos p, fun p hp => by rw [hport]; exact hw.ring p hp, by simp [State.setShed], hw.places,
        hw.entries⟩
    exact ⟨_, _, h.trans hset⟩
  · obtain ⟨given, new, h⟩ := h
    exact ⟨_, _, h.trans (State.refillPort_issues u p).1⟩

/-- A ring that has issued nothing since its restart, and does not turn: its position counts the cells issued (R19). -/
theorem State.supplied_ring {s : State} {p : Port} (h : s.cellPort p = CellPort.powerOn) (ht : (s.portEntry p).issueTarget < 512)
    (before : Nat) :
    ((s.supplied before).cellPort p).pos = (s.supplied before).issuedCount p ∧ ((s.supplied before).cellPort p).lap = true ∧
      (s.supplied before).issuedCount p < 512 := by
  have hgoal : (s.supplied before).tables = s.tables ∧ ((s.supplied before).cellPort p).pos = (s.supplied before).issuedCount p ∧
      ((s.supplied before).cellPort p).lap = true ∧ (s.supplied before).issuedCount p < 512 := by
    refine State.supplied_induct (P := fun u => u.tables = s.tables ∧ (u.cellPort p).pos = u.issuedCount p ∧
      (u.cellPort p).lap = true ∧ u.issuedCount p < 512) (fun u l hu => ?_) (fun u q hu => ?_) ?_ before
    · have hport : (u.setShed l).cellPort p = u.cellPort p := by simp [State.setShed, State.cellPort]
      unfold State.issuedCount at hu ⊢
      rw [hport]
      exact ⟨(u.setShed_outside l).tables.trans hu.1, hu.2⟩
    · obtain ⟨htab, hpos, hlap, hlt⟩ := hu
      refine ⟨(u.refillPort_outside q).tables.trans htab, ?_⟩
      by_cases hq : p = q
      · subst hq
        unfold State.refillPort
        split
        · exact ⟨hpos, hlap, hlt⟩
        · have hport := State.issueCells_cellPort u p (u.refillNeed p) p
          rw [if_pos rfl] at hport
          have hneed : u.refillNeed p ≤ refillTarget u.admission.shed (u.portEntry p).issueTarget - u.issuedCount p := min_le_left _ _
          have hle : refillTarget u.admission.shed (u.portEntry p).issueTarget ≤ (s.portEntry p).issueTarget := by
            have : u.portEntry p = s.portEntry p := State.portEntry_congr htab p
            rw [this]
            unfold refillTarget
            split <;> omega
          have hfree : u.refillNeed p ≤ Runs.size u.cells.freeList := min_le_right _ _
          have hcount : (u.issueCells p (u.refillNeed p)).issuedCount p = u.issuedCount p + u.refillNeed p := by
            show Runs.size ((u.issueCells p (u.refillNeed p)).cellPort p).issued = _
            rw [hport]
            dsimp only
            rw [Runs.size_append, Runs.size_take, min_eq_left hfree]
            rfl
          rw [hcount, hport]
          dsimp only
          rw [hpos, hlap, if_neg (by omega)]
          exact ⟨Nat.mod_eq_of_lt (by omega), rfl, by omega⟩
      · have hport := (State.refillPort_issues u q).2.2 p hq
        unfold State.issuedCount at hpos hlt ⊢
        rw [hport]
        exact ⟨hpos, hlap, hlt⟩
    · unfold State.issuedCount
      rw [h]
      exact ⟨rfl, rfl, rfl, by decide⟩
  exact hgoal.2

/-! ## Notices stand apart from the free-cell rings -/

/-- The notices gathered go to the notice ring (Table 10-1). -/
def State.noticesApart (s : State) : Prop := ∀ x ∈ s.bus.notices, s.windowAddr Config.noticeRing ≤ x.addr

theorem State.noticesApart.ask {s : State} (h : s.noticesApart) (k : NoticeKind) (a b c : Nat) : (s.ask k a b c).noticesApart := by
  unfold State.ask
  split
  · exact h
  · intro x hx
    rcases List.mem_cons.1 hx with rfl | hx
    · show s.windowAddr _ ≤ s.windowAddr _
      unfold State.windowAddr
      omega
    · exact h x hx

theorem State.noticesApart.noticed {s : State} (h : s.noticesApart) (l : List NoticeAsk) : (s.noticed l).noticesApart := by
  induction l generalizing s with
  | nil => exact h
  | cons a l ih => exact ih (h.ask _ _ _ _)

theorem State.noticesApart.supplied {s : State} (h : s.noticesApart) (before : Nat) : (s.supplied before).noticesApart := by
  refine State.supplied_induct (P := State.noticesApart) (fun u l hu => ?_) (fun u p hu => ?_) h before
  · exact State.noticesApart.ask (s := { u with admission := { u.admission with shed := l } }) hu _ _ _ _
  · unfold State.refillPort
    split <;> exact hu

theorem State.noticesApart.clearOf {s : State} (h : s.noticesApart) {x : BusWrite} (hx : x ∈ s.bus.notices) (p : Port) {n : Nat}
    (hn : n < 512) : x.clearOf (s.windowAddr (Config.freeCellRings + 0x800 * p + 4 * n)) 4 := by
  intro i hi
  refine byteAt_outside _ _ (.inl ?_)
  have := h x hx
  have hp := p.isLt
  unfold State.windowAddr Config.noticeRing Config.freeCellRings at *
  omega

/-! ## The reset of a port's cells -/

/-- The cells of a reset port, then these others, have joined the free list, and its free-cell ring has restarted (R19). -/
def State.resetBase (s : State) (p : Port) (freed : List Nat) : State := (s.resetCells p).freed freed

theorem Follows.resetBase {own : List BusWrite} {u v : State} (h : Follows own u v) (p : Port) (freed : List Nat) :
    Follows own (u.resetBase p freed) (v.resetBase p freed) := by
  have hcells : Follows own (u.resetCells p) (v.resetCells p) :=
    { h with
      freeList := by
        show Runs.append v.cells.freeList (v.cellPort p).issued = Runs.append u.cells.freeList (u.cellPort p).issued
        rw [h.freeList, h.cellPort]
      ports := by
        show v.cells.ports.setD p CellPort.powerOn CellPort.powerOn = u.cells.ports.setD p CellPort.powerOn CellPort.powerOn
        rw [h.ports] }
  exact hcells.freed freed

theorem State.resetBase_cellPort (s : State) (p q : Port) (freed : List Nat) :
    (s.resetBase p freed).cellPort q = if q = p then CellPort.powerOn else s.cellPort q := by
  show (s.resetCells p).cellPort q = _
  exact State.setCellPort_cellPort _ p q _

theorem State.resetBase_freeCount (s : State) (p : Port) (freed : List Nat) :
    (s.resetBase p freed).freeCount = s.freeCount + s.issuedCount p + freed.length := by
  show Runs.size (Runs.pushAll (Runs.append s.cells.freeList (s.cellPort p).issued) freed) = _
  rw [Runs.size_pushAll, Runs.size_append]
  rfl

/-- The entries of the cells issued behind a reset stand in memory from position 0 under lap 1 (R4, R19). -/
theorem State.resetBase_readBytes {s t : State} {p : Port} {freed : List Nat} {asks : List NoticeAsk} {own status : List BusWrite}
    {before : Nat} (hq : s.quiet) (hpos : s.positionsOk) (hw : t.path.winbase = s.path.winbase)
    (hbus : t.bus = (s.sending (status ++ ((((s.resetBase p freed).supplied before).noticed asks).bus.notices ++
      ((((s.resetBase p freed).supplied before).noticed asks).bus.writes ++ own)))).bus)
    (hstatus : ∀ x ∈ status, ∀ n < 512, x.clearOf (s.windowAddr (Config.freeCellRings + 0x800 * p + 4 * n)) 4)
    (hports : t.cells.ports = ((s.resetBase p freed).supplied before).cells.ports)
    (hlt : (t.issuedCount p) < 512) {i : Nat} (hi : i < t.issuedCount p) :
    t.readBytes (Config.freeCellRings + 0x800 * p + 4 * i) 4 =
      (leBytes 2 ((Runs.toList (t.cellPort p).issued).getD i 0) ++ [(0 : Byte), 0x80]).map some := by
  obtain ⟨given, new, hiss⟩ := (s.resetBase p freed).supplied_issues before
  have hport : t.cellPort p = ((s.resetBase p freed).supplied before).cellPort p := cellPort_congr hports p
  have hcount := hiss.issuedCount p
  have hbase := s.resetBase_cellPort p p freed
  rw [if_pos rfl] at hbase
  have hzero : (s.resetBase p freed).issuedCount p = 0 := by unfold State.issuedCount; rw [hbase]; rfl
  have htcount : t.issuedCount p = (given p).length := by
    unfold State.issuedCount at hcount hzero ⊢
    rw [hport, hcount, hzero, Nat.zero_add]
  have hissued := hiss.issued p
  rw [hbase, ← hport] at hissued
  have hwr := hiss.written fun q => by
    rw [State.resetBase_cellPort]
    split
    · decide
    · exact (hpos q).2.2.1
  have happart : (((s.resetBase p freed).supplied before).noticed asks).noticesApart := by
    have hstart : (s.resetBase p freed).noticesApart := fun x hx => by
      have : (s.resetBase p freed).bus.notices = [] := hq.2.1
      rw [this] at hx
      cases hx
    exact (hstart.supplied before).noticed asks
  have hwin : (((s.resetBase p freed).supplied before).noticed asks).path.winbase = s.path.winbase := by
    rw [State.noticed_eq]
    exact hiss.winbase
  have hwrites : (((s.resetBase p freed).supplied before).noticed asks).bus.writes =
      (new.map (s.resetBase p freed).issueWrite).reverse := by
    rw [State.noticed_eq]
    show ((s.resetBase p freed).supplied before).bus.writes = _
    rw [hwr.writes, show (s.resetBase p freed).bus.writes = [] from hq.1, List.append_nil]
  have hsent : t.bus.sent = ((status ++ (((s.resetBase p freed).supplied before).noticed asks).bus.notices) ++
      (new.map (s.resetBase p freed).issueWrite).reverse) ++ (own ++ s.bus.sent) := by
    rw [hbus, hwrites]
    simp [State.sending]
  have hread := hwr.readBytes (r := t) (p := p) (i := i) hw hsent (by omega) (by omega) fun x hx => by
    have hwa : (s.resetBase p freed).windowAddr = s.windowAddr := rfl
    rw [hwa]
    rcases List.mem_append.1 hx with hx | hx
    · exact hstatus x hx _ (Nat.mod_lt _ (by decide))
    · have := happart.clearOf hx p (Nat.mod_lt (((s.resetBase p freed).cellPort p).pos + i) (by decide : 0 < 512))
      have hwb : (((s.resetBase p freed).supplied before).noticed asks).windowAddr = s.windowAddr := by
        unfold State.windowAddr
        rw [hwin]
      rwa [hwb] at this
  have hplace : (CellPort.powerOn.pos + i) % 512 = i := by
    show (0 + i) % 512 = i
    omega
  have hget : (Runs.toList (t.cellPort p).issued).getD i 0 = (given p)[i]'(by omega) := by
    rw [hissued]
    show ((given p)).getD i 0 = _
    exact List.getD_eq_getElem _ _ (by omega)
  rw [hbase, hplace] at hread
  rw [hread, hget, lapAt_zero_div (by show 0 + i < 512; omega)]
  rfl

end Sys2Proof.Machine
end

section
/-! PORT_RESET up to the liveness monitor's part, and that part (R19, R35, R99, R111, R120, R129), whatever the records say. -/
namespace Sys2Proof.Machine

/-! ## The steps of a reset -/

/-- The state in which the posted copies of a reset port are handled: its cells returned, its rings restarted (R19, R35, R99). -/
def State.resetReady (s : State) (p : Port) : State :=
  ((s.resetCells p).resetIntake p).setEgressPort p { s.egressPort p with slots := [], nextWrite := 0, lap := true }

/-- The posted copies in the order of their handling: via-group first, oldest post first, then direct, newest post first
(R111). -/
def State.resetOrder (s : State) (p : Port) : List Nat :=
  (s.egressPort p).postedInOrder.filter s.isVia ++ ((s.egressPort p).postedInOrder.filter fun j => !s.isVia j).reverse

/-- The handling of the posted copies, with the ports named by it. -/
def State.resetHandled (s : State) (p : Port) : State × List Port :=
  (s.resetOrder p).foldl (State.resetAbort p) (s.resetReady p, [])

/-- A reset up to the liveness monitor's part. -/
def State.resetSupplied (s : State) (p : Port) : State :=
  ((s.resetHandled p).1.oweEach (s.resetHandled p).2).supplied s.freeCount

theorem State.portReset_eq (s : State) (p : Port) : s.portReset p = (s.resetSupplied p).resetLiveness p := rfl

/-- What the reset of `p` leaves between `s` and `x`, ahead of the liveness monitor's part; `h` is the handling of its posted
copies. -/
structure ResetTo (s x : State) (p : Port) (h : State × List Port) : Prop where
  outside : s.sameOutside [.cells, .intake, .admission, .queues, .failover, .acct, .notices, .bus] x
  failover : x.failover = { s.failover with hold := h.1.failover.hold }
  records : SameRecords h.1 x
  acct : x.acct = h.1.acct
  meters : x.admission.meters = s.admission.meters
  intake : ∀ q : Port, x.intakePort q = if q = p then IntakePort.powerOn else s.intakePort q
  egress : ∀ q : Port, x.egressPort q =
    { (if q = p then { s.egressPort p with slots := [], nextWrite := 0, lap := true } else s.egressPort q) with
      owed := (s.egressPort q).owed + if q ∈ h.2 then 1 else 0 }
  queues : x.queues.queues = h.1.queues.queues
  ring : (s.portEntry p).issueTarget < 512 →
    (x.cellPort p).pos = x.issuedCount p ∧ (x.cellPort p).lap = true ∧ x.issuedCount p < 512
  sent : x.bus.sent = s.bus.sent
  supplies : ∀ freed, Agrees ((s.resetReady p).freed freed) h.1 → Agrees ((s.resetBase p freed).supplied s.freeCount) x
  frees : ∃ freed, Agrees ((s.resetReady p).freed freed) h.1

theorem State.resetReady_outside (s : State) (p : Port) : s.sameOutside [.cells, .intake, .queues] (s.resetReady p) := by
  simp [State.sameOutside, State.resetReady, State.resetCells, State.resetIntake]

theorem State.resetReady_agrees (s : State) (p : Port) (freed : List Nat) :
    Agrees (s.resetBase p freed) ((s.resetReady p).freed freed) := .of_eq rfl rfl rfl rfl rfl rfl rfl rfl rfl

theorem State.resetReady_egressPort (s : State) (p q : Port) :
    (s.resetReady p).egressPort q =
      if q = p then { s.egressPort p with slots := [], nextWrite := 0, lap := true } else s.egressPort q :=
  State.setEgressPort_egressPort ..

theorem State.resetReady_intakePort (s : State) (p q : Port) :
    (s.resetReady p).intakePort q = if q = p then IntakePort.powerOn else s.intakePort q := by
  show ((s.resetCells p).resetIntake p).intakePort q = _
  exact State.setIntakePort_intakePort _ p q _

theorem State.resetSupplied_to (s : State) (p : Port) : ResetTo s (s.resetSupplied p) p (s.resetHandled p) := by
  have hready := s.resetReady_outside p
  have hrel : Releases (s.resetReady p) (s.resetHandled p).1 := .resetAborts _ p _ _
  have hring := s.resetReady_egressPort p
  have hintake := s.resetReady_intakePort p
  have hbase := s.resetReady_agrees p
  have hzero (freed : List Nat) : (s.resetBase p freed).cellPort p = CellPort.powerOn := by
    rw [State.resetBase_cellPort, if_pos rfl]
  unfold State.resetSupplied
  generalize s.resetHandled p = h at *
  have how := h.1.oweEach_outside h.2
  have hzr (q : Port) := h.1.oweEach_egressPort h.2 q
  have hzq := h.1.oweEach_queues h.2
  generalize h.1.oweEach h.2 = z at *
  have hsup := z.supplied_outside s.freeCount
  have hrec := (SameRecords.refl z).supplied s.freeCount
  have hgather := (Gathers.refl z).supplied s.freeCount
  have hout : s.sameOutside [.cells, .intake, .admission, .queues, .failover, .acct, .notices, .bus] (z.supplied s.freeCount) :=
    (((hready.mono (by decide)).andThen hrel.outside).andThen how).andThen hsup
  have hzport : z.cellPort p = CellPort.powerOn := by
    obtain ⟨freed, hf⟩ := hrel.frees
    rw [← hzero freed]
    exact cellPort_congr (((hbase freed).agrees (hf.agrees how.agrees)).ports) p
  have hztab : z.tables = s.tables := by rw [how.tables, hrel.outside.tables, hready.tables]
  refine ⟨hout, ?_, (SameRecords.of_blocks how.cells how.admission).trans hrec, ?_, ?_, fun q => ?_, fun q => ?_, ?_, fun ht => ?_, ?_,
    fun freed hf => ?_, hrel.frees⟩
  · rw [hsup.failover, how.failover, hrel.failover, hready.failover]
  · rw [hsup.acct, how.acct]
  · rw [hrec.meters, how.admission, hrel.meters, hready.admission]
  · rw [← hintake]
    unfold State.intakePort
    rw [hsup.intake, how.intake, hrel.outside.intake]
  · rw [State.ring_congr hsup.queues, hzr, show h.1.egressPort q = (s.resetReady p).egressPort q by unfold State.egressPort; rw [hrel.egress],
      hring]
    by_cases hq : q = p
    · subst hq; rw [if_pos rfl]
    · rw [if_neg hq]
  · rw [hsup.queues, hzq]
  · refine State.supplied_ring hzport ?_ _
    rwa [State.portEntry_congr hztab]
  · rw [hgather.sent, how.bus, hrel.outside.bus, hready.bus]
  · exact ((hbase freed).agrees (hf.agrees how.agrees)).supplied _

/-! ## The liveness monitor's part -/

/-- The liveness monitor's part of the reset of `p` (R120, R129), between `x` and `v`: the stall timer stops, and the port goes
out of service unless it is ADMIN_DOWN. -/
structure LiveReset (x v : State) (p : Port) : Prop where
  change : LiveChange (x.stopStall p) v p .portReset
  liveness : v.liveness p = if x.liveness p = .adminDown then .adminDown else .down
  stall : (v.livePort p).stall = none
  count : (v.livePort p).changeCount = (x.livePort p).changeCount
  service : (x.stopStall p).outOfService v p (if x.liveness p = .adminDown then .adminDown else .down)
  sent : v.bus.sent = x.bus.sent

theorem State.resetLiveness_change (x : State) (p : Port) : LiveReset x (x.resetLiveness p) p := by
  have hport : (x.stopStall p).livePort p = { x.livePort p with stall := none } := State.setLivePort_livePort_self ..
  have hl : (x.stopStall p).liveness p = x.liveness p := by rw [← State.livePort_liveness, hport]; rfl
  have hkeeps := (Keeps.refl x).resetLiveness p
  unfold State.resetLiveness at hkeeps ⊢
  by_cases ha : x.liveness p = .adminDown
  · rw [hl, if_pos ha] at hkeeps ⊢
    refine ⟨.refl _ p _, by rw [hl, ha, if_pos rfl], by rw [hport], by rw [hport], ?_, hkeeps.sent⟩
    unfold State.outOfService
    rw [hl, if_pos ha, ha]
    exact ⟨(if_pos rfl).symm, rfl, rfl⟩
  · rw [hl, if_neg ha] at hkeeps ⊢
    obtain ⟨hc, hdown, hv, hout⟩ := (x.stopStall p).takeDown_change p .portReset (l := .down) (.inl rfl)
    rw [hport] at hv
    refine ⟨hc, by rw [hdown, if_neg ha], ?_, ?_, by rwa [if_neg ha], hkeeps.sent⟩
    · rw [hv]
      split
      · rfl
      · split <;> rfl
    · rw [hv]
      split
      · rfl
      · split <;> rfl

end Sys2Proof.Machine
end

section
/-! The end of a PORT_RESET: what its last state leaves, whatever the records say (R129, R178). -/
namespace Sys2Proof.Machine

/-- Going out of service reads the port's liveness, the clock, the work list and the flush queue. -/
theorem State.outOfService_of {s s1 t t1 : State} {p : Port} {l : Liveness} (hlive : s1.live = s.live) (ht : s1.tables = s.tables)
    (hw : s1.failover.work = s.failover.work) (hk : s1.lookup = s.lookup) (hlive' : t1.live = t.live)
    (hw' : t1.failover.work = t.failover.work) (hk' : t1.lookup = t.lookup) (h : s1.outOfService t1 p l) : s.outOfService t p l := by
  have hp : s1.livePort p = s.livePort p := livePort_congr (by rw [hlive]) p
  have hp' : t1.livePort p = t.livePort p := livePort_congr (by rw [hlive']) p
  have hl : s1.liveness p = s.liveness p := congrArg LivePort.state hp
  have he : s1.expiry (s1.portEntry p).drain = s.expiry (s.portEntry p).drain := by
    unfold State.expiry State.now
    rw [hlive, State.portEntry_congr ht]
  unfold State.outOfService at h ⊢
  rw [hl, hp, hp', he, hw, hw', hk, hk', (State.offerFlush_congr hk _ _).2] at h
  exact h

/-- A by-port flush, asked for or not, leaves the station table to the flush walks. -/
theorem State.outOfService_stations {s t : State} {p : Port} {l : Liveness} (h : s.outOfService t p l) :
    t.lookup.stations = s.lookup.stations := by
  have hflush : (s.offerFlush (.byPort p) []).1.lookup.stations = s.lookup.stations := by
    unfold State.offerFlush
    split
    · rfl
    · split
      · unfold State.startFlush
        split <;> rfl
      · rfl
  unfold State.outOfService at h
  split at h
  · rw [h.2.2, hflush]
  · rw [h.2.2, hflush]
  · rw [h.2.2, hflush]
  · rw [h.2.2]

/-- What a PORT_RESET of `p` brought by `w` leaves between `s` and `t`; `h` is the handling of its posted copies. -/
structure ResetEnd (s t : State) (p : Port) (w : SlotWrite) (h : State × List Port) : Prop where
  intake : ∀ q : Port, t.intakePort q = if q = p then IntakePort.powerOn else s.intakePort q
  others : ∀ q : Port, q ≠ p → t.livePort q = s.livePort q
  egress : ∀ q : Port, t.egressPort q =
    { (if q = p then { s.egressPort p with slots := [], nextWrite := 0, lap := true } else s.egressPort q) with
      owed := (s.egressPort q).owed + if q ∈ h.2 then 1 else 0 }
  stall : (t.livePort p).stall = none
  count : (t.livePort p).changeCount = (s.livePort p).changeCount
  liveness : t.liveness p = if s.liveness p = .adminDown then .adminDown else .down
  groups : s.groupsFollow t p
  slot : t.slot w.slot = { status := .done, kind := 8, tag := w.tag }
  slots : ∀ k, k ≠ w.slot → t.slot k = s.slot k
  tables : t.tables = s.tables
  mode : t.path.mode = s.path.mode
  winbase : t.path.winbase = s.path.winbase
  staging : t.path.staging = s.path.staging
  meters : t.admission.meters = s.admission.meters
  drained : t.failover.drained = s.failover.drained
  service : (s.stopStall p).outOfService t p (if s.liveness p = .adminDown then .adminDown else .down)
  ring : (s.portEntry p).issueTarget < 512 →
    (t.cellPort p).pos = t.issuedCount p ∧ (t.cellPort p).lap = true ∧ t.issuedCount p < 512
  records : SameRecords h.1 t
  acct : t.acct = h.1.acct
  hold : t.failover.hold = h.1.failover.hold
  queues : t.queues.queues = h.1.queues.queues
  supplies : ∀ freed, Agrees (((s.started 8 w).resetReady p).freed freed) h.1 →
    t.suppliesOf ((s.resetBase p freed).supplied s.freeCount) ∧
      (s.quiet → s.delivers t (((s.resetBase p freed).supplied s.freeCount).noticed (s.liveAsks t p .portReset))
        [s.crossing (slotOffset w.slot) (slotGranule 8 w)] [s.endWrite w.slot .done w.tag])
  frees : ∃ freed, Agrees (((s.started 8 w).resetReady p).freed freed) h.1

theorem State.suppliesOf_of_follows {own own' : List BusWrite} {u base t : State} (hb : Follows own u base) (ht : Follows own' u t) :
    t.suppliesOf base := ⟨ht.freeList.trans hb.freeList.symm, ht.ports.trans hb.ports.symm, ht.shed.trans hb.shed.symm⟩

theorem State.portReset_end (s : State) (p : Port) (w : SlotWrite) :
    ResetEnd s (((s.started 8 w).portReset p).done w.slot .none 0).finish p w ((s.started 8 w).resetHandled p) := by
  rw [State.portReset_eq]
  have hx := (s.started 8 w).resetSupplied_to p
  have hs0 := s.started_outside 8 w
  generalize (s.started 8 w).resetHandled p = h at *
  generalize (s.started 8 w).resetSupplied p = x at *
  have hv := x.resetLiveness_change p
  generalize x.resetLiveness p = v at *
  have hc := hv.change
  have hsx : s.sameOutside [.path, .cells, .intake, .admission, .queues, .failover, .acct, .notices, .slots, .bus] x :=
    (hs0.mono (by decide)).andThen hx.outside
  have hslots : v.slots = (s.started 8 w).slots := by rw [hc.outside.slots]; exact hx.outside.slots
  obtain ⟨hslot, hothers⟩ := State.endSlot_slot hslots .done .none 0
  have hend : v.sameOutside [.slots, .bus] (v.done w.slot .none 0).finish :=
    (State.endSlot_outside _ _ _ _ _).andThen (State.finish_outside _)
  have hlx (q : Port) : x.livePort q = s.livePort q := livePort_congr (by rw [hsx.live]) q
  have hlxp : x.liveness p = s.liveness p := congrArg LivePort.state (hlx p)
  have hlt (q : Port) : (v.done w.slot .none 0).finish.livePort q = v.livePort q := livePort_congr (by rw [hend.live]) q
  have hltp : (v.done w.slot .none 0).finish.liveness p = v.liveness p := congrArg LivePort.state (hlt p)
  have hstop : (x.stopStall p).liveness p = s.liveness p := by
    rw [← hlxp, ← State.livePort_liveness, ← State.livePort_liveness]
    unfold State.stopStall
    rw [State.setLivePort_livePort_self]
  have hgs : (x.stopStall p).failover.groupStates = s.failover.groupStates := by
    show x.failover.groupStates = _
    rw [hx.failover]
    rfl
  have hcell (q : Port) : (v.done w.slot .none 0).finish.cellPort q = x.cellPort q :=
    cellPort_congr (by rw [hend.cells, hc.outside.cells]; rfl) q
  have hasks : s.liveAsks (v.done w.slot .none 0).finish p .portReset = (x.stopStall p).liveAsks v p .portReset := by
    rw [LiveChange.liveAsks_of_groupStates hstop (hsx.tables : (x.stopStall p).tables = s.tables) hgs
      (hsx.lookup : (x.stopStall p).lookup = s.lookup)]
    refine State.liveAsks_of_end (hlt p) ?_ (fun g _ => State.groupState_congr (by rw [hend.failover]) g)
      (fun g => State.usable_congr hend.tables (by rw [hend.live]) g)
      (fun g => State.evacuatingMembers_congr hend.tables (by rw [hend.failover]) (by rw [hend.failover]) g) _
    unfold State.postedCount State.egressPort
    rw [hend.queues]
  have hfail : v.failover.hold = x.failover.hold ∧ v.failover.drained = x.failover.drained := by rw [hc.failover]; exact ⟨rfl, rfl⟩
  have hagree : Agrees (x.noticed (s.liveAsks (v.done w.slot .none 0).finish p .portReset)) v := by
    rw [hasks]
    exact ((x.setLivePort_agrees p _).noticed _).agrees hc.follows
  refine
    { intake := fun q => ?intake
      others := fun q hq => ?others
      egress := fun q => ?egress
      stall := by rw [hlt]; exact hv.stall
      count := by rw [hlt, hv.count, hlx]
      liveness := by rw [hltp, hv.liveness, hlxp]
      groups := State.groupsFollow_of_groupStates hstop hsx.tables hgs fun gr => ?groups
      slot := hslot
      slots := hothers
      tables := by rw [hend.tables, hc.outside.tables]; exact hsx.tables
      mode := by rw [hend.path, hc.outside.path]; show x.path.mode = _; rw [hx.outside.path]; rfl
      winbase := by rw [hend.path, hc.outside.path]; show x.path.winbase = _; rw [hx.outside.path]; rfl
      staging := by rw [hend.path, hc.outside.path]; show x.path.staging = _; rw [hx.outside.path]; rfl
      meters := by rw [hend.admission, hc.outside.admission]; exact hx.meters
      drained := by rw [hend.failover, hfail.2, hx.failover]; rfl
      service := ?service
      ring := fun ht => ?ring
      records := ?records
      acct := by rw [hend.acct, hc.outside.acct]; exact hx.acct
      hold := by rw [hend.failover, hfail.1, hx.failover]
      queues := by rw [hend.queues, hc.outside.queues]; exact hx.queues
      supplies := fun freed hf => ?supplies
      frees := hx.frees }
  case intake =>
    refine Eq.trans ?_ (hx.intake q)
    unfold State.intakePort
    rw [hend.intake, hc.outside.intake]
    rfl
  case others =>
    rw [hlt, hc.others q hq, ← hlx]
    exact State.setLivePort_livePort_ne _ hq _
  case egress =>
    refine Eq.trans ?_ (hx.egress q)
    unfold State.egressPort
    rw [hend.queues, hc.outside.queues]
    rfl
  case groups =>
    rw [hltp, State.groupState_congr (s := v) (t := (v.done w.slot .none 0).finish) (by rw [hend.failover]),
      State.computeGroup_congr (s := v) (t := (v.done w.slot .none 0).finish) hend.tables (by rw [hend.live])
        (by rw [hend.failover]) (by rw [hend.failover])]
    exact hc.groups gr
  case service =>
    have := hv.service
    rw [hlxp] at this
    refine State.outOfService_of (s1 := x.stopStall p) ?_ hsx.tables ?_ hsx.lookup hend.live.symm (by rw [hend.failover])
      hend.lookup.symm this
    · unfold State.stopStall
      rw [hlx]
      unfold State.setLivePort
      rw [hsx.live]
    · show x.failover.work = _
      rw [hx.failover]
      rfl
  case ring =>
    have := hx.ring ht
    unfold State.issuedCount at this ⊢
    rw [hcell]
    exact this
  case records =>
    refine (hx.records.trans ?_).trans (.of_blocks hend.cells hend.admission)
    exact .of_blocks (hc.outside.cells.trans rfl) (hc.outside.admission.trans rfl)
  case supplies =>
    have hsup := hx.supplies freed hf
    have hgather : Gathers s (s.resetBase p freed) := ⟨rfl, rfl, rfl⟩
    have hlong : ∀ {own : List BusWrite} {u : State}, Follows own u (s.started 8 w) →
        Follows own (((u.resetBase p freed).supplied s.freeCount).noticed (s.liveAsks (v.done w.slot .none 0).finish p .portReset)) v :=
      fun hu => ((((hu.resetBase p freed).supplied s.freeCount).agrees hsup).noticed _).agrees hagree
    refine ⟨?_, fun hq => ?_⟩
    · have hsil : Follows (s.started 8 w).bus.writes s.silent (s.started 8 w) := ⟨rfl, rfl, rfl, rfl, rfl, rfl, rfl, rfl, rfl, rfl, rfl⟩
      have hbase := ((s.silent_follows.resetBase p freed).supplied s.freeCount).noticed
        (s.liveAsks (v.done w.slot .none 0).finish p .portReset)
      have := State.suppliesOf_of_follows hbase (hlong hsil)
      unfold State.suppliesOf at this ⊢
      rw [hend.cells, hend.admission]
      have hcong : ∀ (u : State) (l : List NoticeAsk), (u.noticed l).cells = u.cells ∧ (u.noticed l).admission = u.admission :=
        fun u l => by rw [State.noticed_eq]; exact ⟨rfl, rfl⟩
      rw [(hcong _ _).1, (hcong _ _).2] at this
      exact this
    · refine (hlong (s.started_follows hq 8 w)).done_delivers hq ?_ ?_ hslots
      · exact (hgather.supplied _).noticed _
      · rw [hv.sent, hx.sent]; rfl

end Sys2Proof.Machine
end

section
/-! PORT_RESET (O54): the fates of the posted copies read off the handling, and the statement. -/
namespace Sys2Proof.Machine

section
variable {s t : State} {p : Port} {w : SlotWrite} {via direct : List Nat}

/-- The order of the handling, by the tags of either kind. -/
theorem State.resetOrder_eq {tags : List Nat} (ht : tags = (s.egressPort p).postedInOrder) (hv : via = tags.filter s.isVia)
    (hd : direct = tags.filter fun j => !s.isVia j) : (s.started 8 w).resetOrder p = via ++ direct.reverse := by
  subst hv hd ht
  rfl

theorem State.resetReady_freed (s : State) (p : Port) (w : SlotWrite) (via : List Nat) :
    ((s.started 8 w).resetReady p).resetFreed p via = s.resetFreed p via := rfl

/-- What the resets count is counted in the banks alone. -/
theorem State.resetCount_acct_congr {u v : State} (e : State) (p : Port) (via l : List Nat) (ha : u.acct = v.acct)
    (ht : u.tables = v.tables) : (l.foldl (e.resetCount p via) u).acct = (l.foldl (e.resetCount p via) v).acct := by
  induction l generalizing u v with
  | nil => exact ha
  | cons j l ih =>
    have hone : (e.resetCount p via u j).acct = (e.resetCount p via v j).acct := by
      unfold State.resetCount State.countTag
      split
      · split
        · exact ha
        · split
          · exact ha
          · exact State.countRetired_acct_congr ha ht _ _ _ _
      · exact ha
    have htab (x : State) : (e.resetCount p via x j).tables = x.tables := State.resetCount_tables e p via x [j]
    exact ih hone (by rw [htab, htab, ht])

theorem State.resetReady_count (s : State) (p : Port) (w : SlotWrite) (via l : List Nat) :
    (l.foldl (((s.started 8 w).resetReady p).resetCount p via) ((s.started 8 w).resetReady p)).acct =
      (l.foldl (s.resetCount p via) s).acct := State.resetCount_acct_congr s p via l rfl rfl

/-! ## Which fates a copy can meet -/

theorem State.resetFateOf_via {j : Nat} (hj : s.isVia j = true) : s.resetFateOf p via j ≠ some .returns := by
  unfold State.isVia at hj
  unfold State.resetFateOf
  cases hk : s.copy j with
  | none => exact fun h => nomatch h
  | some k =>
    rw [hk] at hj
    obtain ⟨g, hg⟩ := Option.isSome_iff_exists.1 hj
    cases hf : s.frame k.frame with
    | none => rw [Option.bind_some, hf]; exact fun h => nomatch h
    | some f =>
      rw [Option.bind_some, hf, Option.map_some]
      unfold State.resetFate
      rw [hg]
      dsimp only
      split
      · split <;> exact fun h => nomatch h
      · split
        · exact fun h => nomatch h
        · split <;> exact fun h => nomatch h

theorem State.resetFateOf_direct {j : Nat} {fate : ResetFate} (hj : s.isVia j = false) (hfate : s.resetFateOf p via j = some fate) :
    fate = if s.isDrained p then .retired .portDown else .returns := by
  unfold State.isVia at hj
  unfold State.resetFateOf at hfate
  cases hk : s.copy j with
  | none => rw [hk] at hfate; cases hfate
  | some k =>
    rw [hk] at hj hfate
    have hg : k.via = none := Option.not_isSome_iff_eq_none.1 (by rw [show k.via.isSome = false from hj]; decide)
    rw [Option.bind_some] at hfate
    cases hf : s.frame k.frame with
    | none => rw [hf] at hfate; cases hfate
    | some f =>
      rw [hf, Option.map_some] at hfate
      unfold State.resetFate at hfate
      rw [hg] at hfate
      exact (Option.some.inj hfate).symm

theorem State.resetFateOf_held {j : Nat} (hj : s.isVia j = false) (g : GroupId) : s.resetFateOf p via j ≠ some (.held g) := fun h => by
  have := State.resetFateOf_direct hj h
  split at this <;> cases this

theorem State.resetFateOf_joins {j : Nat} (hj : s.isVia j = false) (q : Port) : s.resetFateOf p via j ≠ some (.joins q) := fun h => by
  have := State.resetFateOf_direct hj h
  split at this <;> cases this

/-- What none of the second list has is filtered from the first alone. -/
theorem filter_append_left {l m : List Nat} {P : Nat → Bool} (h : ∀ j ∈ m, P j = false) : (l ++ m).filter P = l.filter P := by
  rw [List.filter_append, List.filter_eq_nil_iff (l := m) |>.2 fun j hj => by rw [h j hj]; decide, List.append_nil]

theorem filter_append_right {l m : List Nat} {P : Nat → Bool} (h : ∀ j ∈ l, P j = false) : (l ++ m).filter P = m.filter P := by
  rw [List.filter_append, List.filter_eq_nil_iff (l := l) |>.2 fun j hj => by rw [h j hj]; decide, List.nil_append]

/-! ## The fates -/

/-- The posted copies of `p` have met their fates between `s` and `t`. -/
structure ResetFates (s t : State) (p : Port) (tags via direct : List Nat) : Prop where
  acct : t.acct = ((via ++ direct.reverse).foldl (s.resetCount p via) s).acct
  held : ∀ g : GroupId, t.heldCopies g = s.heldCopies g ++ via.filter fun j => decide (s.resetFateOf p via j = some (.held g))
  queue : ∀ (q : Port) (c : Cls), t.queue q c =
    (if q = p then
        direct.filter fun j => decide (s.resetFateOf p via j = some .returns ∧ (s.copy j).map (fun k => k.cls) = some c)
      else []) ++
      (s.queue q c ++ via.filter fun j =>
        decide (s.resetFateOf p via j = some (.joins q) ∧ (s.copy j).map (fun k => k.cls) = some c))
  owed : ∀ q : Port, (t.egressPort q).owed = (s.egressPort q).owed +
    if tags.any (fun j => decide (s.resetFateOf p via j = some (.joins q) ∨
      q = p ∧ s.resetFateOf p via j = some .returns)) then 1 else 0
  others : ∀ j, j ∉ tags → t.copy j = s.copy j
  met : ∀ j ∈ tags, ∀ k, s.copy j = some k → ∀ f, s.frame k.frame = some f →
    t.copy j = ((s.resetFateOf p via j).map (·.record k)).getD (some k) ∧
      t.frame k.frame = ((s.resetFateOf p via j).map (·.frameAfter p f)).getD (some f)

theorem mem_received {q : Port} {o : Option ResetFate} :
    q ∈ (o.map (·.received p)).getD [] ↔ o = some (.joins q) ∨ q = p ∧ o = some .returns := by
  cases o with
  | none => simp
  | some fate => cases fate <;> simp [ResetFate.received, eq_comm]

theorem ResetEnd.fates {tags freed : List Nat} (hend : ResetEnd s t p w ((s.started 8 w).resetHandled p))
    (ht : tags = (s.egressPort p).postedInOrder) (hv : via = tags.filter s.isVia) (hd : direct = tags.filter fun j => !s.isVia j)
    (hso : Table.sorted s.failover.hold = true) (hnd : tags.Nodup)
    (hcopies : ∀ j ∈ tags, ∃ k, s.copy j = some k ∧ k.port = some p ∧ (s.frame k.frame).isSome = true)
    (hapart : tags.Pairwise fun i j => (s.copy i).map (fun k => k.frame) ≠ (s.copy j).map (fun k => k.frame))
    (hfreed : freed = (via ++ direct.reverse).flatMap (s.resetFreed p via)) (hcells : freed.Nodup) :
    ResetFates s t p tags via direct ∧ Agrees (((s.started 8 w).resetReady p).freed freed) ((s.started 8 w).resetHandled p).1 := by
  have hvia : ∀ j ∈ via, s.isVia j = true := fun j hj => by rw [hv] at hj; exact (List.mem_filter.1 hj).2
  have hdirect : ∀ j ∈ direct.reverse, s.isVia j = false := fun j hj => by
    rw [List.mem_reverse, hd] at hj
    simpa using (List.mem_filter.1 hj).2
  have hperm : (via ++ direct.reverse).Perm tags := by
    rw [hv, hd]
    exact ((List.reverse_perm _).append_left _).trans (List.filter_append_perm _ _)
  have hmem (j : Nat) : j ∈ via ++ direct.reverse ↔ j ∈ tags := hperm.mem_iff
  have hkey (k : Copy) (j : Nat) (hk : s.copy j = some k) : s.isVia j = k.via.isSome := State.isVia_of hk
  obtain ⟨ha, hrel⟩ := Aborts.fold (e := (s.started 8 w).resetReady p) (p := p) (via := via) (direct := direct.reverse)
    (m := via ++ direct.reverse) (.start _ p via) (.refl _) rfl hso (hperm.nodup_iff.2 hnd)
    (fun j hj k hk => by rw [← hkey k j hk]; exact hvia j hj)
    (fun j hj k hk => by
      have := hdirect j hj
      rw [hkey k j hk] at this
      exact Option.not_isSome_iff_eq_none.1 (by rw [this]; decide))
    (fun j hj => hcopies j ((hmem j).1 hj))
    ((hperm.pairwise_iff fun h => Ne.symm h).2 hapart)
    (by rw [State.resetReady_freed, ← hfreed]; exact hcells)
  rw [List.nil_append] at ha
  rw [← State.resetOrder_eq (w := w) ht hv hd] at ha hrel
  change Aborts _ _ _ _ ((s.started 8 w).resetHandled p).1 ((s.started 8 w).resetHandled p).2 at ha
  change Releases _ ((s.started 8 w).resetHandled p).1 at hrel
  rw [State.resetOrder_eq (w := w) ht hv hd] at ha
  have hcopy (j : Nat) : t.copy j = ((s.started 8 w).resetHandled p).1.copy j := by
    unfold State.copy
    rw [hend.records.copies]
  have hframe (j : Nat) : t.frame j = ((s.started 8 w).resetHandled p).1.frame j := by
    unfold State.frame
    rw [hend.records.frames]
  have hheld (g : GroupId) : t.heldCopies g = ((s.started 8 w).resetHandled p).1.heldCopies g := by
    unfold State.heldCopies
    rw [hend.hold]
  have hqueue (q : Port) (c : Cls) : t.queue q c = ((s.started 8 w).resetHandled p).1.queue q c := by
    unfold State.queue
    rw [hend.queues]
  refine ⟨⟨?_, fun g => ?_, fun q c => ?_, fun q => ?_, fun j hj => ?_, fun j hj k hk f hf => ?_⟩, ?_⟩
  · rw [hend.acct, ha.acct]
    exact s.resetReady_count p w via _
  · rw [hheld, ha.held]
    refine congrArg (s.heldCopies g ++ ·) (filter_append_left fun j hj => ?_)
    exact decide_eq_false (State.resetFateOf_held (hdirect j hj) g)
  · rw [hqueue, ha.queue]
    have hj : (via ++ direct.reverse).filter (fun j => decide (s.resetFateOf p via j = some (.joins q) ∧
        (s.copy j).map (fun k => k.cls) = some c)) = _ :=
      filter_append_left fun j hj => decide_eq_false fun h => State.resetFateOf_joins (hdirect j hj) q h.1
    have hr : (via ++ direct.reverse).filter (fun j => decide (s.resetFateOf p via j = some .returns ∧
        (s.copy j).map (fun k => k.cls) = some c)) = _ :=
      filter_append_right fun j hj => decide_eq_false fun h => State.resetFateOf_via (hvia j hj) h.1
    change (if q = p then ((via ++ direct.reverse).filter fun j => decide (s.resetFateOf p via j = some .returns ∧
        (s.copy j).map (fun k => k.cls) = some c)).reverse else []) ++ (s.queue q c ++ (via ++ direct.reverse).filter fun j =>
        decide (s.resetFateOf p via j = some (.joins q) ∧ (s.copy j).map (fun k => k.cls) = some c)) = _
    rw [hj, hr, List.filter_reverse, List.reverse_reverse]
  · rw [hend.egress]
    have hiff : q ∈ ((s.started 8 w).resetHandled p).2 ↔ tags.any (fun j => decide (s.resetFateOf p via j = some (.joins q) ∨
        q = p ∧ s.resetFateOf p via j = some .returns)) = true := by
      rw [ha.received, List.mem_flatMap, List.any_eq_true]
      refine exists_congr fun j => ?_
      rw [hmem, decide_eq_true_iff]
      exact and_congr_right fun _ => mem_received
    simp only [hiff]
  · rw [hcopy]
    exact ha.copy j (by rwa [hmem])
  · obtain ⟨fate, hfate⟩ : ∃ fate, s.resetFateOf p via j = some fate := ⟨_, State.resetFateOf_of hk hf⟩
    rw [hcopy, hframe, hfate]
    exact ha.met j ((hmem j).2 hj) k hk f hf fate hfate
  · obtain ⟨l, hl⟩ := hend.frees
    refine hl.refreed ?_
    rw [hfreed]
    exact ha.freeList

/-! ## With room in the hold pool, or without via-group copies -/

/-- The posted via-group copies are HELD and the direct ones returned, or retired on a drained port, between `s` and `t`. -/
structure ResetParted (s t : State) (p : Port) (via direct : List Nat) : Prop where
  held : ∀ g : GroupId, t.heldCopies g = s.heldCopies g ++ via.filter fun j => decide ((s.copy j).bind (fun k => k.via) = some g)
  heldCopy : ∀ j ∈ via, ∀ k, s.copy j = some k → t.copy j = some { k with state := .held, port := none }
  queue : ∀ (q : Port) (c : Cls), t.queue q c =
    if q = p ∧ s.isDrained p = false then
      (direct.filter fun j => decide ((s.copy j).map (fun k => k.cls) = some c)) ++ s.queue p c
    else s.queue q c
  directCopy : ∀ j ∈ direct, ∀ k, s.copy j = some k → t.copy j = if s.isDrained p then none else some { k with state := .queued }

theorem ResetEnd.parted {tags : List Nat} (hend : ResetEnd s t p w ((s.started 8 w).resetHandled p))
    (ht : tags = (s.egressPort p).postedInOrder) (hv : via = tags.filter s.isVia) (hd : direct = tags.filter fun j => !s.isVia j)
    (hroom : via = [] ∨ (s.failover.work ≠ [] ∨ s.failover.walk.isSome = true) ∧ s.holdCount + via.length ≤ 4096)
    (hnd : tags.Nodup) (hso : Table.sorted s.failover.hold = true) : ResetParted s t p via direct := by
  have hvia : ∀ j ∈ via, s.isVia j = true := fun j hj => by rw [hv] at hj; exact (List.mem_filter.1 hj).2
  have hdirect : ∀ j ∈ direct.reverse, s.isVia j = false := fun j hj => by
    rw [List.mem_reverse, hd] at hj
    simpa using (List.mem_filter.1 hj).2
  have hperm : (via ++ direct.reverse).Perm tags := by
    rw [hv, hd]
    exact ((List.reverse_perm _).append_left _).trans (List.filter_append_perm _ _)
  have hfilter : (via ++ direct.reverse).filter s.isVia = via := by
    rw [filter_append_left hdirect]
    exact List.filter_eq_self.2 hvia
  have hp := Parted.fold (e := (s.started 8 w).resetReady p) (p := p) (m := via ++ direct.reverse) (acc := []) (.start hso)
    (hperm.nodup_iff.2 hnd) (by
      change (via ++ direct.reverse).filter s.isVia = [] ∨
        s.walkWork = true ∧ s.holdCount + ((via ++ direct.reverse).filter s.isVia).length ≤ 4096
      rw [hfilter, s.walkWork_iff]
      exact hroom)
  rw [List.nil_append, ← State.resetOrder_eq (w := w) ht hv hd] at hp
  change Parted _ _ _ ((s.started 8 w).resetHandled p).1 at hp
  rw [State.resetOrder_eq (w := w) ht hv hd] at hp
  have hcopy (j : Nat) : t.copy j = ((s.started 8 w).resetHandled p).1.copy j := by
    unfold State.copy
    rw [hend.records.copies]
  have hheld (g : GroupId) : t.heldCopies g = ((s.started 8 w).resetHandled p).1.heldCopies g := by
    unfold State.heldCopies
    rw [hend.hold]
  have hqueue (q : Port) (c : Cls) : t.queue q c = ((s.started 8 w).resetHandled p).1.queue q c := by
    unfold State.queue
    rw [hend.queues]
  have hnone (j : Nat) (k : Copy) (hk : s.copy j = some k) (hj : s.isVia j = false) : k.via = none := by
    rw [State.isVia_of hk] at hj
    exact Option.not_isSome_iff_eq_none.1 (by rw [hj]; decide)
  refine ⟨fun g => ?_, fun j hj k hk => ?_, fun q c => ?_, fun j hj k hk => ?_⟩
  · rw [hheld, hp.held]
    refine congrArg (s.heldCopies g ++ ·) (filter_append_left fun j hj => decide_eq_false ?_)
    change ¬(s.copy j).bind (fun k => k.via) = some g
    cases hk : s.copy j with
    | none => exact fun h => nomatch h
    | some k => rw [Option.bind_some, hnone j k hk (hdirect j hj)]; exact fun h => nomatch h
  · rw [hcopy]
    refine hp.heldCopy j (List.mem_append_left _ hj) k hk ?_
    have := hvia j hj
    rwa [State.isVia_of hk] at this
  · rw [hqueue, hp.queue]
    change (if q = p ∧ s.isDrained p = false then ((via ++ direct.reverse).filter fun j => !s.isVia j &&
      decide ((s.copy j).map (fun k => k.cls) = some c)).reverse else []) ++ s.queue q c = _
    by_cases hq : q = p ∧ s.isDrained p = false
    · rw [if_pos hq, if_pos hq, filter_append_right (fun j hj => by rw [hvia j hj]; rfl), List.filter_reverse, List.reverse_reverse,
        hq.1]
      refine congrArg (· ++ s.queue p c) (List.filter_congr fun j hj => ?_)
      rw [hdirect j (List.mem_reverse.2 hj)]
      rfl
    · rw [if_neg hq, if_neg hq]
      rfl
  · rw [hcopy]
    exact hp.directCopy j (List.mem_append_right _ (List.mem_reverse.2 hj)) k hk (hnone j k hk (hdirect j (List.mem_reverse.2 hj)))

end

/-! ## The statement -/

/-- Where a reset returns no cell, the free count is what it was (R17, R19). -/
theorem State.resetBase_supplied (s : State) (p : Port) (freed : List Nat) :
    (s.resetBase p freed).supplied s.freeCount =
      if s.issuedCount p = 0 ∧ freed = [] then (s.resetBase p freed).refill else (s.resetBase p freed).report.refill := by
  unfold State.supplied
  rw [State.resetBase_freeCount]
  refine if_congr ?_ rfl rfl
  rw [← List.length_eq_zero_iff]
  omega

/-- Settles O54. -/
theorem portResetOutcome : Obligations.PortResetOutcome := fun w s hs ha => by
  rw [show Instr.portReset w = commandRow 8 w from rfl, exec_commandRow_of_free hs]
  have hbody : (s.started 8 w).commandBody 8 w.slot =
      match portOf (argPort (s.argsWith w)) with
      | some p => ((s.started 8 w).portReset p).done w.slot .none 0
      | none => (s.started 8 w).fail w.slot .argument := by
    rw [← s.started_args 8 w]
    exact State.withPortArg_of_active (s := s.started 8 w) ha _ _
  refine ⟨fun hq hn => ?argument, fun p tags via direct hp ht hv hd => ?port⟩
  case argument => rw [hbody, portOf_eq_none hn]; exact congrArg _ (State.started_fail_finish hq _ _ _)
  case port =>
    rw [hbody, portOf_eq_some.2 hp]
    have hend := s.portReset_end p w
    dsimp only
    generalize (((s.started 8 w).portReset p).done w.slot .none 0).finish = t at *
    have hegress := hend.egress p
    rw [if_pos rfl] at hegress
    refine ⟨t, rfl, ?_, fun q hq => ⟨?_, hend.others q hq, ?_⟩, by rw [hegress], by rw [hegress], by rw [hegress], by rw [hegress],
      by rw [hegress], hend.stall, hend.count, hend.liveness, hend.groups, hend.slot, hend.slots, hend.tables, hend.mode.trans ha,
      hend.staging, (State.outOfService_stations hend.service : _ = (s.stopStall p).lookup.stations), hend.meters, ?_, hend.service, fun htarget => ?_,
      fun order freed s1 base hso hnd hcopies hapart horder hfreed hcells hs1 hbase => ?_, fun hroom hnd hso => ?_⟩
    · rw [hend.intake, if_pos rfl]; rfl
    · rw [hend.intake, if_neg hq]
    · rw [hend.egress, if_neg hq]
    · unfold State.isDrained; rw [hend.drained]
    · obtain ⟨hpos, hlap, hlt⟩ := hend.ring htarget
      refine ⟨hpos, hlap, fun hq hpok i hi => ?_⟩
      obtain ⟨l, hl⟩ := hend.frees
      obtain ⟨hsup, hdel⟩ := hend.supplies l hl
      refine State.resetBase_readBytes hq hpok hend.winbase (hdel hq).2 (fun x hx n hn => ?_) ?_ hlt hi
      · rw [List.mem_singleton.1 hx]
        refine s.ownWrite_clearOf (.inr ?_)
        have := p.isLt
        unfold slotOffset Config.commandSlots Config.freeCellRings
        omega
      · rw [hsup.2.1]
    · obtain ⟨hfates, hl⟩ := hend.fates ht hv hd hso hnd hcopies hapart (by rw [hfreed, horder]) hcells
      obtain ⟨hsup, hdel⟩ := hend.supplies freed hl
      have hs1' : s1 = s.resetBase p freed := hs1
      rw [State.resetBase_supplied, ← hs1', ← hbase] at hsup hdel
      refine ⟨?_, hsup, hdel, by rw [horder]; exact hfates.acct, hfates.held, hfates.queue, hfates.owed, hfates.others,
        fun j hj k hk f hf => ?_⟩
      · rw [hs1]
        show Runs.toList (Runs.pushAll (Runs.append s.cells.freeList (s.cellPort p).issued) freed) = _
        rw [Runs.toList_pushAll, Runs.toList_append]
      · obtain ⟨hcopy, hframe⟩ := hfates.met j hj k hk f hf
        rw [State.resetFateOf_of hk hf] at hcopy hframe ⊢
        generalize s.resetFate p _ k f = fate at *
        cases fate <;> exact ⟨hcopy, hframe⟩
    · obtain ⟨hheld, hheldCopy, hqueue, hdirectCopy⟩ := hend.parted ht hv hd hroom hnd hso
      exact ⟨hheld, hheldCopy, hqueue, hdirectCopy⟩

end Sys2Proof.Machine
end

section
/-! What the copies of a frame under formation count and record (R14, R93): counts in any order, target-port sets, link words. -/
namespace Sys2Proof.Machine

/-! ## Counts -/

theorem satAdd_one_pos (top a : Nat) (h : 0 < top) : satAdd top a 1 ≠ 0 := by
  unfold satAdd
  split <;> omega

theorem TenantRecord.addDrop_ne (c : DropCause) (r : TenantRecord) : TenantRecord.addDrop c r ≠ TenantRecord.zero := fun h => by
  have hpos : satAdd max32 (r.drops.getD c.index 0) 1 ≠ 0 := satAdd_one_pos _ _ (by decide)
  have hdrops : (r.drops.setD c.index (satAdd max32 (r.drops.getD c.index 0) 1) 0).getD c.index 0 = 0 :=
    congrArg (fun x : TenantRecord => x.drops.getD c.index 0) h
  rw [Table.getD_setD, if_pos rfl] at hdrops
  exact hpos hdrops

theorem TenantRecord.addAdmitted_ne (k : Colour) (r : TenantRecord) : TenantRecord.addAdmitted k r ≠ TenantRecord.zero := fun h => by
  cases k with
  | committed => exact satAdd_one_pos max32 r.admittedCommitted (by decide) (congrArg TenantRecord.admittedCommitted h)
  | excess => exact satAdd_one_pos max32 r.admittedExcess (by decide) (congrArg TenantRecord.admittedExcess h)

/-- Two updates of a tenant's live record are one. -/
theorem State.updateLive_updateLive (s : State) (n : Tenant) {a b : TenantRecord → TenantRecord} (ha : ∀ r, a r ≠ TenantRecord.zero)
    (hb : ∀ r, b r ≠ TenantRecord.zero) : (s.updateLive n a).updateLive n b = s.updateLive n fun r => b (a r) := by
  have hrec : (s.updateLive n a).tenantRecord s.acct.live n = a (s.tenantRecord s.acct.live n) := by
    unfold State.updateLive State.setTenantRecord State.tenantRecord
    rw [Table.getD_setD, if_pos rfl]
  have hset : (s.updateLive n a).updateLive n b =
      (s.updateLive n a).setTenantRecord s.acct.live n (b ((s.updateLive n a).tenantRecord s.acct.live n)) := rfl
  rw [hset, hrec]
  unfold State.updateLive State.setTenantRecord
  rw [Table.setD_setD_self _ _ _ (ha _) (hb _)]

theorem State.countAdmitted_countDrop (s : State) (k : Colour) (c : DropCause) (n : Tenant) :
    (s.countAdmitted k n).countDrop c n = (s.countDrop c n).countAdmitted k n := by
  unfold State.countAdmitted State.countDrop
  rw [State.updateLive_updateLive _ _ (TenantRecord.addAdmitted_ne k) (TenantRecord.addDrop_ne c),
    State.updateLive_updateLive _ _ (TenantRecord.addDrop_ne c) (TenantRecord.addAdmitted_ne k)]
  cases k <;> rfl

/-- The drops of a list of causes are counted against one tenant. -/
def State.countDrops (s : State) (n : Tenant) (l : List DropCause) : State := l.foldl (fun a c => a.countDrop c n) s

theorem State.countDrops_snoc (s : State) (n : Tenant) (l : List DropCause) (c : DropCause) :
    s.countDrops n (l ++ [c]) = (s.countDrops n l).countDrop c n := by
  unfold State.countDrops
  rw [List.foldl_append]
  rfl

/-- An admitted frame is counted ahead of the drops or behind them. -/
theorem State.countDrops_countAdmitted (s : State) (n : Tenant) (l : List DropCause) (k : Colour) :
    (s.countDrops n l).countAdmitted k n = (s.countAdmitted k n).countDrops n l := by
  induction l generalizing s with
  | nil => rfl
  | cons c l ih =>
    show ((s.countDrop c n).countDrops n l).countAdmitted k n = ((s.countAdmitted k n).countDrop c n).countDrops n l
    rw [ih, State.countAdmitted_countDrop]

theorem State.updateLive_acct_congr {s u : State} (h : u.acct = s.acct) (n : Tenant) (a : TenantRecord → TenantRecord) :
    (u.updateLive n a).acct = (s.updateLive n a).acct := by
  unfold State.updateLive State.setTenantRecord State.tenantRecord
  rw [h]

theorem State.countDrops_acct_congr {s u : State} (h : u.acct = s.acct) (n : Tenant) (l : List DropCause) :
    (u.countDrops n l).acct = (s.countDrops n l).acct := by
  induction l generalizing s u with
  | nil => exact h
  | cons c l ih => exact ih (State.updateLive_acct_congr h n _)

/-! ## Target-port sets -/

/-- Ports in ascending order, as a target-port set is kept (R11). -/
theorem pairwise_addPort {p : Port} {l : List Port} (h : l.Pairwise (· < ·)) : (addPort p l).Pairwise (· < ·) := by
  induction l with
  | nil => exact List.pairwise_singleton _ _
  | cons q l ih =>
    obtain ⟨hq, hl⟩ := List.pairwise_cons.1 h
    unfold addPort
    split
    · rename_i hpq
      refine List.pairwise_cons.2 ⟨fun r hr => ?_, h⟩
      rcases List.mem_cons.1 hr with rfl | hr
      exacts [hpq, lt_trans hpq (hq r hr)]
    · split
      · exact h
      · rename_i hlt hne
        refine List.pairwise_cons.2 ⟨fun r hr => ?_, ih hl⟩
        have hmem := (mem_foldl_addPort (q := r) l [p]).1 hr
        rcases hmem with hr | hr
        · exact hq r hr
        · rw [List.mem_singleton.1 hr]
          exact lt_of_le_of_ne (not_lt.1 hlt) (Ne.symm hne)

/-- A port joins a set given by what belongs to it. -/
theorem addPort_filter (p : Port) (P : Port → Bool) :
    addPort p (allPorts.filter P) = allPorts.filter fun q => P q || decide (q = p) := by
  have hall : allPorts.Pairwise (· < ·) := List.pairwise_lt_finRange 48
  refine List.Pairwise.eq_of_mem_iff (r := (· < ·)) (pairwise_addPort (hall.filter _)) (hall.filter _) fun q => ?_
  have hmem := mem_foldl_addPort (q := q) (allPorts.filter P) [p]
  refine hmem.trans ?_
  have hin : q ∈ allPorts := List.mem_finRange q
  simp [List.mem_filter, hin]

theorem filter_eq_singleton (p : Port) : allPorts.filter (fun q => decide (q = p)) = [p] := by
  have h := addPort_filter p fun _ => false
  rw [List.filter_eq_nil_iff.2 fun _ _ => Bool.false_ne_true] at h
  simpa [addPort] using h.symm

/-! ## Link words -/

/-- Each cell of a frame links to the next, the last to none (R9). -/
theorem linkEach_zip {cells : List Nat} (hnd : cells.Nodup) (m : Table (Option Nat)) :
    ∀ x ∈ cells.zip ((cells.drop 1).map some ++ [none]), (linkEach cells m).find x.1 = some x.2 := by
  induction cells generalizing m with
  | nil => exact fun x hx => absurd hx List.not_mem_nil
  | cons c rest ih =>
    obtain ⟨hc, hrest⟩ := List.nodup_cons.1 hnd
    intro x hx
    have hput : (linkEach (c :: rest) m).find c = some rest.head? := (linkEach_find _ hc).trans (Table.find_put_self ..)
    cases rest with
    | nil =>
      obtain rfl := List.mem_singleton.1 hx
      exact hput
    | cons d rest =>
      rcases List.mem_cons.1 hx with rfl | hx
      · exact hput
      · exact ih hrest _ x hx

end Sys2Proof.Machine
end

section
/-! One copy of a frame under formation (R14, R77, R84, R93): what every record reads behind its creation. -/
namespace Sys2Proof.Machine

/-! ## The frame record -/

/-- The record with which a frame is entered, ahead of its first copy (R10, R14). -/
def Forming.fresh (f : Forming) : Frame :=
  { tenant := f.tenant, length := f.length, cellCount := f.cellCount, colour := f.colour, flowHash := f.flowHash, copyCount := 0,
    ports := [] }

theorem State.enterFrame_eq (s : State) (f : Forming) :
    s.enterFrame f =
      { s with
        cells := { s.cells with frames := s.cells.frames.put f.first f.fresh }
        admission := (s.enterFrame f).admission
        acct := (s.countAdmitted f.colour f.tenant).acct } := by
  unfold State.enterFrame
  dsimp only
  split <;> rfl

theorem State.enterFrame_admission_congr {s u : State} (h : u.admission = s.admission) (f : Forming) :
    (u.enterFrame f).admission = (s.enterFrame f).admission := by
  have hm : (u.setFrame f.first f.fresh).meter f.tenant = (s.setFrame f.first f.fresh).meter f.tenant := by
    show u.meter f.tenant = s.meter f.tenant
    unfold State.meter
    rw [h]
  have hset (v : State) (w : State) (hvw : v.admission = w.admission) :
      ((v.setHeldCells f.tenant (v.heldCells f.tenant + f.cellCount)).countAdmitted f.colour f.tenant).admission =
        ((w.setHeldCells f.tenant (w.heldCells f.tenant + f.cellCount)).countAdmitted f.colour f.tenant).admission := by
    show { v.admission with held := v.admission.held.setD f.tenant (v.heldCells f.tenant + f.cellCount) 0 } =
      { w.admission with held := w.admission.held.setD f.tenant (w.heldCells f.tenant + f.cellCount) 0 }
    unfold State.heldCells
    rw [hvw]
  refine hset _ _ ?_
  by_cases hc : f.colour = .committed
  · rw [if_pos hc, if_pos hc]
    have hmeter (v w : State) (hvw : v.admission = w.admission) (m : Meter) :
        (v.setMeter f.tenant m).admission = (w.setMeter f.tenant m).admission := by
      unfold State.setMeter
      rw [hvw]
    exact (congrArg (fun m : Meter => ((u.setFrame f.first f.fresh).setMeter f.tenant
      { m with tokens := m.tokens - frameCost f.length }).admission) hm).trans (hmeter _ (s.setFrame f.first f.fresh) h _)
  · rw [if_neg hc, if_neg hc]
    exact h

/-- The state the frame record is entered or found in for one copy more. -/
def State.framed (s : State) (f : Forming) : State := if (s.frame f.first).isNone then s.enterFrame f else s

/-- The record of a frame under formation, entered or not. -/
def State.forming (s : State) (f : Forming) : Frame := (s.frame f.first).getD f.fresh

theorem State.framed_frame (s : State) (f : Forming) (j : Nat) :
    (s.framed f).frame j = if j = f.first then some (s.forming f) else s.frame j := by
  unfold State.framed State.forming
  cases hf : s.frame f.first with
  | none =>
    rw [Option.isNone_none, if_pos rfl, State.enterFrame_eq]
    exact Table.find_put ..
  | some fr =>
    rw [Option.isNone_some, if_neg Bool.false_ne_true]
    by_cases hj : j = f.first
    · rw [if_pos hj, hj, hf]; rfl
    · rw [if_neg hj]

theorem State.framed_eq (s : State) (f : Forming) :
    s.framed f =
      { s with
        cells := { s.cells with frames := (s.framed f).cells.frames }
        admission := if (s.frame f.first).isNone then (s.enterFrame f).admission else s.admission
        acct := if (s.frame f.first).isNone then (s.countAdmitted f.colour f.tenant).acct else s.acct } := by
  unfold State.framed
  split
  · rw [State.enterFrame_eq]
  · rfl

/-! ## The copy -/

/-- The target-port set with the copy's port, if it has one. -/
def Place.joined (ports : List Port) : Place → List Port
  | .queue p => addPort p ports
  | .hold _ => ports

/-- Copy `tag`, of record `k`, has been created for frame `f` between `u` and `v`, and has taken its place. -/
structure Created (u v : State) (f : Forming) (tag : Nat) (k : Copy) (place : Place) : Prop where
  copy : ∀ j, v.copy j = if j = tag then some k else u.copy j
  frame : ∀ j, v.frame j = if j = f.first then
    some { u.forming f with copyCount := (u.forming f).copyCount + 1, ports := place.joined (u.forming f).ports } else u.frame j
  cells : v.cells = { u.cells with
    frames := v.cells.frames, copies := v.cells.copies, freeCopies := Runs.drop 1 u.cells.freeCopies }
  admission : v.admission = if (u.frame f.first).isNone then (u.enterFrame f).admission else u.admission
  acct : v.acct = if (u.frame f.first).isNone then (u.countAdmitted f.colour f.tenant).acct else u.acct
  queue : ∀ (q : Port) (c : Cls), v.queue q c = u.queue q c ++ if place = .queue q ∧ c = f.cls then [tag] else []
  held : ∀ g : GroupId, v.heldCopies g = u.heldCopies g ++ if place = .hold g then [tag] else []
  pool : ∀ g : GroupId, place = .hold g → v.failover.hold = u.failover.hold.setD g (u.heldCopies g ++ [tag]) []
  poolRest : (∀ g : GroupId, place ≠ .hold g) → v.failover = u.failover
  queuesRest : (∀ q : Port, place ≠ .queue q) → v.queues = u.queues
  egress : ∀ q : Port, v.egressPort q =
    { u.egressPort q with owed := (u.egressPort q).owed + if place = .queue q then 1 else 0 }
  outside : u.sameOutside [.cells, .admission, .queues, .failover, .acct] v

/-- The state whose copy record, frame record and copy count are made, ahead of the copy's place. -/
def State.recorded (u : State) (f : Forming) (tag : Nat) (k : Copy) : State :=
  let s1 : State := { u with cells := { u.cells with freeCopies := Runs.drop 1 u.cells.freeCopies } }
  ((s1.setCopy tag k).framed f).raiseCopies f.first

theorem State.recorded_eq (u : State) (f : Forming) (tag : Nat) (k : Copy) :
    u.recorded f tag k =
      { u with
        cells := { u.cells with
          frames := (u.recorded f tag k).cells.frames, copies := u.cells.copies.put tag k
          freeCopies := Runs.drop 1 u.cells.freeCopies }
        admission := if (u.frame f.first).isNone then (u.enterFrame f).admission else u.admission
        acct := if (u.frame f.first).isNone then (u.countAdmitted f.colour f.tenant).acct else u.acct } ∧
      ∀ j, (u.recorded f tag k).frame j =
        if j = f.first then some { u.forming f with copyCount := (u.forming f).copyCount + 1 } else u.frame j := by
  obtain ⟨u2, hu2⟩ : ∃ u2, u2 =
      ({ u with cells := { u.cells with freeCopies := Runs.drop 1 u.cells.freeCopies } } : State).setCopy tag k := ⟨_, rfl⟩
  have hrec : u.recorded f tag k = (u2.framed f).raiseCopies f.first := by rw [hu2]; rfl
  have hframe2 (j : Nat) : u2.frame j = u.frame j := by rw [hu2]; rfl
  have hforming : u2.forming f = u.forming f := by unfold State.forming; rw [hframe2]
  have hadm : (u2.enterFrame f).admission = (u.enterFrame f).admission := State.enterFrame_admission_congr (by rw [hu2]; rfl) f
  have hacct : (u2.countAdmitted f.colour f.tenant).acct = (u.countAdmitted f.colour f.tenant).acct :=
    State.updateLive_acct_congr (by rw [hu2]; rfl) _ _
  have hraise (w : State) (fr : Frame) (h : w.frame f.first = some fr) :
      w.raiseCopies f.first = w.setFrame f.first { fr with copyCount := fr.copyCount + 1 } := by
    unfold State.raiseCopies
    rw [h]
  have hfr := State.framed_frame u2 f
  have hfirst : (u2.framed f).frame f.first = some (u.forming f) := by rw [hfr, if_pos rfl, hforming]
  rw [hrec, hraise _ _ hfirst]
  refine ⟨?_, fun j => ?_⟩
  · have heq := u2.framed_eq f
    rw [hframe2, hadm, hacct] at heq
    rw [heq, hu2]
    rfl
  · refine (State.setFrame_frame ..).trans ?_
    by_cases hj : j = f.first
    · rw [if_pos hj, if_pos hj]
    · rw [if_neg hj, if_neg hj, hfr, if_neg hj, hframe2]

theorem State.createCopy_eq {u : State} {f : Forming} (ha : u.copyAvailable f = true) {tag : Nat} {rest : List Nat}
    (ht : Runs.toList u.cells.freeCopies = tag :: rest) (place : Place) (via : Option GroupId) (mark : Bool) :
    u.createCopy f place via mark = (u.recorded f tag (u.newCopy f place via mark)).placeNew tag f.first place f.cls := by
  have htag : (Runs.toList (Runs.take 1 u.cells.freeCopies)).headD 0 = tag := by
    rw [Runs.toList_take, ht]
    rfl
  unfold State.createCopy
  rw [if_pos ha, htag]
  rfl

/-- A copy is created where a record can be had (R14). -/
theorem State.createCopy_created {u : State} {f : Forming} (ha : u.copyAvailable f = true) {tag : Nat} {rest : List Nat}
    (ht : Runs.toList u.cells.freeCopies = tag :: rest) (place : Place) (via : Option GroupId) (mark : Bool) :
    Created u (u.createCopy f place via mark) f tag (u.newCopy f place via mark) place := by
  rw [State.createCopy_eq ha ht]
  obtain ⟨heq, hframe⟩ := u.recorded_eq f tag (u.newCopy f place via mark)
  generalize u.recorded f tag (u.newCopy f place via mark) = w at *
  generalize u.newCopy f place via mark = k at *
  have hcopy (j : Nat) : w.copy j = if j = tag then some k else u.copy j := by
    rw [heq]
    exact Table.find_put ..
  have hqueue (q : Port) (c : Cls) : w.queue q c = u.queue q c := by rw [heq]; rfl
  have hegress (q : Port) : w.egressPort q = u.egressPort q := by rw [heq]; rfl
  have hheld (g : GroupId) : w.heldCopies g = u.heldCopies g := by rw [heq]; rfl
  have hout : u.sameOutside [.cells, .admission, .queues, .failover, .acct] w := by
    rw [heq]
    simp [State.sameOutside]
  cases place with
  | queue p =>
    have hfirst : (w.setQueue p f.cls (w.queue p f.cls ++ [tag])).frame f.first =
        some { u.forming f with copyCount := (u.forming f).copyCount + 1 } := by
      show w.frame f.first = _
      rw [hframe, if_pos rfl]
    have hjoin : (w.setQueue p f.cls (w.queue p f.cls ++ [tag])).joinPort f.first p =
        (w.setQueue p f.cls (w.queue p f.cls ++ [tag])).setFrame f.first
          { u.forming f with copyCount := (u.forming f).copyCount + 1, ports := addPort p (u.forming f).ports } := by
      unfold State.joinPort
      rw [hfirst]
    unfold State.placeNew
    dsimp only
    rw [hjoin]
    refine ⟨hcopy, fun j => ?_, ?_, ?_, ?_, fun q c => ?_, fun g => ?_, nofun, fun _ => ?_, fun h => absurd rfl (h p), fun q => ?_,
      ((hout.andThen (State.queues_outside _ _)).andThen (State.setFrame_outside _ _ _)).andThen (State.owe_outside _ _)⟩
    · refine (State.setFrame_frame ..).trans ?_
      by_cases hj : j = f.first
      · rw [if_pos hj, if_pos hj]; rfl
      · rw [if_neg hj, if_neg hj]
        exact (hframe j).trans (if_neg hj)
    · show ({ w.cells with frames := _ } : CellManager) = _
      rw [heq]
      rfl
    · exact congrArg State.admission heq
    · exact congrArg State.acct heq
    · refine (State.setQueue_queue ..).trans ?_
      rw [hqueue]
      by_cases h : q = p ∧ c = f.cls
      · obtain ⟨rfl, rfl⟩ := h
        rw [if_pos ⟨rfl, rfl⟩, if_pos ⟨rfl, rfl⟩]
      · rw [if_neg h, if_neg fun e => h ⟨(Place.queue.inj e.1).symm, e.2⟩, hqueue, List.append_nil]
    · rw [if_neg (by nofun), List.append_nil]
      exact hheld g
    · show w.failover = _
      rw [heq]
    · refine (State.setEgressPort_egressPort ..).trans ?_
      by_cases h : q = p
      · subst h
        rw [if_pos rfl, if_pos rfl]
        show { w.egressPort q with owed := (w.egressPort q).owed + 1 } = _
        rw [hegress]
      · rw [if_neg h, if_neg fun e => h (Place.queue.inj e).symm]
        exact hegress q
  | hold g =>
    refine ⟨hcopy, hframe, ?_, ?_, ?_, fun q c => ?_, fun h => ?_, fun h e => ?_, fun h => absurd rfl (h g),
      fun _ => ?_, fun q => ?_, hout.andThen (State.failover_outside _ _)⟩
    · show w.cells = _
      rw [heq]
      rfl
    · exact congrArg State.admission heq
    · exact congrArg State.acct heq
    · rw [if_neg (by nofun), List.append_nil]
      exact hqueue q c
    · refine (State.setHeldCopies_heldCopies ..).trans ?_
      rw [hheld]
      by_cases hg : h = g
      · subst hg; rw [if_pos rfl, if_pos rfl]
      · rw [if_neg hg, if_neg fun e => hg (Place.hold.inj e).symm, hheld, List.append_nil]
    · obtain rfl := Place.hold.inj e
      show w.failover.hold.setD g (w.heldCopies g ++ [tag]) [] = _
      rw [hheld, heq]
    · show w.queues = _
      rw [heq]
    · rw [if_neg (by nofun)]
      exact hegress q

end Sys2Proof.Machine
end

section
/-! The copies of a frame under formation, one after another, with the drops and notices between them (R14, R66, R67). -/
namespace Sys2Proof.Machine

/-! ## Steps that are copied -/

/-- Where the copy of a step goes. -/
def ListStep.toPlace : ListStep → Option Place
  | .port q _ => some (.queue q)
  | .held g => some (.hold g)
  | .deep _ _ _ => none

/-- The record of the copy of a step. -/
def State.stepCopy (s : State) (f : Forming) : ListStep → Option Copy
  | .port q via => some (s.queuedCopy f q via)
  | .held g => some (s.heldCopy f g)
  | .deep _ _ _ => none

/-- The step takes room in the hold pool. -/
def ListStep.isHeld : ListStep → Bool
  | .held _ => true
  | _ => false

theorem ListStep.same_port {y : ListStep} {place : Place} (h : y.toPlace = some place) (q : Port) :
    y.same (.port q none) = decide (place = .queue q) := by
  cases y with
  | port r via =>
    obtain rfl := Option.some.inj h
    simp [ListStep.same]
  | held g =>
    obtain rfl := Option.some.inj h
    simp [ListStep.same]
  | deep => cases h

theorem ListStep.same_held {y : ListStep} {place : Place} (h : y.toPlace = some place) (g : GroupId) :
    y.same (.held g) = decide (place = .hold g) := by
  cases y with
  | port r via =>
    obtain rfl := Option.some.inj h
    simp [ListStep.same]
  | held g =>
    obtain rfl := Option.some.inj h
    simp [ListStep.same]
  | deep => cases h

/-- The tags of the copies that these steps have come to, of those that satisfy `P`. -/
def tagsOf (tags : List Nat) (made : List ListStep) (P : ListStep → Bool) : List Nat :=
  ((tags.zip made).filter fun x => P x.2).map (·.1)

theorem split_of_drop {tags : List Nat} {n tag : Nat} {rest : List Nat} (hd : tags.drop n = tag :: rest) :
    tags = tags.take n ++ tag :: rest ∧ (tags.take n).length = n := by
  refine ⟨by rw [← hd, List.take_append_drop], ?_⟩
  have := congrArg List.length hd
  rw [List.length_drop, List.length_cons] at this
  rw [List.length_take]
  omega

theorem zip_snoc {tags : List Nat} {made : List ListStep} {tag : Nat} {rest : List Nat} (hd : tags.drop made.length = tag :: rest)
    (y : ListStep) : tags.zip (made ++ [y]) = tags.zip made ++ [(tag, y)] := by
  obtain ⟨hsplit, hlen⟩ := split_of_drop hd
  generalize tags.take made.length = a at hsplit hlen
  subst hsplit
  have h1 : (a ++ tag :: rest).zip (made ++ [y]) = a.zip made ++ (tag :: rest).zip [y] := List.zip_append hlen
  have h2 : (a ++ tag :: rest).zip (made ++ []) = a.zip made ++ (tag :: rest).zip [] := List.zip_append hlen
  rw [List.append_nil, List.zip_nil_right, List.append_nil] at h2
  rw [h1, h2]
  simp

theorem tagsOf_snoc {tags : List Nat} {made : List ListStep} {tag : Nat} {rest : List Nat} (hd : tags.drop made.length = tag :: rest)
    (y : ListStep) (P : ListStep → Bool) : tagsOf tags (made ++ [y]) P = tagsOf tags made P ++ if P y = true then [tag] else [] := by
  unfold tagsOf
  rw [zip_snoc hd, List.filter_append, List.map_append, List.filter_cons]
  by_cases h : P y = true
  · rw [if_pos h, if_pos h]; rfl
  · rw [if_neg h, if_neg h]; rfl

/-! ## The copies so far -/

/-- Between `s` and `u` the frame under formation has come to these copies, drops and notices. -/
structure Copied (s u : State) (f : Forming) (made : List ListStep) (drops : List DropCause) (asks : List NoticeAsk) : Prop where
  replicates : Replicates s u
  room : made.length ≤ (Runs.toList s.cells.freeCopies).length
  free : Runs.toList u.cells.freeCopies = (Runs.toList s.cells.freeCopies).drop made.length
  copyNew : ∀ x ∈ (Runs.toList s.cells.freeCopies).zip made, u.copy x.1 = s.stepCopy f x.2
  copyOld : ∀ j, j ∉ (Runs.toList s.cells.freeCopies).take made.length → u.copy j = s.copy j
  frame : u.frame f.first =
    if made = [] then none
    else some { f.fresh with copyCount := made.length, ports := allPorts.filter fun q => made.any (·.same (.port q none)) }
  frames : ∀ j, j ≠ f.first → u.frame j = s.frame j
  cells : u.cells = { s.cells with frames := u.cells.frames, copies := u.cells.copies, freeCopies := u.cells.freeCopies }
  idle : made = [] → u.cells = s.cells ∧ u.queues = s.queues ∧ u.failover = s.failover
  poolIdle : made.all (fun y => !y.isHeld) = true → u.failover = s.failover
  queuesIdle : made.all ListStep.isHeld = true → u.queues = s.queues
  admission : u.admission = if made = [] then s.admission else (s.enterFrame f).admission
  acct : u.acct = ((if made = [] then s else s.countAdmitted f.colour f.tenant).countDrops f.tenant drops).acct
  queue : ∀ (q : Port) (c : Cls), u.queue q c =
    s.queue q c ++ if c = f.cls then tagsOf (Runs.toList s.cells.freeCopies) made (·.same (.port q none)) else []
  held : ∀ g : GroupId, u.heldCopies g = s.heldCopies g ++ tagsOf (Runs.toList s.cells.freeCopies) made (·.same (.held g))
  pool : Table.sorted s.failover.hold = true →
    Table.sorted u.failover.hold = true ∧ u.holdCount = s.holdCount + (made.filter ListStep.isHeld).length
  egress : ∀ q : Port, u.egressPort q =
    { s.egressPort q with owed := (s.egressPort q).owed + (made.filter (·.same (.port q none))).length }
  follows : Agrees (s.noticed asks) u
  sent : u.bus.sent = s.bus.sent

section
variable {s u : State} {f : Forming} {made : List ListStep} {drops : List DropCause} {asks : List NoticeAsk}

theorem Copied.start (h : s.frame f.first = none) : Copied s s f [] [] [] where
  replicates := .refl s
  room := Nat.zero_le _
  free := rfl
  copyNew x hx := by rw [List.zip_nil_right] at hx; exact absurd hx List.not_mem_nil
  copyOld _ _ := rfl
  frame := h
  frames _ _ := rfl
  cells := rfl
  idle _ := ⟨rfl, rfl, rfl⟩
  poolIdle _ := rfl
  queuesIdle _ := rfl
  admission := rfl
  acct := rfl
  queue q c := by simp [tagsOf]
  held g := by simp [tagsOf]
  pool h := ⟨h, rfl⟩
  egress _ := rfl
  follows := .refl s
  sent := rfl

/-- One drop more. -/
theorem Copied.drop (h : Copied s u f made drops asks) (c : DropCause) :
    Copied s (u.countDrop c f.tenant) f made (drops ++ [c]) asks :=
  { h with
    replicates := h.replicates.trans (.of_outside (u.countDrop_outside _ _))
    acct := by
      rw [State.countDrops_snoc]
      exact State.updateLive_acct_congr h.acct _ _
    follows := h.follows.agrees ((u.countDrop_outside c f.tenant).agrees)
    sent := h.sent }

/-- One notice more. -/
theorem Copied.ask (h : Copied s u f made drops asks) (a : NoticeAsk) :
    Copied s (u.ask a.kind a.subject a.first a.second) f made drops (asks ++ [a]) := by
  have hout := u.ask_outside a.kind a.subject a.first a.second
  have hask : Agrees (s.noticed (asks ++ [a])) (u.ask a.kind a.subject a.first a.second) := by
    rw [State.noticed_append]
    exact h.follows.ask _ _ _ _
  have hrep := h.replicates.trans (.of_outside hout)
  have hsent : (u.ask a.kind a.subject a.first a.second).bus.sent = s.bus.sent := by simpa using h.sent
  generalize u.ask a.kind a.subject a.first a.second = v at *
  have hcopy (j : Nat) : v.copy j = u.copy j := by unfold State.copy; rw [hout.cells]
  have hframe (j : Nat) : v.frame j = u.frame j := by unfold State.frame; rw [hout.cells]
  refine ⟨hrep, h.room, by rw [hout.cells]; exact h.free, fun x hx => by rw [hcopy]; exact h.copyNew x hx,
    fun j hj => by rw [hcopy]; exact h.copyOld j hj, by rw [hframe]; exact h.frame, fun j hj => by rw [hframe]; exact h.frames j hj,
    by rw [hout.cells]; exact h.cells, fun hm => ?_, fun hm => by rw [hout.failover]; exact h.poolIdle hm,
    fun hm => by rw [hout.queues]; exact h.queuesIdle hm, by rw [hout.admission]; exact h.admission, by rw [hout.acct]; exact h.acct,
    fun q c => ?_, fun g => ?_, fun hso => ?_, fun q => ?_, hask, hsent⟩
  · rw [hout.cells, hout.queues, hout.failover]
    exact h.idle hm
  · rw [State.queue_congr hout.queues]
    exact h.queue q c
  · unfold State.heldCopies
    rw [hout.failover]
    exact h.held g
  · unfold State.holdCount
    rw [hout.failover]
    exact h.pool hso
  · rw [State.ring_congr hout.queues]
    exact h.egress q

theorem State.enterFrame_shed (s : State) (f : Forming) : (s.enterFrame f).admission.shed = s.admission.shed := by
  have hset (u : State) : ((u.setHeldCells f.tenant (u.heldCells f.tenant + f.cellCount)).countAdmitted f.colour f.tenant).admission.shed =
      u.admission.shed := rfl
  have hmeter (u : State) (m : Meter) : (u.setMeter f.tenant m).admission.shed = u.admission.shed := rfl
  refine (hset _).trans ?_
  split
  exacts [hmeter _ _, rfl]

theorem Created.agrees {v : State} {tag : Nat} {k : Copy} {place : Place} (h : Created u v f tag k place) : Agrees u v := by
  refine .of_eq (by rw [h.outside.path]) (by rw [h.outside.path]) h.outside.tables (by rw [h.outside.live]) (by rw [h.cells])
    (by rw [h.cells]) ?_ h.outside.notices h.outside.bus
  rw [h.admission]
  split
  exacts [u.enterFrame_shed f, rfl]

/-- One copy more. -/
theorem Copied.copy {y : ListStep} {place : Place} {via : Option GroupId} {mark : Bool} {tag : Nat} {rest : List Nat}
    (h : Copied s u f made drops asks) (hlt : made.length < 48)
    (hd : (Runs.toList s.cells.freeCopies).drop made.length = tag :: rest)
    (hnd : tag ∉ (Runs.toList s.cells.freeCopies).take made.length) (hy : y.toPlace = some place)
    (hk : some (u.newCopy f place via mark) = s.stepCopy f y) :
    Copied s (u.createCopy f place via mark) f (made ++ [y]) drops asks := by
  have hfree : Runs.toList u.cells.freeCopies = tag :: rest := h.free.trans hd
  have hcount : u.copyCount f.first = made.length := by
    unfold State.copyCount
    rw [h.frame]
    cases made <;> rfl
  have ha : u.copyAvailable f = true := by
    unfold State.copyAvailable
    rw [hcount, ← Runs.size_toList, hfree]
    simp [Config.copiesPerFrame, hlt]
  have hc := State.createCopy_created ha hfree place via mark
  have hrep := h.replicates.trans (Replicates.createCopy u f place via mark)
  generalize u.createCopy f place via mark = v at *
  generalize u.newCopy f place via mark = k at *
  have hforming : u.forming f =
      { f.fresh with copyCount := made.length, ports := allPorts.filter fun q => made.any (·.same (.port q none)) } := by
    unfold State.forming
    rw [h.frame]
    cases made with
    | nil => simp [Forming.fresh]
    | cons x l => rfl
  have hnone : (u.frame f.first).isNone = decide (made = []) := by
    rw [h.frame]
    cases made <;> rfl
  obtain ⟨hsplit, hl⟩ := split_of_drop hd
  have hlen : (Runs.toList s.cells.freeCopies).length = made.length + (rest.length + 1) := by
    rw [hsplit, List.length_append, hl, List.length_cons]
  have htake : (Runs.toList s.cells.freeCopies).take (made ++ [y]).length =
      (Runs.toList s.cells.freeCopies).take made.length ++ [tag] := by
    rw [List.length_append, List.length_singleton]
    generalize (Runs.toList s.cells.freeCopies).take made.length = a at *
    rw [hsplit, ← hl, List.take_append, List.take_of_length_le (by omega)]
    simp
  have hne : made ++ [y] ≠ [] := by simp
  have hports (q : Port) : (made ++ [y]).any (·.same (.port q none)) =
      (made.any (·.same (.port q none)) || decide (place = .queue q)) := by
    rw [List.any_append, List.any_cons, List.any_nil, Bool.or_false, ListStep.same_port hy]
  refine ⟨hrep, by simp only [List.length_append, List.length_singleton]; omega, ?_, fun x hx => ?_, fun j hj => ?_, ?_, fun j hj => ?_, ?_,
    fun e => absurd e hne, fun hm => ?_, fun hm => ?_, ?_, ?_, fun q c => ?_, fun g => ?_, fun hso => ?_, fun q => ?_, h.follows.agrees hc.agrees,
    by rw [hc.outside.bus]; exact h.sent⟩
  · rw [hc.cells, Runs.toList_drop, hfree, List.length_append, ← List.drop_drop, hd]
    rfl
  · rw [zip_snoc hd] at hx
    rw [hc.copy]
    rcases List.mem_append.1 hx with hx | hx
    · have hin : x.1 ∈ (Runs.toList s.cells.freeCopies).take made.length := by
        obtain ⟨i, hi, hxi⟩ := List.getElem_of_mem hx
        rw [List.length_zip] at hi
        rw [← hxi, List.getElem_zip]
        exact List.mem_take_iff_getElem.2 ⟨i, by omega, rfl⟩
      rw [if_neg fun e => hnd (by rw [← e]; exact hin)]
      exact h.copyNew x hx
    · obtain rfl := List.mem_singleton.1 hx
      rw [if_pos rfl, hk]
  · rw [htake] at hj
    rw [hc.copy, if_neg fun e => hj (by rw [e]; simp)]
    exact h.copyOld j fun hm => hj (List.mem_append_left _ hm)
  · rw [hc.frame, if_pos rfl, if_neg hne, hforming]
    have hjoin : place.joined (allPorts.filter fun q => made.any (·.same (.port q none))) =
        allPorts.filter fun q => (made ++ [y]).any (·.same (.port q none)) := by
      simp only [hports]
      cases place with
      | queue p =>
        refine (addPort_filter p _).trans (List.filter_congr fun q _ => ?_)
        simp [eq_comm]
      | hold g => simp [Place.joined]
    simp only [hjoin, List.length_append, List.length_singleton]
  · rw [hc.frame, if_neg hj]
    exact h.frames j hj
  · rw [hc.cells, h.cells]
  · rw [List.all_append, Bool.and_eq_true] at hm
    rw [← h.poolIdle hm.1]
    refine hc.poolRest fun g e => ?_
    have hheld := hm.2
    rw [e] at hy
    cases y <;> simp [ListStep.toPlace, ListStep.isHeld] at hy hheld
  · rw [List.all_append, Bool.and_eq_true] at hm
    rw [← h.queuesIdle hm.1]
    refine hc.queuesRest fun q e => ?_
    have hheld := hm.2
    rw [e] at hy
    cases y <;> simp [ListStep.toPlace, ListStep.isHeld] at hy hheld
  · rw [hc.admission, hnone, if_neg hne]
    by_cases hm : made = []
    · rw [if_pos (decide_eq_true hm)]
      have := h.admission
      rw [if_pos hm] at this
      exact State.enterFrame_admission_congr this f
    · rw [if_neg (by simpa using hm), h.admission, if_neg hm]
  · rw [hc.acct, hnone, if_neg hne]
    by_cases hm : made = []
    · rw [if_pos (decide_eq_true hm)]
      have := h.acct
      rw [if_pos hm] at this
      rw [← State.countDrops_countAdmitted]
      exact State.updateLive_acct_congr this _ _
    · rw [if_neg (by simpa using hm), h.acct, if_neg hm]
  · rw [hc.queue, h.queue, tagsOf_snoc hd, ListStep.same_port hy, List.append_assoc]
    by_cases hcls : c = f.cls <;> by_cases hp : place = .queue q <;> simp [hcls, hp]
  · rw [hc.held, h.held, tagsOf_snoc hd, ListStep.same_held hy, List.append_assoc]
    by_cases hp : place = .hold g <;> simp [hp]
  · obtain ⟨h1, h2⟩ := h.pool hso
    rw [List.filter_append, List.length_append, ← Nat.add_assoc, ← h2]
    cases y with
    | port q via' =>
      obtain rfl := Option.some.inj hy
      have hp := hc.poolRest nofun
      unfold State.holdCount
      rw [hp]
      exact ⟨h1, rfl⟩
    | held g =>
      obtain rfl := Option.some.inj hy
      exact State.holdCount_appended h1 (hc.pool g rfl)
    | deep => cases hy
  · rw [hc.egress, h.egress, List.filter_append, List.length_append, List.filter_cons, ListStep.same_port hy]
    by_cases hp : place = .queue q <;> simp [hp, Nat.add_assoc]

end

end Sys2Proof.Machine
end

section
/-! What a target or a list entry served comes to: a copy, or the cause it is dropped under (R14, R66, R67). -/
namespace Sys2Proof.Machine

/-! ## The copy-level check and the mark -/

theorem State.copyFits_eq (s : State) (f : Forming) (q : Port) : s.copyFits f q = s.fits f q := by
  unfold State.copyFits State.fits State.queueBound
  cases f.colour <;> rfl

theorem State.excessMark_eq (s : State) (f : Forming) : s.excessMark f = s.markedExcess f := by
  unfold State.excessMark State.markedExcess TenantEntry.marksExcess
  rw [Bool.decide_and]

theorem State.newCopy_queue (s : State) (f : Forming) (q : Port) (via : Option GroupId) :
    s.newCopy f (.queue q) via (s.copyMark f q) = s.queuedCopy f q via := by
  unfold State.newCopy State.queuedCopy State.copyMark
  rw [State.excessMark_eq]

theorem State.newCopy_hold (s : State) (f : Forming) (g : GroupId) :
    s.newCopy f (.hold g) (some g) (s.excessMark f) = s.heldCopy f g := by
  unfold State.newCopy State.heldCopy
  rw [State.excessMark_eq]

/-- The cell depth of a class queue reads its copies and their frames. -/
theorem State.cellDepth_of {s u : State} {q : Port} {c : Cls} (hq : u.queue q c = s.queue q c)
    (hcopy : ∀ j ∈ s.queue q c, u.copy j = s.copy j) (hframe : ∀ j ∈ s.queue q c, ∀ k, s.copy j = some k → u.frame k.frame = s.frame k.frame) :
    u.cellDepth q c = s.cellDepth q c := by
  unfold State.cellDepth
  rw [hq]
  refine congrArg List.sum (List.map_congr_left fun j hj => ?_)
  unfold State.cellsOfCopy
  rw [hcopy j hj]
  cases hk : s.copy j with
  | none => rfl
  | some k =>
    dsimp only
    rw [hframe j hj k hk]

section
variable {s u : State} {f : Forming} {q : Port}

theorem State.profileOf_congr (ht : u.tables = s.tables) (c : Cls) : u.profileOf q c = s.profileOf q c := by
  unfold State.profileOf
  rw [State.portEntry_congr ht, ht]

theorem State.fits_of (hd : u.cellDepth q f.cls = s.cellDepth q f.cls) (ht : u.tables = s.tables)
    (hfree : u.cells.freeList = s.cells.freeList) : u.fits f q = s.fits f q := by
  unfold State.fits State.freeCount
  rw [hd, State.profileOf_congr ht, hfree]

theorem State.markedExcess_of (ht : u.tables = s.tables) : u.markedExcess f = s.markedExcess f := by
  unfold State.markedExcess State.tenantEntry
  rw [ht]

theorem State.queuedCopy_of (hd : u.cellDepth q f.cls = s.cellDepth q f.cls) (ht : u.tables = s.tables)
    (hlive : u.live.timebase = s.live.timebase) (via : Option GroupId) : u.queuedCopy f q via = s.queuedCopy f q via := by
  unfold State.queuedCopy State.now
  rw [hd, State.profileOf_congr ht, hlive, State.markedExcess_of ht]

theorem State.heldCopy_of (ht : u.tables = s.tables) (hlive : u.live.timebase = s.live.timebase) (g : GroupId) :
    u.heldCopy f g = s.heldCopy f g := by
  unfold State.heldCopy State.now
  rw [hlive, State.markedExcess_of ht]

end

/-! ## Offers -/

section
variable {s u : State} {f : Forming} {made : List ListStep} {drops : List DropCause} {asks : List NoticeAsk} {q : Port}

/-- A class queue no copy of the frame has joined reads as before. -/
theorem Copied.depth (h : Copied s u f made drops asks) (hq : made.any (·.same (.port q none)) = false)
    (hold : ∀ j ∈ s.queue q f.cls, j ∉ (Runs.toList s.cells.freeCopies).take made.length ∧ ∀ k, s.copy j = some k → k.frame ≠ f.first) :
    u.cellDepth q f.cls = s.cellDepth q f.cls := by
  have htags : tagsOf (Runs.toList s.cells.freeCopies) made (·.same (.port q none)) = [] := by
    unfold tagsOf
    rw [List.map_eq_nil_iff, List.filter_eq_nil_iff]
    intro x hx hs
    rw [List.any_eq_false] at hq
    exact hq x.2 (List.of_mem_zip (a := x.1) (b := x.2) hx).2 hs
  refine State.cellDepth_of ?_ (fun j hj => h.copyOld j (hold j hj).1) fun j hj k hk => h.frames _ ((hold j hj).2 k hk)
  rw [h.queue, htags, ite_self, List.append_nil]

/-- No record is to be had for a frame with 48 copies, or with the free copy list empty (R14). -/
theorem Copied.unavailable (h : Copied s u f made drops asks)
    (hn : 48 ≤ made.length ∨ (Runs.toList s.cells.freeCopies).drop made.length = []) : u.copyAvailable f = false := by
  have hcount : u.copyCount f.first = made.length := by
    unfold State.copyCount
    rw [h.frame]
    cases made <;> rfl
  unfold State.copyAvailable
  rw [hcount, ← Runs.size_toList, h.free]
  rcases hn with hn | hn
  · rw [decide_eq_false (by unfold Config.copiesPerFrame; omega : ¬made.length < Config.copiesPerFrame), Bool.and_false]
  · rw [hn]; rfl

theorem Copied.noCopy (h : Copied s u f made drops asks)
    (hn : 48 ≤ made.length ∨ (Runs.toList s.cells.freeCopies).drop made.length = []) (place : Place) (via : Option GroupId) (mark : Bool) :
    Copied s (u.createCopy f place via mark) f made (drops ++ [.noCopy]) asks := by
  unfold State.createCopy
  rw [if_neg (by rw [h.unavailable hn]; decide)]
  exact h.drop .noCopy

section port
variable (h : Copied s u f made drops asks) (hdepth : u.cellDepth q f.cls = s.cellDepth q f.cls)
include h hdepth

theorem Copied.fits : u.copyFits f q = s.fits f q := by
  rw [State.copyFits_eq]
  exact State.fits_of hdepth h.replicates.outside.tables (by rw [h.cells])

theorem Copied.offer_full (via : Option GroupId) (hf : s.fits f q = false) :
    Copied s (u.offerCopy f q via) f made (drops ++ [.queueFull]) asks := by
  unfold State.offerCopy
  rw [if_neg (by rw [h.fits hdepth, hf]; decide)]
  exact h.drop .queueFull

theorem Copied.offer_none (via : Option GroupId) (hf : s.fits f q = true)
    (hn : 48 ≤ made.length ∨ (Runs.toList s.cells.freeCopies).drop made.length = []) :
    Copied s (u.offerCopy f q via) f made (drops ++ [.noCopy]) asks := by
  unfold State.offerCopy
  rw [if_pos ((h.fits hdepth).trans hf)]
  exact h.noCopy hn _ _ _

theorem Copied.offer_copy (via : Option GroupId) {tag : Nat} {rest : List Nat} (hf : s.fits f q = true) (hlt : made.length < 48)
    (hd : (Runs.toList s.cells.freeCopies).drop made.length = tag :: rest)
    (hnd : tag ∉ (Runs.toList s.cells.freeCopies).take made.length) :
    Copied s (u.offerCopy f q via) f (made ++ [.port q via]) drops asks := by
  unfold State.offerCopy
  rw [if_pos ((h.fits hdepth).trans hf)]
  refine h.copy hlt hd hnd rfl ?_
  rw [State.newCopy_queue]
  exact congrArg some (State.queuedCopy_of hdepth h.replicates.outside.tables (by rw [h.replicates.outside.live]) via)

end port

section held
variable (h : Copied s u f made drops asks) (g : GroupId)
include h

theorem Copied.hold_full (hh : 4096 ≤ u.holdCount) : Copied s (u.offerHeld f g) f made (drops ++ [.holdFull]) asks := by
  unfold State.offerHeld
  rw [if_neg (by unfold Config.holdRoom; omega)]
  exact h.drop .holdFull

theorem Copied.hold_none (hh : u.holdCount < 4096)
    (hn : 48 ≤ made.length ∨ (Runs.toList s.cells.freeCopies).drop made.length = []) :
    Copied s (u.offerHeld f g) f made (drops ++ [.noCopy]) asks := by
  unfold State.offerHeld
  rw [if_pos (by unfold Config.holdRoom; omega)]
  exact h.noCopy hn _ _ _

theorem Copied.hold_copy {tag : Nat} {rest : List Nat} (hh : u.holdCount < 4096) (hlt : made.length < 48)
    (hd : (Runs.toList s.cells.freeCopies).drop made.length = tag :: rest)
    (hnd : tag ∉ (Runs.toList s.cells.freeCopies).take made.length) :
    Copied s (u.offerHeld f g) f (made ++ [.held g]) drops asks := by
  unfold State.offerHeld
  rw [if_pos (by unfold Config.holdRoom; omega)]
  refine h.copy hlt hd hnd rfl ?_
  rw [State.newCopy_hold]
  exact congrArg some (State.heldCopy_of h.replicates.outside.tables (by rw [h.replicates.outside.live]) g)

end held

end

end Sys2Proof.Machine
end

section
/-! The taking of a frame that passes the frame-level checks, up to its copies, and its close (O19). -/
namespace Sys2Proof.Machine

section
variable {s s0 : State} {p : Port} {n : RingSlot} {g : Lanes} {d : Descriptor} {f : Forming}

/-- The part ahead of the copies of an admitted frame: learned from, its link words written, its meter refilled. -/
def State.admitting (s : State) (p : Port) (n : RingSlot) (g : Lanes) (d : Descriptor) (f : Forming) : State :=
  (s.learning p n g d f).refillMeter f.tenant

theorem State.admitting_outside :
    s.sameOutside [.cells, .intake, .lookup, .admission, .acct, .notices, .bus] (s.admitting p n g d f) :=
  ((State.learning_outside f).mono (by decide)).andThen (State.admission_outside _ _)

/-- The frame of an admitted descriptor: its fields, and its cells. -/
theorem State.admits_frame (h : s.admits p n g d f) :
    f = s.coloured (s.form p d (s.claimed p d.cellCount)) ∧ f.port = p ∧ f.cellCount = d.cellCount ∧
      f.cells = s.claimed p d.cellCount ∧ f.cells ≠ [] := by
  obtain ⟨-, -, hle, hsize, -, -, -, -, hf, -⟩ := h
  have hcells : f.cells = s.claimed p d.cellCount := by rw [hf]; rfl
  refine ⟨hf, by rw [hf]; rfl, by rw [hf]; rfl, hcells, fun hnil => ?_⟩
  have hlen : (s.claimed p d.cellCount).length = min d.cellCount (s.issuedCount p) := by
    unfold State.claimed
    rw [Runs.size_toList, Runs.size_take]
    rfl
  rw [hcells] at hnil
  rw [hnil, min_eq_left hle] at hlen
  unfold Descriptor.sizeValid cellsFor at hsize
  have := of_decide_eq_true hsize
  rw [← show 0 = d.cellCount from hlen] at this
  omega

/-- The taking of an admitted frame ends with the close of its copies. -/
theorem exec_admitted (h : s.admits p n g d f) {tgt : Target} (hres : (s.learn f).resolve f = some tgt) :
    exec (.takingOfDescriptor p n g) s =
      .next (((s.admitting p n g d f).replicate f tgt).closeTaking f.cells).finish := by
  obtain ⟨hf, -, -, hcells, -⟩ := State.admits_frame h
  obtain ⟨ht, hd, hle, h1, h2, h3, h4, h5, -, hm, hshed, hquota, -⟩ := h
  generalize hf0 : s.form p d (s.claimed p d.cellCount) = f0 at hf
  have hlearning : s.learning p n g d f0 = s.learning p n g d f := by rw [hf]; rfl
  obtain ⟨htenant, hmeter, hheld, hnow, hlshed⟩ := State.learning_reads (s := s) (p := p) (n := n) (g := g) (d := d) f
  have hcoloured : (s.learning p n g d f).coloured f0 = f := by
    have hcongr (u : State) (hu : u.tenantEntry = s.tenantEntry ∧ u.meter = s.meter ∧ u.now = s.now) :
        u.coloured f0 = s.coloured f0 := by
      unfold State.coloured
      rw [hu.1, hu.2.1, hu.2.2]
    rw [hcongr _ ⟨htenant, hmeter, hnow⟩, hf]
  have hcount : f.cellCount = d.cellCount := by rw [hf, ← hf0]; rfl
  have hnone : (s.learning p n g d f).frameRefusal f = none := by
    rw [State.frameRefusal_eq, htenant, hheld, hlshed, if_neg hm, if_neg (by rw [hshed]; decide), if_neg (by rw [hcount]; omega)]
  have hten : f0.tenant = f.tenant := by rw [hf]; rfl
  have hres0 : (s.learn f0).resolve f0 = some tgt := by
    rw [← hres, hf]
    rfl
  rw [exec_taking_claimed ht hd hle (State.takeStages_formed h1 h2 h3 h4 h5 _), hf0, State.forwardFrame_claiming, hres0]
  dsimp only
  rw [State.admitFrame_eq, hlearning, hcoloured, hnone, hten, hcells]
  rfl

theorem TakesAlong.noticed {base u : State} {own : List BusWrite} (h : TakesAlong s base u own) {v : State} (asks : List NoticeAsk)
    (hv : Agrees (u.noticed asks) v) (hsent : v.bus.sent = u.bus.sent) : TakesAlong s (base.noticed asks) v own := by
  have hsilent : (base.noticed asks).silent = base.silent.noticed asks := by
    have key (b : State) (c : CellManager) (i : Table IntakePort) : (b.carrying c i []).noticed asks = (b.noticed asks).carrying c i [] := by
      clear hv
      induction asks generalizing b with
      | nil => rfl
      | cons a l ih =>
        show ((b.carrying c i []).ask _ _ _ _).noticed l = ((b.ask _ _ _ _).noticed l).carrying c i []
        rw [State.carrying_ask]
        exact ih _
    have hcells : (base.noticed asks).cells = base.cells ∧ (base.noticed asks).intake = base.intake := by
      rw [State.noticed_eq]; exact ⟨rfl, rfl⟩
    show (base.noticed asks).carrying (base.noticed asks).cells (base.noticed asks).intake [] = _
    rw [hcells.1, hcells.2]
    exact (key base _ _).symm
  refine ⟨?_, h.gathers.noticed asks, ?_, hsent.trans h.sent⟩
  · rw [State.noticed_eq]
    exact h.writes
  · rw [hsilent]
    exact (h.follows.noticed asks).agrees hv

theorem State.admitting_along (h : s.admits p n g d f) :
    TakesAlong s ((s.learn f).claim f.port f.cellCount) (s.admitting p n g d f)
      (s.linkWrites f.cells ++ [s.crossing (ingressOffset p n) g]) := by
  obtain ⟨-, hp, hc, -, -⟩ := State.admits_frame h
  rw [hp, hc]
  exact (State.learning_along f).agrees (.of_eq rfl rfl rfl rfl rfl rfl rfl rfl rfl) rfl

theorem State.admitting_meter (j : Tenant) :
    (s.admitting p n g d f).meter j =
      if j = f.tenant then refilledMeter (s.tenantEntry f.tenant) (s.meter f.tenant) s.now else s.meter j := by
  obtain ⟨htenant, hmeter, -, hnow, -⟩ := State.learning_reads (s := s) (p := p) (n := n) (g := g) (d := d) f
  unfold State.admitting State.refillMeter
  rw [State.setMeter_meter, htenant, hmeter, hnow]

end

end Sys2Proof.Machine
end

section
/-! The close of an admitted frame's taking, whether it has come to copies or not (R8, R9, R33). -/
namespace Sys2Proof.Machine

section
variable {s : State} {p : Port} {n : RingSlot} {g : Lanes} {d : Descriptor} {f : Forming} {u : State} {made : List ListStep}
  {drops : List DropCause} {asks : List NoticeAsk}

/-- The close is in step with the same close of its base, whether or not the frame has come to copies. -/
theorem TakesAlong.closes {base base' : State} {own : BusWrite} (h : TakesAlong s base u (s.linkWrites f.cells ++ [own]))
    (hup : s.quiet → base.upward) (hsup : (u.closeTaking f.cells).finish.suppliesOf base')
    (hdel : s.quiet → s.delivers (u.closeTaking f.cells).finish base' (s.linkWrites f.cells ++ [own]) []) :
    s.closes (u.closeTaking f.cells).finish base' f own :=
  ⟨hsup, fun hq => ⟨hdel hq, h.linkWords hq (hup hq)⟩⟩

theorem Copied.along (h : s.admits p n g d f) (hc : Copied (s.admitting p n g d f) u f made drops asks) :
    TakesAlong s (((s.learn f).claim f.port f.cellCount).noticed asks) u
      (s.linkWrites f.cells ++ [s.crossing (ingressOffset p n) g]) := by
  exact (State.admitting_along h).noticed asks hc.follows hc.sent

theorem State.admitting_upward (hq : s.quiet) (asks : List NoticeAsk) :
    (((s.learn f).claim f.port f.cellCount).noticed asks).upward := by
  have hup : s.upward := by
    unfold State.upward
    rw [hq.1, hq.2.1]
    nofun
  have hlearn : ((s.learn f).claim f.port f.cellCount).upward := hup.learn f
  exact hlearn.noticed asks

theorem State.enterFrame_meter (s : State) (f : Forming) (j : Tenant) :
    (s.enterFrame f).meter j =
      if j = f.tenant then
        { s.meter f.tenant with tokens := (s.meter f.tenant).tokens - if f.colour = .committed then frameCost f.length else 0 }
      else s.meter j := by
  have hset (u : State) (k : Tenant) : ((u.setHeldCells f.tenant (u.heldCells f.tenant + f.cellCount)).countAdmitted f.colour f.tenant).meter k =
      u.meter k := rfl
  refine (hset _ j).trans ?_
  have hframe (k : Tenant) : (s.setFrame f.first f.fresh).meter k = s.meter k := rfl
  by_cases hc : f.colour = .committed
  · rw [if_pos hc, if_pos hc]
    refine (State.setMeter_meter ..).trans ?_
    by_cases hj : j = f.tenant
    · rw [if_pos hj, if_pos hj]
      exact congrArg (fun m : Meter => ({ m with tokens := m.tokens - frameCost f.length } : Meter)) (hframe f.tenant)
    · rw [if_neg hj, if_neg hj]
      exact hframe j
  · rw [if_neg hc, if_neg hc]
    by_cases hj : j = f.tenant
    · rw [if_pos hj, hj]
      exact hframe f.tenant
    · rw [if_neg hj]
      exact hframe j

theorem State.enterFrame_heldCells (s : State) (f : Forming) (j : Tenant) :
    (s.enterFrame f).heldCells j = if j = f.tenant then s.heldCells f.tenant + f.cellCount else s.heldCells j := by
  have hset (u : State) (k : Tenant) : ((u.setHeldCells f.tenant (u.heldCells f.tenant + f.cellCount)).countAdmitted f.colour f.tenant).heldCells k =
      if k = f.tenant then u.heldCells f.tenant + f.cellCount else u.heldCells k := State.setHeldCells_heldCells ..
  refine (hset _ j).trans ?_
  have hmeter (u : State) (m : Meter) (k : Tenant) : (u.setMeter f.tenant m).heldCells k = u.heldCells k := rfl
  by_cases hc : f.colour = .committed
  · rw [if_pos hc, hmeter, hmeter]; rfl
  · rw [if_neg hc]; rfl

/-- The frame has come to no copy. -/
theorem Copied.noFrame (h : s.admits p n g d f) (hc : Copied (s.admitting p n g d f) u f [] drops asks) :
    s.noFrame (s.learn f) (u.closeTaking f.cells).finish f asks (s.crossing (ingressOffset p n) g)
      ((s.learn f).countDrops f.tenant drops) := by
  have halong := hc.along h
  obtain ⟨hcells, hqueues, hfailover⟩ := hc.idle rfl
  have hreturned : s.returned (u.closeTaking f.cells).finish _ f.cells _ := halong.returned (by rw [hcells]; rfl) (by rw [hcells]; rfl)
    (by rw [hcells]; rfl) fun c hcc => by rw [hcells]; exact linkEach_find _ hcc
  have hclose := (u.closeTaking_outside f.cells).andThen (State.finish_outside _)
  obtain ⟨-, -, -, hmeters, hheld⟩ := u.closeTaking_records f.cells
  have hadm := hc.admission
  rw [if_pos rfl] at hadm
  have hmeter (j : Tenant) : (u.closeTaking f.cells).finish.meter j = (s.admitting p n g d f).meter j := by
    show (u.closeTaking f.cells).meter j = _
    unfold State.meter
    rw [hmeters, hadm]
  have hfirst : ∀ c, f.cells.head? = some c → s.frame c = none := fun c hcc => by
    have := h.2.2.2.2.2.2.2.2.2.2.2.2
    unfold Forming.first at this
    rwa [List.headD_eq_head?_getD, hcc] at this
  obtain ⟨-, hsup, hdel⟩ := hreturned.2.2.2 hfirst
  refine ⟨hreturned, ?_, fun m hm => ?_, ?_, ?_, ?_, halong.closes (fun hq => State.admitting_upward hq asks) hsup hdel, ?_⟩
  · rw [hmeter, State.admitting_meter, if_pos rfl]
  · rw [hmeter, State.admitting_meter, if_neg hm]
  · show (u.closeTaking f.cells).admission.held = _
    rw [hheld, hadm]
    show (s.learning p n g d f).admission.held = _
    rw [(State.learning_outside f).admission]
  · rw [hclose.acct, hc.acct, if_pos rfl]
    exact State.countDrops_acct_congr (s := s.learn f) (u := s.admitting p n g d f) rfl _ _
  · rw [hclose.lookup, hc.replicates.outside.lookup]
    rfl
  · have hrep := hc.replicates.outside
    have hu : (s.admitting p n g d f).sameOutside [.cells, .admission, .acct, .notices, .bus] u :=
      ⟨.inr hrep.path, .inr hrep.tables, .inl (by decide), .inr hrep.intake, .inr hrep.lookup, .inl (by decide), .inr hqueues,
        .inr hrep.live, .inr hfailover, .inl (by decide), .inl (by decide), .inr hrep.slots, .inl (by decide), .inr hrep.freeDraws,
        .inr hrep.pending⟩
    exact (State.admitting_outside.andThen hu).andThen hclose

/-- What the close of a frame with copies leaves of the copies, the queues and the hold pool. -/
structure CopiesStand (s t : State) (f : Forming) (made : List ListStep) : Prop where
  copyNew : ∀ x ∈ (Runs.toList s.cells.freeCopies).zip made, t.copy x.1 = s.stepCopy f x.2
  copyOld : ∀ j, j ∉ (Runs.toList s.cells.freeCopies).take made.length → t.copy j = s.copy j
  free : Runs.toList t.cells.freeCopies = (Runs.toList s.cells.freeCopies).drop made.length
  queue : ∀ (q : Port) (c : Cls), t.queue q c =
    s.queue q c ++ if c = f.cls then tagsOf (Runs.toList s.cells.freeCopies) made (·.same (.port q none)) else []
  held : ∀ g : GroupId, t.heldCopies g = s.heldCopies g ++ tagsOf (Runs.toList s.cells.freeCopies) made (·.same (.held g))
  egress : ∀ q : Port, t.egressPort q =
    { s.egressPort q with owed := (s.egressPort q).owed + (made.filter (·.same (.port q none))).length }
  failover : t.failover = { s.failover with hold := t.failover.hold }
  poolIdle : made.all (fun y => !y.isHeld) = true → t.failover = s.failover
  queuesIdle : made.all ListStep.isHeld = true → t.queues = s.queues
  outside : s.sameOutside [.cells, .intake, .lookup, .admission, .queues, .failover, .acct, .notices, .bus] t

theorem State.admitting_stepCopy (x : ListStep) : (s.admitting p n g d f).stepCopy f x = s.stepCopy f x := by
  have hout := State.admitting_outside (s := s) (p := p) (n := n) (g := g) (d := d) (f := f)
  cases x with
  | port q via =>
    have hdepth : (s.admitting p n g d f).cellDepth q f.cls = s.cellDepth q f.cls :=
      State.cellDepth_of (State.queue_congr hout.queues q f.cls) (fun _ _ => rfl) fun _ _ _ _ => rfl
    exact congrArg some (State.queuedCopy_of (s := s) hdepth hout.tables (by rw [hout.live]) via)
  | held g => exact congrArg some (State.heldCopy_of hout.tables (by rw [hout.live]) g)
  | deep => rfl

/-- The frame has come to copies. -/
theorem Copied.entered (h : s.admits p n g d f) (hc : Copied (s.admitting p n g d f) u f made drops asks) (hm : made ≠ []) :
    s.entered (s.learn f) (u.closeTaking f.cells).finish f made.length (allPorts.filter fun q => made.any (·.same (.port q none)))
        asks (s.crossing (ingressOffset p n) g) (((s.learn f).countAdmitted f.colour f.tenant).countDrops f.tenant drops) ∧
      CopiesStand s (u.closeTaking f.cells).finish f made := by
  obtain ⟨hf, -, -, -, hne⟩ := State.admits_frame h
  have halong := hc.along h
  have hframe := hc.frame
  rw [if_neg hm] at hframe
  have hclose : u.closeTaking f.cells = u.refill := by
    unfold State.closeTaking
    cases hcells : f.cells with
    | nil => exact absurd hcells hne
    | cons c rest =>
      dsimp only
      have : f.first = c := by unfold Forming.first; rw [hcells]; rfl
      rw [← this, hframe]
      rfl
  have hsent : (u.closeTaking f.cells).bus.sent = s.bus.sent := ((Keeps.refl u).closeTaking f.cells).sent.trans halong.sent
  have hcloses : s.closes (u.closeTaking f.cells).finish
      (((s.learn f).claim f.port f.cellCount).noticed asks).refill f (s.crossing (ingressOffset p n) g) := by
    refine halong.closes (fun hq => State.admitting_upward hq asks) ?_ fun hq => ?_
    · rw [hclose]
      exact halong.supplies (f := State.refill) fun k => k.refill
    · rw [hclose] at hsent ⊢
      exact (halong.quiet hq).refill.finish_delivers hq halong.gathers.refill hsent
  have hrec : SameRecords u (u.closeTaking f.cells).finish := by
    rw [hclose]
    exact ((SameRecords.refl u).refill).trans (.of_blocks (State.finish_outside _).cells (State.finish_outside _).admission)
  have hout := (u.closeTaking_outside f.cells).andThen (State.finish_outside _)
  generalize (u.closeTaking f.cells).finish = t at *
  have hframes (j : Nat) : t.frame j = u.frame j := by unfold State.frame; rw [hrec.frames]
  have hcopies (j : Nat) : t.copy j = u.copy j := by unfold State.copy; rw [hrec.copies]
  have hadm := hc.admission
  rw [if_neg hm] at hadm
  have hmeter (j : Tenant) : t.meter j = ((s.admitting p n g d f).enterFrame f).meter j := by
    unfold State.meter
    rw [hrec.meters, hadm]
  have hheld (j : Tenant) : t.heldCells j = ((s.admitting p n g d f).enterFrame f).heldCells j := by
    unfold State.heldCells
    rw [hrec.held, hadm]
  have hheld0 (j : Tenant) : (s.admitting p n g d f).heldCells j = s.heldCells j := by
    show (s.learning p n g d f).heldCells j = _
    rw [(State.learning_reads f).2.2.1]
  have hM := State.admitting_outside (s := s) (p := p) (n := n) (g := g) (d := d) (f := f)
  refine ⟨⟨?_, fun hnd x hx => ?_, ?_, ?_, ?_, fun j hj => ?_, fun m hm' => ⟨?_, ?_⟩, ?_, hcloses⟩, ?_⟩
  · rw [hframes, hframe]
    rfl
  · rw [hrec.links, hc.cells]
    exact linkEach_zip hnd _ x hx
  · rw [hmeter, State.enterFrame_meter, if_pos rfl, State.admitting_meter, if_pos rfl]
    rfl
  · rw [hheld, State.enterFrame_heldCells, if_pos rfl, hheld0]
  · rw [hout.acct, hc.acct, if_neg hm]
    exact State.countDrops_acct_congr (State.updateLive_acct_congr (s := s.learn f) (u := s.admitting p n g d f) rfl _ _) _ _
  · rw [hframes, hc.frames j hj]
    rfl
  · rw [hmeter, State.enterFrame_meter, if_neg hm', State.admitting_meter, if_neg hm']
  · rw [hheld, State.enterFrame_heldCells, if_neg hm', hheld0]
  · rw [hout.lookup, hc.replicates.outside.lookup]
    rfl
  · refine ⟨fun x hx => ?_, fun j hj => ?_, ?_, fun q c => ?_, fun gr => ?_, fun q => ?_, ?_, fun hp => ?_, fun hq => ?_, ?_⟩
    · rw [hcopies, hc.copyNew x hx, State.admitting_stepCopy]
    · rw [hcopies]
      exact hc.copyOld j hj
    · rw [hrec.freeCopies]
      exact hc.free
    · rw [State.queue_congr hout.queues, hc.queue, State.queue_congr hM.queues]
      rfl
    · have hheldt : t.heldCopies gr = u.heldCopies gr := by unfold State.heldCopies; rw [hout.failover]
      have hheldM : (s.admitting p n g d f).heldCopies gr = s.heldCopies gr := by unfold State.heldCopies; rw [hM.failover]
      rw [hheldt, hc.held, hheldM]
      rfl
    · rw [State.ring_congr hout.queues, hc.egress, State.ring_congr hM.queues]
    · rw [hout.failover, hc.replicates.failover, hM.failover]
    · rw [hout.failover, hc.poolIdle hp, hM.failover]
    · rw [hout.queues, hc.queuesIdle hq, hM.queues]
    · exact ((hM.mono (by decide)).andThen hc.replicates.outside).andThen hout

end

end Sys2Proof.Machine
end

section
/-! A replication walk serves the steps of its list one after another, in their order (R61 to R65). -/
namespace Sys2Proof.Machine

/-! ## The steps of a position -/

/-- What a sublist entry comes to, with so many lists to be had below (R63). -/
def State.subSteps (s : State) (f : Forming) : Nat → ListId → Nat → ListId → List ListStep
  | 0 => fun inList i m => [.deep inList i m]
  | k + 1 => fun _ _ m => s.listSteps f k m

theorem State.listSteps_eq (s : State) (f : Forming) (k : Nat) (l : ListId) :
    s.listSteps f k l = s.entrySteps f (s.subSteps f k) l := by cases k <;> rfl

/-- What one entry of a list comes to (R62, R65). -/
def State.entryStep (s : State) (f : Forming) (sub : ListId → Nat → ListId → List ListStep) (l : ListId) (e : ListItem) (i : Nat) :
    List ListStep :=
  match e.kind.toNat with
  | 1 => ((portOf e.number).map fun q => ListStep.port q none).toList
  | 2 =>
    match groupOf e.number with
    | none => []
    | some g =>
      if s.groupState g = .evacuating then [.held g]
      else ((s.memberChoice g f.flowHash).map fun q => ListStep.port q (some g)).toList
  | 3 => ((listOf e.number).map fun m => sub l i m).getD []
  | _ => []

/-- The steps still to come at a position, with so many lists to be had below. -/
def State.posSteps (s : State) (f : Forming) (k : Nat) (w : WalkPos) : List ListStep :=
  (List.range' w.next w.remaining).flatMap fun i =>
    s.entryStep f (s.subSteps f k) w.list ((s.repList w.list).items.getD i ⟨0, 0⟩) i

/-- The entries of a list by their places; a place behind the last holds nothing. -/
theorem flatMap_zipIdx_eq {α β : Type} (items : List α) (d : α) (F : α → Nat → List β) (hd : ∀ i, F d i = []) (n : Nat) :
    ((items.take n).zipIdx).flatMap (fun x => F x.1 x.2) = (List.range' 0 n).flatMap fun i => F (items.getD i d) i := by
  have key (l : List α) (a m : Nat) : ((l.take m).zipIdx a).flatMap (fun x => F x.1 x.2) =
      (List.range' a m).flatMap fun i => F (l.getD (i - a) d) i := by
    induction m generalizing l a with
    | zero => rfl
    | succ m ih =>
      have hrest (l' : List α) (c : α) (hl : ∀ j, (c :: l').getD (j + 1) d = l'.getD j d) :
          (List.range' (a + 1) m).flatMap (fun i => F ((c :: l').getD (i - a) d) i) =
            (List.range' (a + 1) m).flatMap fun i => F (l'.getD (i - (a + 1)) d) i := by
        refine List.flatMap_congr fun i hi => ?_
        obtain ⟨j, -, rfl⟩ := List.mem_range'.1 hi
        rw [show a + 1 + 1 * j - a = j + 1 by omega, show a + 1 + 1 * j - (a + 1) = j by omega, hl]
      rw [List.range'_succ, List.flatMap_cons, Nat.sub_self]
      cases l with
      | nil =>
        rw [List.take_nil, List.getD_nil, hd, List.nil_append]
        refine (List.flatMap_eq_nil_iff.2 fun i _ => ?_).symm
        rw [List.getD_nil, hd]
      | cons c l =>
        rw [List.take_succ_cons, List.zipIdx_cons, List.flatMap_cons, ih, hrest l c fun j => rfl]
        rfl
  have h0 := key items 0 n
  simpa using h0

theorem State.listSteps_pos (s : State) (f : Forming) (k : Nat) (l : ListId) : s.listSteps f k l = s.posSteps f k (s.startOf l) := by
  rw [State.listSteps_eq]
  refine Eq.trans ?_ (flatMap_zipIdx_eq (s.repList l).items ⟨0, 0⟩ (s.entryStep f (s.subSteps f k) l) (fun _ => rfl) (s.repList l).count)
  rfl

/-- The steps still to come in a walk: at its position, then at the places it is to come back to (R63). -/
def State.upcoming (s : State) (f : Forming) : List WalkPos → List ListStep
  | [] => []
  | w :: rest => s.posSteps f (4 - rest.length) w ++ s.upcoming f rest

/-! ## Serving -/

/-- One step served or skipped (R63 to R67). -/
def repServe (f : Forming) (x : RepWalk × State) : ListStep → RepWalk × State
  | .port q via => repCandidate f q via x
  | .held g =>
    if g ∈ x.1.heldGroups then x else ({ x.1 with heldGroups := x.1.heldGroups ++ [g] }, x.2.offerHeld f g)
  | .deep inList i m =>
    if x.1.depthReported then x
    else ({ x.1 with depthReported := true }, x.2.ask .replicationDepth f.segment (2 ^ 16 * inList + i) m)

/-- The walker at another position. -/
def RepWalk.moved (w : RepWalk) (pos : WalkPos) (stack : List WalkPos) : RepWalk := { w with pos := pos, stack := stack }

theorem repServe_moved (f : Forming) (w : RepWalk) (s : State) (pos : WalkPos) (stack : List WalkPos) (y : ListStep) :
    repServe f (w.moved pos stack, s) y = ((repServe f (w, s) y).1.moved pos stack, (repServe f (w, s) y).2) := by
  cases y with
  | port q via =>
    show repCandidate f q via (w.moved pos stack, s) = _
    unfold repServe repCandidate
    rw [show s.excluded f (w.moved pos stack) q = s.excluded f w q from rfl]
    dsimp only
    split <;> rfl
  | held g =>
    unfold repServe
    rw [show (w.moved pos stack).heldGroups = w.heldGroups from rfl]
    dsimp only
    split <;> rfl
  | deep inList i m =>
    unfold repServe
    rw [show (w.moved pos stack).depthReported = w.depthReported from rfl]
    dsimp only
    split <;> rfl

theorem repServe_foldl_moved (f : Forming) (l : List ListStep) (w : RepWalk) (s : State) (pos : WalkPos) (stack : List WalkPos) :
    (l.foldl (repServe f) (w.moved pos stack, s)).2 = (l.foldl (repServe f) (w, s)).2 := by
  induction l generalizing w s with
  | nil => rfl
  | cons y l ih =>
    rw [List.foldl_cons, List.foldl_cons, repServe_moved]
    exact ih _ _

theorem repServe_replicates (f : Forming) (x : RepWalk × State) (y : ListStep) : Replicates x.2 (repServe f x y).2 := by
  cases y with
  | port q via =>
    show Replicates x.2 (repCandidate f q via x).2
    unfold repCandidate
    split
    exacts [.refl _, (Replicates.refl _).offerCopy ..]
  | held g =>
    dsimp only [repServe]
    split
    exacts [.refl _, (Replicates.refl _).offerHeld ..]
  | deep =>
    dsimp only [repServe]
    split
    exacts [.refl _, .of_outside (State.ask_outside _ _ _ _ _)]

/-! ## The walk -/

section
variable {s : State} {f : Forming}

theorem Replicates.reads {u : State} (h : Replicates s u) (g : GroupId) (hash : Nat) :
    u.groupState g = s.groupState g ∧ u.memberChoice g hash = s.memberChoice g hash ∧ u.tables = s.tables :=
  ⟨State.groupState_congr (by rw [h.failover]) g, State.memberChoice_congr h.outside.tables (by rw [h.outside.live]) g hash,
    h.outside.tables⟩

/-- An entry taken: its steps are served, or, a sublist being entered, stand ahead of what was to come. -/
theorem repEntry_serves (w : RepWalk) (u : State) (hu : Replicates s u) (hdeep : w.stack.length ≤ 4) (l : ListId) (i : Nat) :
    let x := repEntry f l i (w, u)
    let steps := s.entryStep f (s.subSteps f (4 - w.stack.length)) l ((s.repList l).items.getD i ⟨0, 0⟩) i
    (x = steps.foldl (repServe f) (w, u) ∧ x.1.pos = w.pos ∧ x.1.stack = w.stack) ∨
      x.2 = u ∧ w.stack.length < 4 ∧ ∃ m, x.1 = w.moved (s.startOf m) (w.pos :: w.stack) ∧
        steps = s.posSteps f (4 - (w.stack.length + 1)) (s.startOf m) := by
  have hlist : u.repList l = s.repList l := by unfold State.repList; rw [hu.outside.tables]
  dsimp only
  unfold repEntry State.entryStep
  dsimp only
  rw [hlist]
  generalize (s.repList l).items.getD i ⟨0, 0⟩ = e
  generalize e.kind.toNat = c
  match c with
  | 0 => exact .inl ⟨rfl, rfl, rfl⟩
  | 1 =>
    cases portOf e.number with
    | none => exact .inl ⟨rfl, rfl, rfl⟩
    | some q => exact .inl ⟨rfl, repCandidate_pos f q none (w, u)⟩
  | 2 =>
    cases groupOf e.number with
    | none => exact .inl ⟨rfl, rfl, rfl⟩
    | some g =>
      obtain ⟨hg, hm, -⟩ := hu.reads g f.flowHash
      refine .inl ⟨?_, repGroup_pos f g (w, u)⟩
      dsimp only
      unfold repGroup
      dsimp only
      rw [hg, hm]
      by_cases he : s.groupState g = .evacuating
      · rw [if_pos he, if_pos he]
        rfl
      · rw [if_neg he, if_neg he]
        cases s.memberChoice g f.flowHash <;> rfl
  | 3 =>
    cases hm : listOf e.number with
    | none => exact .inl ⟨rfl, rfl, rfl⟩
    | some m =>
      dsimp only
      unfold repSublist
      by_cases hlt : w.stack.length < Config.walkDepth
      · have hlt' : w.stack.length < 4 := hlt
        obtain ⟨k, hk⟩ : ∃ k, 4 - w.stack.length = k + 1 := ⟨4 - w.stack.length - 1, by omega⟩
        rw [if_pos hlt]
        refine .inr ⟨rfl, hlt', m, ?_, ?_⟩
        · show { w with pos := u.startOf m, stack := w.pos :: w.stack } = _
          unfold RepWalk.moved State.startOf State.repList
          rw [hu.outside.tables]
        · show s.subSteps f (4 - w.stack.length) l i m = _
          rw [hk, show 4 - (w.stack.length + 1) = k by omega]
          exact s.listSteps_pos f k m
      · have h4 : 4 - w.stack.length = 0 := by
          have : ¬w.stack.length < 4 := hlt
          omega
        rw [if_neg hlt, h4]
        refine .inl ⟨rfl, ?_⟩
        rcases w with ⟨pos, stack, served, held, _ | _⟩ <;> exact ⟨rfl, rfl⟩
  | _ + 4 => exact .inl ⟨rfl, rfl, rfl⟩

/-- A walk serves what is pending (R62). -/
theorem repWalk_serves (n : Nat) (x : RepWalk × State) (hx : Replicates s x.2) (h : RepWalk.Fits x)
    (hn : passesLeft (x.1.pos :: x.1.stack) ≤ n) :
    repWalk f n x = ((s.upcoming f (x.1.pos :: x.1.stack)).foldl (repServe f) x).2 := by
  induction n generalizing x with
  | zero => exact absurd hn (Nat.not_le_of_lt (Nat.lt_of_lt_of_le (passesFor_pos _ _) (Nat.le_add_right _ _)))
  | succ n ih =>
    unfold repWalk
    by_cases hzero : x.1.pos.remaining = 0
    · have hnil : s.posSteps f (4 - x.1.stack.length) x.1.pos = [] := by
        unfold State.posSteps
        rw [hzero]
        rfl
      cases hp : repPass f x with
      | none =>
        have hstack : x.1.stack = [] := by
          unfold repPass at hp
          dsimp only at hp
          rw [if_pos hzero] at hp
          cases hs : x.1.stack with
          | nil => rfl
          | cons t rest => rw [hs] at hp; cases hp
        dsimp only
        unfold State.upcoming
        rw [hnil, hstack]
        rfl
      | some y =>
        obtain ⟨hfits, hlow⟩ := repPass_lowers h hp
        obtain ⟨hst, hstack⟩ := repPass_of_end hzero hp
        have hmoved : y.1 = x.1.moved y.1.pos y.1.stack := by
          unfold repPass at hp
          dsimp only at hp
          rw [if_pos hzero, hstack] at hp
          exact (congrArg Prod.fst (Option.some.inj hp)).symm
        have hy : y = (x.1.moved y.1.pos y.1.stack, x.2) := Prod.ext hmoved hst
        dsimp only
        rw [ih y (by rw [hst]; exact hx) hfits (by omega)]
        show ((s.upcoming f (y.1.pos :: y.1.stack)).foldl (repServe f) y).2 =
          ((s.posSteps f (4 - x.1.stack.length) x.1.pos ++ s.upcoming f x.1.stack).foldl (repServe f) x).2
        rw [hnil, List.nil_append, ← hstack]
        generalize hpos : y.1.pos = pos at *
        generalize hstk : y.1.stack = stk at *
        rw [hy]
        exact repServe_foldl_moved ..
    · have hp := repPass_of_entry (f := f) hzero
      obtain ⟨hfits, hlow⟩ := repPass_lowers h hp
      obtain ⟨r, hr⟩ := Nat.exists_eq_succ_of_ne_zero hzero
      rw [hp]
      dsimp only
      have hrep : Replicates s (repEntry f x.1.pos.list x.1.pos.next (x.1.taken, x.2)).2 := by
        rcases repEntry_serves (s := s) (f := f) x.1.taken x.2 hx h.deep x.1.pos.list x.1.pos.next with ⟨he, -, -⟩ | ⟨he, -⟩
        · rw [he]
          have key (l : List ListStep) (z : RepWalk × State) (hz : Replicates s z.2) : Replicates s (l.foldl (repServe f) z).2 := by
            induction l generalizing z with
            | nil => exact hz
            | cons y l ih => exact ih _ (hz.trans (repServe_replicates f z y))
          exact key _ _ hx
        · rw [he]; exact hx
      rw [ih _ hrep hfits (by omega)]
      have hsplit : s.upcoming f (x.1.pos :: x.1.stack) =
          s.entryStep f (s.subSteps f (4 - x.1.stack.length)) x.1.pos.list
            ((s.repList x.1.pos.list).items.getD x.1.pos.next ⟨0, 0⟩) x.1.pos.next ++
          s.upcoming f (x.1.taken.pos :: x.1.stack) := by
        show s.posSteps f _ x.1.pos ++ _ = _ ++ (s.posSteps f _ x.1.taken.pos ++ _)
        unfold State.posSteps
        rw [hr, List.range'_succ, List.flatMap_cons, List.append_assoc]
        have htaken : x.1.taken.pos.remaining = r := by show x.1.pos.remaining - 1 = r; rw [hr, Nat.succ_sub_one]
        rw [htaken]
        rfl
      have htaken : ∀ l : List ListStep, (l.foldl (repServe f) (x.1.taken, x.2)).2 = (l.foldl (repServe f) x).2 := fun l =>
        repServe_foldl_moved f l x.1 x.2 x.1.taken.pos x.1.stack
      rw [hsplit, ← htaken]
      rcases repEntry_serves (s := s) (f := f) x.1.taken x.2 hx h.deep x.1.pos.list x.1.pos.next with
        ⟨he, hpos, hstack⟩ | ⟨he, hlt, m, hw, hsteps⟩
      · rw [hpos, hstack, he, List.foldl_append]
        rfl
      · have hx' : repEntry f x.1.pos.list x.1.pos.next (x.1.taken, x.2) =
            (x.1.taken.moved (s.startOf m) (x.1.taken.pos :: x.1.taken.stack), x.2) := Prod.ext hw he
        rw [hx', repServe_foldl_moved]
        change (((s.posSteps f (4 - (x.1.stack.length + 1)) (s.startOf m)) ++ s.upcoming f (x.1.taken.pos :: x.1.stack)).foldl (repServe f)
          (x.1.taken, x.2)).2 = _
        change _ = s.posSteps f (4 - (x.1.stack.length + 1)) (s.startOf m) at hsteps
        rw [← hsteps]
        rfl

/-- A whole walk serves the steps of its list (R62). -/
theorem State.replicate_list (hl : ∀ m : ListId, (s.repList m).count ≤ 16) (l : ListId) :
    s.replicate f (.list l) = ((s.listSteps f 4 l).foldl (repServe f) (s.startRep l, s)).2 := by
  refine (repWalk_serves (s := s) Config.walkPasses (s.startRep l, s) (.refl s) ⟨Nat.zero_le _, hl⟩ ?_).trans ?_
  · show passesLeft [s.startOf l] ≤ _
    rw [passesLeft_singleton]
    exact walkPasses_enough (hl l)
  · show ((s.posSteps f 4 (s.startOf l) ++ []).foldl (repServe f) (s.startRep l, s)).2 = _
    rw [List.append_nil, ← State.listSteps_pos]

end

end Sys2Proof.Machine
end

section
/-! The steps of a list walk, each with its verdict (R14, R63 to R67). -/
namespace Sys2Proof.Machine

/-! ## Steps served -/

/-- A walk serves this step, if no earlier one has been served that is the same (R64, R65). -/
def State.servesStep (s : State) (f : Forming) : ListStep → Bool
  | .port q _ => (decide (q ≠ f.port) || (s.portEntry f.port).hairpin) && decide (s.liveness q = .up)
  | .held _ => true
  | .deep _ _ _ => false

/-- The notice a skipped sublist asks for (R63). -/
def ListStep.depthAsk (f : Forming) : ListStep → Option NoticeAsk
  | .deep inList i m =>
    some { kind := .replicationDepth, subject := f.segment, first := 2 ^ 16 * inList + i, second := m }
  | _ => none

/-- What a walk over these steps serves, in its order. -/
def State.servedOf (s : State) (f : Forming) (l : List ListStep) : List ListStep := firstOfEach (l.filter (s.servesStep f))

theorem State.servedBy_eq (s : State) (f : Forming) (l : ListId) : s.servedBy f l = s.servedOf f (s.listSteps f 4 l) := by
  unfold State.servedBy State.servedOf
  refine congrArg firstOfEach (List.filter_congr fun y _ => ?_)
  cases y <;> rfl

/-- The notice of a walk over these steps: of the first sublist skipped. -/
def asksOf (f : Forming) (l : List ListStep) : List NoticeAsk := (l.filterMap (ListStep.depthAsk f)).take 1

theorem State.depthAsks_eq (s : State) (f : Forming) (l : ListId) : s.depthAsks f l = asksOf f (s.listSteps f 4 l) := by
  unfold State.depthAsks asksOf
  refine congrArg (List.take 1) (List.filterMap_congr fun y _ => ?_)
  cases y <;> rfl

theorem ListStep.same_comm (y z : ListStep) : y.same z = z.same y := by
  cases y <;> cases z <;> simp [ListStep.same, eq_comm]

theorem State.servedOf_snoc (s : State) (f : Forming) (l : List ListStep) (y : ListStep) :
    s.servedOf f (l ++ [y]) =
      if s.servesStep f y = true ∧ (s.servedOf f l).any (·.same y) = false then s.servedOf f l ++ [y] else s.servedOf f l := by
  have hcomm : (s.servedOf f l).any y.same = (s.servedOf f l).any (·.same y) :=
    congrArg (List.any _) (funext fun z => ListStep.same_comm y z)
  unfold State.servedOf at *
  rw [List.filter_append, List.filter_cons]
  by_cases hy : s.servesStep f y = true
  · rw [if_pos hy]
    show firstOfEach (l.filter (s.servesStep f) ++ [y]) = _
    have hfold : firstOfEach (l.filter (s.servesStep f) ++ [y]) =
        if (firstOfEach (l.filter (s.servesStep f))).any y.same then firstOfEach (l.filter (s.servesStep f))
        else firstOfEach (l.filter (s.servesStep f)) ++ [y] := by
      unfold firstOfEach
      rw [List.foldl_append]
      rfl
    rw [hfold, hcomm]
    cases (firstOfEach (l.filter (s.servesStep f))).any (·.same y) <;> simp [hy]
  · rw [if_neg hy, if_neg fun h => hy h.1]
    show firstOfEach (l.filter (s.servesStep f) ++ []) = _
    rw [List.append_nil]

/-! ## Verdicts -/

/-- The steps among these verdicts that come to a copy. -/
def madeOf (vs : List (ListStep × Option DropCause)) : List ListStep := (vs.filter fun x => x.2.isNone).map (·.1)

theorem madeOf_append (vs ws : List (ListStep × Option DropCause)) : madeOf (vs ++ ws) = madeOf vs ++ madeOf ws := by
  unfold madeOf
  rw [List.filter_append, List.map_append]

theorem madeOf_cons_none (y : ListStep) (vs : List (ListStep × Option DropCause)) : madeOf ((y, none) :: vs) = y :: madeOf vs := rfl

theorem madeOf_cons_some (y : ListStep) (c : DropCause) (vs : List (ListStep × Option DropCause)) :
    madeOf ((y, some c) :: vs) = madeOf vs := rfl

section
variable (s : State) (f : Forming) (copies room : Nat)

theorem State.verdicts_port (q : Port) (via : Option GroupId) (l : List ListStep) :
    s.verdicts f copies room (.port q via :: l) =
      if s.fits f q = false then (.port q via, some .queueFull) :: s.verdicts f copies room l
      else if copies = 0 then (.port q via, some .noCopy) :: s.verdicts f copies room l
      else (.port q via, none) :: s.verdicts f (copies - 1) room l := rfl

theorem State.verdicts_held (g : GroupId) (l : List ListStep) :
    s.verdicts f copies room (.held g :: l) =
      if room = 0 then (.held g, some .holdFull) :: s.verdicts f copies room l
      else if copies = 0 then (.held g, some .noCopy) :: s.verdicts f copies room l
      else (.held g, none) :: s.verdicts f (copies - 1) (room - 1) l := rfl

end

/-- A step more is judged by what those before it have left. -/
theorem State.verdicts_snoc (s : State) (f : Forming) (copies room : Nat) (l : List ListStep) (y : ListStep) :
    s.verdicts f copies room (l ++ [y]) = s.verdicts f copies room l ++
      s.verdicts f (copies - (madeOf (s.verdicts f copies room l)).length)
        (room - ((madeOf (s.verdicts f copies room l)).filter ListStep.isHeld).length) [y] := by
  induction l generalizing copies room with
  | nil => rfl
  | cons z l ih =>
    rw [List.cons_append]
    cases z with
    | port q via =>
      rw [State.verdicts_port, State.verdicts_port s f copies room q via l]
      by_cases hf : s.fits f q = false
      · rw [if_pos hf, if_pos hf, ih, madeOf_cons_some, List.cons_append]
      · rw [if_neg hf, if_neg hf]
        by_cases hc : copies = 0
        · rw [if_pos hc, if_pos hc, ih, madeOf_cons_some, List.cons_append]
        · rw [if_neg hc, if_neg hc, ih, madeOf_cons_none, List.length_cons, List.cons_append, Nat.sub_sub, Nat.add_comm 1]
          rfl
    | held g =>
      rw [State.verdicts_held, State.verdicts_held s f copies room g l]
      by_cases hr : room = 0
      · rw [if_pos hr, if_pos hr, ih, madeOf_cons_some, List.cons_append]
      · rw [if_neg hr, if_neg hr]
        by_cases hc : copies = 0
        · rw [if_pos hc, if_pos hc, ih, madeOf_cons_some, List.cons_append]
        · rw [if_neg hc, if_neg hc, ih, madeOf_cons_none, List.length_cons, List.cons_append, Nat.sub_sub, Nat.add_comm 1,
            List.filter_cons, if_pos (show ListStep.isHeld (.held g) = true from rfl), List.length_cons, Nat.sub_sub, Nat.add_comm 1]
    | deep a b c => exact ih copies room

/-- The verdicts on a part of the steps are the first of the verdicts on all. -/
theorem State.verdicts_prefix (s : State) (f : Forming) (copies room : Nat) {l m : List ListStep} (h : l <+: m) :
    s.verdicts f copies room l <+: s.verdicts f copies room m := by
  obtain ⟨r, rfl⟩ := h
  induction r using List.reverseRecOn with
  | nil => rw [List.append_nil]
  | append_singleton r y ih =>
    rw [← List.append_assoc, State.verdicts_snoc]
    exact ih.trans (List.prefix_append _ _)

theorem State.servedOf_prefix (s : State) (f : Forming) {l m : List ListStep} (h : l <+: m) : s.servedOf f l <+: s.servedOf f m := by
  obtain ⟨r, rfl⟩ := h
  induction r using List.reverseRecOn with
  | nil => rw [List.append_nil]
  | append_singleton r y ih =>
    rw [← List.append_assoc, State.servedOf_snoc]
    split
    exacts [ih.trans (List.prefix_append _ _), ih]

theorem madeOf_prefix {vs ws : List (ListStep × Option DropCause)} (h : vs <+: ws) : (madeOf vs).length ≤ (madeOf ws).length := by
  obtain ⟨r, rfl⟩ := h
  rw [madeOf_append, List.length_append]
  exact Nat.le_add_right _ _

/-- Each step served that is no skipped sublist has its verdict. -/
theorem State.mem_verdicts (s : State) (f : Forming) (copies room : Nat) (l : List ListStep) {q : Port} {via : Option GroupId}
    (h : .port q via ∈ l) : ∃ c, (ListStep.port q via, c) ∈ s.verdicts f copies room l := by
  induction l generalizing copies room with
  | nil => exact absurd h List.not_mem_nil
  | cons z l ih =>
    have hin {v : ListStep × Option DropCause} {copies' room' : Nat} (hz : z ≠ .port q via) :
        ∃ c, (ListStep.port q via, c) ∈ v :: s.verdicts f copies' room' l := by
      rcases List.mem_cons.1 h with rfl | h
      · exact absurd rfl hz
      · obtain ⟨c, hc⟩ := ih copies' room' h
        exact ⟨c, List.mem_cons_of_mem _ hc⟩
    cases z with
    | port r via' =>
      by_cases hz : ListStep.port r via' = .port q via
      · obtain ⟨rfl, rfl⟩ := ListStep.port.inj hz
        rw [State.verdicts_port]
        split
        · exact ⟨_, List.mem_cons_self⟩
        · split
          exacts [⟨_, List.mem_cons_self⟩, ⟨_, List.mem_cons_self⟩]
      · rw [State.verdicts_port]
        split
        · exact hin hz
        · split <;> exact hin hz
    | held g =>
      rw [State.verdicts_held]
      split
      · exact hin nofun
      · split <;> exact hin nofun
    | deep a b c =>
      rcases List.mem_cons.1 h with h | h
      · cases h
      · exact ih copies room h

/-- A verdict is on one of the steps. -/
theorem State.verdicts_mem (s : State) (f : Forming) (copies room : Nat) (l : List ListStep) :
    ∀ v ∈ s.verdicts f copies room l, v.1 ∈ l := by
  induction l generalizing copies room with
  | nil => exact fun v hv => absurd hv List.not_mem_nil
  | cons z l ih =>
    have hin {w : ListStep × Option DropCause} {copies' room' : Nat} (hw : w.1 = z) :
        ∀ v ∈ w :: s.verdicts f copies' room' l, v.1 ∈ z :: l := fun v hv => by
      rcases List.mem_cons.1 hv with rfl | hv
      · rw [hw]; exact List.mem_cons_self
      · exact List.mem_cons_of_mem _ (ih copies' room' v hv)
    cases z with
    | port q via =>
      rw [State.verdicts_port]
      split
      · exact hin rfl
      · split <;> exact hin rfl
    | held g =>
      rw [State.verdicts_held]
      split
      · exact hin rfl
      · split <;> exact hin rfl
    | deep a b c => exact fun v hv => List.mem_cons_of_mem _ (ih copies room v hv)

theorem State.madeOf_mem (s : State) (f : Forming) (copies room : Nat) (l : List ListStep) :
    ∀ y ∈ madeOf (s.verdicts f copies room l), y ∈ l := fun y hy => by
  obtain ⟨v, hv, rfl⟩ := List.mem_map.1 hy
  exact s.verdicts_mem f copies room l v (List.mem_filter.1 hv).1

end Sys2Proof.Machine
end

section
/-! A list walk comes to its verdicts (R14, R63 to R67). -/
namespace Sys2Proof.Machine

/-- The drops among these verdicts. -/
def dropsOf (vs : List (ListStep × Option DropCause)) : List DropCause := vs.filterMap (·.2)

theorem dropsOf_append (vs ws : List (ListStep × Option DropCause)) : dropsOf (vs ++ ws) = dropsOf vs ++ dropsOf ws :=
  List.filterMap_append

/-- The verdicts of a walk over these steps. -/
def State.verdictsOf (s : State) (f : Forming) (l : List ListStep) : List (ListStep × Option DropCause) :=
  s.verdicts f (min 48 (Runs.size s.cells.freeCopies)) (4096 - s.holdCount) (s.servedOf f l)

/-- The walker has served these steps, and the frame has come to their verdicts. -/
structure Served (s : State) (f : Forming) (x : RepWalk × State) (l : List ListStep) : Prop where
  ports : ∀ q, q ∈ x.1.served ↔ (s.servedOf f l).any (·.same (.port q none)) = true
  groups : ∀ g, g ∈ x.1.heldGroups ↔ (s.servedOf f l).any (·.same (.held g)) = true
  deep : x.1.depthReported = true ↔ asksOf f l ≠ []
  copied : Copied s x.2 f (madeOf (s.verdictsOf f l)) (dropsOf (s.verdictsOf f l)) (asksOf f l)

section
variable {s : State} {f : Forming} {x : RepWalk × State} {l : List ListStep}

theorem Served.start (h : s.frame f.first = none) (m : ListId) : Served s f (s.startRep m, s) [] where
  ports q := by simp [State.startRep, State.servedOf, firstOfEach]
  groups g := by simp [State.startRep, State.servedOf, firstOfEach]
  deep := by simp [State.startRep, asksOf]
  copied := .start h

theorem asksOf_snoc (f : Forming) (l : List ListStep) (y : ListStep) :
    asksOf f (l ++ [y]) = if asksOf f l = [] then (y.depthAsk f).toList else asksOf f l := by
  unfold asksOf
  rw [List.filterMap_append]
  cases h : l.filterMap (ListStep.depthAsk f) with
  | nil => cases hy : y.depthAsk f <;> simp [hy]
  | cons a t => simp

/-- A step that is not served leaves what has been served. -/
theorem Served.skip {y : ListStep} (h : Served s f x l) (hy : y.depthAsk f = none ∨ asksOf f l ≠ [])
    (hs : ¬(s.servesStep f y = true ∧ (s.servedOf f l).any (·.same y) = false)) : Served s f x (l ++ [y]) := by
  have hserved : s.servedOf f (l ++ [y]) = s.servedOf f l := by rw [State.servedOf_snoc, if_neg hs]
  have hasks : asksOf f (l ++ [y]) = asksOf f l := by
    rw [asksOf_snoc]
    by_cases ha : asksOf f l = []
    · rw [if_pos ha, ha, hy.resolve_right fun e => e ha]; rfl
    · rw [if_neg ha]
  refine ⟨?_, ?_, ?_, ?_⟩
  · rw [hserved]; exact h.ports
  · rw [hserved]; exact h.groups
  · rw [hasks]; exact h.deep
  · unfold State.verdictsOf
    rw [hserved, hasks]
    exact h.copied

/-- The verdict of a step that is served, behind those before it. -/
theorem State.verdictsOf_snoc {y : ListStep} (hs : s.servesStep f y = true ∧ (s.servedOf f l).any (·.same y) = false) :
    s.verdictsOf f (l ++ [y]) = s.verdictsOf f l ++
      s.verdicts f (min 48 (Runs.size s.cells.freeCopies) - (madeOf (s.verdictsOf f l)).length)
        (4096 - s.holdCount - ((madeOf (s.verdictsOf f l)).filter ListStep.isHeld).length) [y] := by
  unfold State.verdictsOf
  rw [State.servedOf_snoc, if_pos hs, State.verdicts_snoc]

/-- A step is served: the walker lists it, and the frame has come to its verdict. -/
theorem Served.serve {y : ListStep} {z : RepWalk × State} {v : List (ListStep × Option DropCause)} (h : Served s f x l)
    (hs : s.servesStep f y = true ∧ (s.servedOf f l).any (·.same y) = false) (hy : y.depthAsk f = none)
    (hports : ∀ q, q ∈ z.1.served ↔ q ∈ x.1.served ∨ y.same (.port q none) = true)
    (hgroups : ∀ g, g ∈ z.1.heldGroups ↔ g ∈ x.1.heldGroups ∨ y.same (.held g) = true)
    (hdeep : z.1.depthReported = x.1.depthReported)
    (hv : s.verdicts f (min 48 (Runs.size s.cells.freeCopies) - (madeOf (s.verdictsOf f l)).length)
      (4096 - s.holdCount - ((madeOf (s.verdictsOf f l)).filter ListStep.isHeld).length) [y] = v)
    (hc : Copied s z.2 f (madeOf (s.verdictsOf f l) ++ madeOf v) (dropsOf (s.verdictsOf f l) ++ dropsOf v) (asksOf f l)) :
    Served s f z (l ++ [y]) := by
  have hserved : s.servedOf f (l ++ [y]) = s.servedOf f l ++ [y] := by rw [State.servedOf_snoc, if_pos hs]
  have hasks : asksOf f (l ++ [y]) = asksOf f l := by
    rw [asksOf_snoc, hy]
    by_cases ha : asksOf f l = []
    · rw [if_pos ha, ha]; rfl
    · rw [if_neg ha]
  refine ⟨fun q => ?_, fun g => ?_, ?_, ?_⟩
  · rw [hports, hserved, List.any_append, h.ports, Bool.or_eq_true, List.any_cons, List.any_nil, Bool.or_false]
  · rw [hgroups, hserved, List.any_append, h.groups, Bool.or_eq_true, List.any_cons, List.any_nil, Bool.or_false]
  · rw [hasks, hdeep]; exact h.deep
  · rw [hasks, State.verdictsOf_snoc hs, hv, madeOf_append, dropsOf_append]
    exact hc

/-- A port is excluded from the walk where its step is not served (R64). -/
theorem Served.excluded (h : Served s f x l) (q : Port) (via : Option GroupId) :
    x.2.excluded f x.1 q = true ↔ ¬(s.servesStep f (.port q via) = true ∧ (s.servedOf f l).any (·.same (.port q via)) = false) := by
  have hout := h.copied.replicates.outside
  have hup : x.2.isUp q = decide (s.liveness q = .up) := by
    have hl : x.2.liveness q = s.liveness q := congrArg LivePort.state (livePort_congr (by rw [hout.live]) q)
    unfold State.isUp
    rw [hl]
  have hsame : (fun z : ListStep => z.same (.port q via)) = fun z => z.same (.port q none) :=
    funext fun z => by cases z <;> rfl
  have hmem := h.ports q
  unfold State.excluded State.ingressExcluded State.servesStep
  dsimp only
  rw [hup, State.portEntry_congr hout.tables, hsame]
  generalize (s.servedOf f l).any (fun z => z.same (.port q none)) = b at hmem ⊢
  generalize decide (s.liveness q = .up) = c
  rw [show decide (q ∈ x.1.served) = b by cases b <;> simp [hmem]]
  by_cases hq : q = f.port
  · subst hq
    generalize (s.portEntry f.port).hairpin = e
    cases b <;> cases c <;> cases e <;> simp
  · cases b <;> cases c <;> simp [hq]

section
variable {tags : List Nat} {N : Nat}

/-- The records that may be had: 48 at most, and no more than the free copy list holds. -/
theorem copies_left (F : List Nat) (m : Nat) : min 48 F.length - m = 0 ↔ 48 ≤ m ∨ F.drop m = [] := by
  rw [List.drop_eq_nil_iff]
  omega

theorem Copied.next_tag {u : State} {made : List ListStep} {drops : List DropCause} {asks : List NoticeAsk}
    (_ : Copied s u f made drops asks) (hn : ¬min 48 (Runs.toList s.cells.freeCopies).length - made.length = 0)
    (hN : made.length < N) (hnd : ((Runs.toList s.cells.freeCopies).take N).Nodup) :
    made.length < 48 ∧ ∃ tag rest, (Runs.toList s.cells.freeCopies).drop made.length = tag :: rest ∧
      tag ∉ (Runs.toList s.cells.freeCopies).take made.length := by
  rw [copies_left, not_or] at hn
  obtain ⟨h1, h2⟩ := hn
  obtain ⟨tag, rest, hd⟩ := List.exists_cons_of_ne_nil h2
  refine ⟨by omega, tag, rest, hd, fun hmem => ?_⟩
  obtain ⟨hsplit, hlen⟩ := split_of_drop hd
  obtain ⟨k, rfl⟩ : ∃ k, N = made.length + (k + 1) := ⟨N - made.length - 1, by omega⟩
  rw [List.take_add, hd, List.take_succ_cons] at hnd
  exact (List.nodup_append.1 hnd).2.2 tag hmem tag List.mem_cons_self rfl

/-- One step of the walk. -/
theorem Served.next (h : Served s f x l) (y : ListStep) (hso : Table.sorted s.failover.hold = true)
    (hnd : ((Runs.toList s.cells.freeCopies).take N).Nodup) (hN : (madeOf (s.verdictsOf f (l ++ [y]))).length ≤ N)
    (hold : ∀ q via, y = .port q via → y ∈ s.servedOf f (l ++ [y]) → ∀ j ∈ s.queue q f.cls,
      j ∉ (Runs.toList s.cells.freeCopies).take (madeOf (s.verdictsOf f l)).length ∧ ∀ k, s.copy j = some k → k.frame ≠ f.first) :
    Served s f (repServe f x y) (l ++ [y]) := by
  have hc := h.copied
  have hsize : Runs.size s.cells.freeCopies = (Runs.toList s.cells.freeCopies).length := (Runs.size_toList _).symm
  cases y with
  | port q via =>
    show Served s f (repCandidate f q via x) _
    unfold repCandidate
    by_cases he : x.2.excluded f x.1 q = true
    · rw [if_pos he]
      exact h.skip (.inl rfl) ((h.excluded q via).1 he)
    · rw [if_neg he]
      have hs := Classical.not_not.1 (mt (h.excluded q via).2 he)
      have hports : ∀ r, r ∈ x.1.served ++ [q] ↔ r ∈ x.1.served ∨ (ListStep.port q via).same (.port r none) = true := fun r => by
        simp [ListStep.same, eq_comm]
      have hgroups : ∀ g, g ∈ x.1.heldGroups ↔ g ∈ x.1.heldGroups ∨ (ListStep.port q via).same (.held g) = true := fun g => by
        simp [ListStep.same]
      have hfresh : (madeOf (s.verdictsOf f l)).any (·.same (.port q none)) = false := by
        rw [List.any_eq_false]
        intro z hz
        have := List.any_eq_false.1 hs.2 z (s.madeOf_mem f _ _ _ z hz)
        cases z with
        | port r via' => simpa [ListStep.same] using this
        | held g => exact Bool.false_ne_true
        | deep a b c => exact Bool.false_ne_true
      have hin : (ListStep.port q via) ∈ s.servedOf f (l ++ [.port q via]) := by
        rw [State.servedOf_snoc, if_pos hs]
        simp
      have hdepth := hc.depth hfresh (hold q via rfl hin)
      rw [State.verdictsOf_snoc hs, madeOf_append, List.length_append, State.verdicts_port, hsize] at hN
      have hv := State.verdicts_port s f (min 48 (Runs.size s.cells.freeCopies) - (madeOf (s.verdictsOf f l)).length)
        (4096 - s.holdCount - ((madeOf (s.verdictsOf f l)).filter ListStep.isHeld).length) q via []
      by_cases hf : s.fits f q = false
      · rw [if_pos hf] at hv
        refine h.serve hs rfl hports hgroups rfl hv ?_
        rw [madeOf_cons_some, show madeOf (s.verdicts f _ _ []) = [] from rfl, List.append_nil]
        exact hc.offer_full hdepth via hf
      · have hf' : s.fits f q = true := by simpa using hf
        rw [if_neg hf] at hv hN
        by_cases hn : min 48 (Runs.toList s.cells.freeCopies).length - (madeOf (s.verdictsOf f l)).length = 0
        · rw [if_pos (hsize ▸ hn)] at hv
          refine h.serve hs rfl hports hgroups rfl hv ?_
          rw [madeOf_cons_some, show madeOf (s.verdicts f _ _ []) = [] from rfl, List.append_nil]
          exact hc.offer_none hdepth via hf' ((copies_left _ _).1 hn)
        · rw [if_neg hn] at hN
          rw [if_neg (hsize ▸ hn)] at hv
          rw [madeOf_cons_none, List.length_cons] at hN
          obtain ⟨hlt, tag, rest, hd, htag⟩ := hc.next_tag hn (by omega) hnd
          refine h.serve hs rfl hports hgroups rfl hv ?_
          rw [madeOf_cons_none, show madeOf (s.verdicts f _ _ []) = [] from rfl]
          rw [show dropsOf ((ListStep.port q via, none) :: s.verdicts f _ _ []) = [] from rfl, List.append_nil]
          exact hc.offer_copy hdepth via hf' hlt hd htag
  | held g =>
    by_cases hg : g ∈ x.1.heldGroups
    · have hx : repServe f x (.held g) = x := if_pos hg
      rw [hx]
      exact h.skip (.inl rfl) fun hs => by
        rw [(h.groups g).1 hg] at hs
        cases hs.2
    · have hx : repServe f x (.held g) = ({ x.1 with heldGroups := x.1.heldGroups ++ [g] }, x.2.offerHeld f g) := if_neg hg
      have hs : s.servesStep f (.held g) = true ∧ (s.servedOf f l).any (·.same (.held g)) = false :=
        ⟨rfl, by simpa using mt (h.groups g).2 hg⟩
      have hports : ∀ r, r ∈ x.1.served ↔ r ∈ x.1.served ∨ (ListStep.held g).same (.port r none) = true := fun r => by
        simp [ListStep.same]
      have hgroups : ∀ k, k ∈ x.1.heldGroups ++ [g] ↔ k ∈ x.1.heldGroups ∨ (ListStep.held g).same (.held k) = true := fun k => by
        simp [ListStep.same, eq_comm]
      obtain ⟨-, hcount⟩ := hc.pool hso
      rw [hx]
      rw [State.verdictsOf_snoc hs, madeOf_append, List.length_append, State.verdicts_held, hsize] at hN
      have hv := State.verdicts_held s f (min 48 (Runs.size s.cells.freeCopies) - (madeOf (s.verdictsOf f l)).length)
        (4096 - s.holdCount - ((madeOf (s.verdictsOf f l)).filter ListStep.isHeld).length) g []
      by_cases hr : 4096 - s.holdCount - ((madeOf (s.verdictsOf f l)).filter ListStep.isHeld).length = 0
      · rw [if_pos hr] at hv
        refine h.serve hs rfl hports hgroups rfl hv ?_
        rw [madeOf_cons_some, show madeOf (s.verdicts f _ _ []) = [] from rfl, List.append_nil]
        exact hc.hold_full g (by omega)
      · rw [if_neg hr] at hv hN
        by_cases hn : min 48 (Runs.toList s.cells.freeCopies).length - (madeOf (s.verdictsOf f l)).length = 0
        · rw [if_pos (hsize ▸ hn)] at hv
          refine h.serve hs rfl hports hgroups rfl hv ?_
          rw [madeOf_cons_some, show madeOf (s.verdicts f _ _ []) = [] from rfl, List.append_nil]
          exact hc.hold_none g (by omega) ((copies_left _ _).1 hn)
        · rw [if_neg hn] at hN
          rw [if_neg (hsize ▸ hn)] at hv
          rw [madeOf_cons_none, List.length_cons] at hN
          obtain ⟨hlt, tag, rest, hd, htag⟩ := hc.next_tag hn (by omega) hnd
          refine h.serve hs rfl hports hgroups rfl hv ?_
          rw [madeOf_cons_none, show madeOf (s.verdicts f _ _ []) = [] from rfl]
          rw [show dropsOf ((ListStep.held g, none) :: s.verdicts f _ _ []) = [] from rfl, List.append_nil]
          exact hc.hold_copy g (by omega) hlt hd htag
  | deep inList i m =>
    by_cases hd : x.1.depthReported = true
    · have hx : repServe f x (.deep inList i m) = x := if_pos hd
      rw [hx]
      exact h.skip (.inr (h.deep.1 hd)) fun hs => Bool.false_ne_true hs.1
    · have hx : repServe f x (.deep inList i m) = ({ x.1 with depthReported := true },
          x.2.ask .replicationDepth f.segment (2 ^ 16 * inList + i) m) := if_neg hd
      have ha : asksOf f l = [] := Classical.not_not.1 (mt h.deep.2 hd)
      have hserved : s.servedOf f (l ++ [.deep inList i m]) = s.servedOf f l := by
        rw [State.servedOf_snoc, if_neg fun hs => Bool.false_ne_true hs.1]
      have hasks : asksOf f (l ++ [.deep inList i m]) = asksOf f l ++
          [{ kind := .replicationDepth, subject := f.segment, first := 2 ^ 16 * inList + i, second := m }] := by
        rw [asksOf_snoc, if_pos ha, ha]
        rfl
      rw [hx]
      refine ⟨by rw [hserved]; exact h.ports, by rw [hserved]; exact h.groups, ?_, ?_⟩
      · rw [hasks]
        simp
      · have hv : s.verdictsOf f (l ++ [.deep inList i m]) = s.verdictsOf f l := by
          unfold State.verdictsOf
          rw [hserved]
        have hask := h.copied.ask
          { kind := .replicationDepth, subject := f.segment, first := 2 ^ 16 * inList + i, second := m }
        rw [← hasks, ← hv] at hask
        exact hask

/-- A whole walk over steps. -/
theorem Served.fold (hnone : s.frame f.first = none) (m : ListId) (all : List ListStep) (hso : Table.sorted s.failover.hold = true)
    (hnd : ((Runs.toList s.cells.freeCopies).take N).Nodup) (hN : (madeOf (s.verdictsOf f all)).length ≤ N)
    (hold : ∀ q via, .port q via ∈ s.servedOf f all → ∀ j ∈ s.queue q f.cls,
      j ∉ (Runs.toList s.cells.freeCopies).take N ∧ ∀ k, s.copy j = some k → k.frame ≠ f.first) :
    Served s f (all.foldl (repServe f) (s.startRep m, s)) all := by
  have key (pre : List ListStep) (hpre : pre <+: all) : Served s f (pre.foldl (repServe f) (s.startRep m, s)) pre := by
    induction pre using List.reverseRecOn with
    | nil => exact .start hnone m
    | append_singleton pre y ih =>
      have hsub := (List.prefix_append pre [y]).trans hpre
      have hlen {l : List ListStep} (hl : l <+: all) : (madeOf (s.verdictsOf f l)).length ≤ N :=
        (madeOf_prefix (s.verdicts_prefix f _ _ (s.servedOf_prefix f hl))).trans hN
      rw [List.foldl_append]
      refine (ih hsub).next y hso hnd (hlen hpre) fun q via hy hin j hj => ?_
      obtain ⟨h1, h2⟩ := hold q via (by rw [← hy]; exact (s.servedOf_prefix f hpre).subset hin) j hj
      exact ⟨fun hm => h1 (List.take_subset_take_left _ (hlen hsub) hm), h2⟩
  exact key all (List.prefix_refl _)

end

end

end Sys2Proof.Machine
end

section
/-! Frames that pass the frame-level checks (O19). -/
namespace Sys2Proof.Machine

/-! ## A list read in the state learned from -/

section
variable {s u : State} {f : Forming}

theorem State.listSteps_congr (ht : u.tables = s.tables) (hg : ∀ g, u.groupState g = s.groupState g)
    (hm : ∀ g h, u.memberChoice g h = s.memberChoice g h) (k : Nat) (l : ListId) : u.listSteps f k l = s.listSteps f k l := by
  have hlist (m : ListId) : u.repList m = s.repList m := by unfold State.repList; rw [ht]
  have hentry (sub : ListId → Nat → ListId → List ListStep) (m : ListId) : u.entrySteps f sub m = s.entrySteps f sub m := by
    unfold State.entrySteps
    simp only [hlist, hg, hm]
  induction k generalizing l with
  | zero => exact hentry _ l
  | succ k ih =>
    have hsub : (fun (_ : ListId) (_ : Nat) (m : ListId) => u.listSteps f k m) = fun _ _ m => s.listSteps f k m :=
      funext fun _ => funext fun _ => funext fun m => ih m
    show u.entrySteps f (fun _ _ m => u.listSteps f k m) l = _
    rw [hsub]
    exact hentry _ l

theorem State.verdictsOf_congr (ht : u.tables = s.tables) (hl : ∀ q, u.liveness q = s.liveness q) (hf : ∀ q, u.fits f q = s.fits f q)
    (hfree : u.cells.freeCopies = s.cells.freeCopies) (hh : u.holdCount = s.holdCount) (l : List ListStep) :
    u.verdictsOf f l = s.verdictsOf f l := by
  have hserve : u.servesStep f = s.servesStep f := funext fun y => by
    cases y with
    | port q via =>
      unfold State.servesStep
      dsimp only
      rw [State.portEntry_congr ht, hl]
    | held => rfl
    | deep => rfl
  have hverdicts (copies room : Nat) (l : List ListStep) : u.verdicts f copies room l = s.verdicts f copies room l := by
    induction l generalizing copies room with
    | nil => rfl
    | cons y l ih =>
      cases y with
      | port q via => rw [State.verdicts_port, State.verdicts_port, hf, ih, ih]
      | held g => rw [State.verdicts_held, State.verdicts_held, ih, ih]
      | deep a b c => exact ih _ _
  unfold State.verdictsOf State.servedOf
  rw [hverdicts, hserve, hfree, hh]

end

/-! ## Each step served once -/

/-- What alone satisfies `P` in a list is what a filter leaves. -/
theorem filter_eq_of_apart {α : Type} {P : α → Bool} {l : List α} {x : α} (h : l.Pairwise fun a b => ¬(P a = true ∧ P b = true))
    (hx : x ∈ l) (hP : P x = true) : l.filter P = [x] := by
  obtain ⟨a, b, rfl⟩ := List.append_of_mem hx
  obtain ⟨-, hb, hab⟩ := List.pairwise_append.1 h
  have h1 : a.filter P = [] := List.filter_eq_nil_iff.2 fun y hy hy' => hab y hy x List.mem_cons_self ⟨hy', hP⟩
  have h2 : b.filter P = [] := List.filter_eq_nil_iff.2 fun y hy hy' => (List.pairwise_cons.1 hb).1 y hy ⟨hP, hy'⟩
  rw [List.filter_append, List.filter_cons, if_pos hP, h1, h2]
  rfl

theorem ListStep.same_trans {a b c : ListStep} (h1 : a.same c = true) (h2 : b.same c = true) : a.same b = true := by
  cases a <;> cases b <;> cases c <;> simp_all [ListStep.same]

theorem pairwise_firstOfEach (l : List ListStep) : (firstOfEach l).Pairwise fun a b => a.same b = false := by
  induction l using List.reverseRecOn with
  | nil => exact List.Pairwise.nil
  | append_singleton l y ih =>
    have hsnoc : firstOfEach (l ++ [y]) = if (firstOfEach l).any y.same then firstOfEach l else firstOfEach l ++ [y] := by
      unfold firstOfEach
      rw [List.foldl_append]
      rfl
    rw [hsnoc]
    split
    · exact ih
    · rename_i h
      refine List.pairwise_append.2 ⟨ih, List.pairwise_singleton _ _, fun a ha b hb => ?_⟩
      rw [List.mem_singleton.1 hb, ListStep.same_comm]
      have := List.any_eq_false.1 (by simpa using h) a ha
      simpa using this

theorem State.verdicts_sublist (s : State) (f : Forming) (copies room : Nat) (l : List ListStep) :
    ((s.verdicts f copies room l).map (·.1)).Sublist l := by
  induction l generalizing copies room with
  | nil => exact List.Sublist.slnil
  | cons y l ih =>
    cases y with
    | port q via =>
      rw [State.verdicts_port]
      split
      · exact (ih _ _).cons_cons _
      · split <;> exact (ih _ _).cons_cons _
    | held g =>
      rw [State.verdicts_held]
      split
      · exact (ih _ _).cons_cons _
      · split <;> exact (ih _ _).cons_cons _
    | deep a b c => exact (ih _ _).cons _

theorem State.madeOf_sublist (s : State) (f : Forming) (l : List ListStep) : (madeOf (s.verdictsOf f l)).Sublist (s.servedOf f l) :=
  ((List.filter_sublist).map _).trans (s.verdicts_sublist f _ _ _)

theorem State.madeOf_apart (s : State) (f : Forming) (l : List ListStep) :
    (madeOf (s.verdictsOf f l)).Pairwise fun a b => a.same b = false :=
  (pairwise_firstOfEach _).sublist (s.madeOf_sublist f l)

theorem mem_firstOfEach {l : List ListStep} {y : ListStep} (h : y ∈ firstOfEach l) : y ∈ l := by
  induction l using List.reverseRecOn with
  | nil => exact h
  | append_singleton l z ih =>
    have hsnoc : firstOfEach (l ++ [z]) = if (firstOfEach l).any z.same then firstOfEach l else firstOfEach l ++ [z] := by
      unfold firstOfEach
      rw [List.foldl_append]
      rfl
    rw [hsnoc] at h
    split at h
    · exact List.mem_append_left _ (ih h)
    · rcases List.mem_append.1 h with h | h
      exacts [List.mem_append_left _ (ih h), List.mem_append_right _ h]

theorem State.madeOf_serves (s : State) (f : Forming) (l : List ListStep) : ∀ y ∈ madeOf (s.verdictsOf f l), s.servesStep f y = true :=
  fun _ hy => (List.mem_filter.1 (mem_firstOfEach ((s.madeOf_sublist f l).subset hy))).2

section
variable {tags : List Nat} {made : List ListStep} (hp : made.Pairwise fun a b => a.same b = false)
include hp

/-- The tags of the copies of steps that are the same as one: the tag of that one. -/
theorem tagsOf_mem (hlen : made.length ≤ tags.length) {x : Nat × ListStep} (hx : x ∈ tags.zip made) {z : ListStep}
    (hz : x.2.same z = true) : tagsOf tags made (·.same z) = [x.1] := by
  have hpair : (tags.zip made).Pairwise fun a b => ¬(a.2.same z = true ∧ b.2.same z = true) := by
    have hmap : ((tags.zip made).map Prod.snd).Pairwise fun a b => a.same b = false := by
      rw [List.map_snd_zip hlen]
      exact hp
    refine (List.pairwise_map.1 hmap).imp fun hab h => ?_
    rw [ListStep.same_trans h.1 h.2] at hab
    cases hab
  unfold tagsOf
  rw [filter_eq_of_apart (P := fun y => y.2.same z) hpair hx hz]
  rfl

theorem length_filter_same (z : ListStep) : (made.filter (·.same z)).length = if made.any (·.same z) then 1 else 0 := by
  by_cases h : made.any (·.same z) = true
  · obtain ⟨y, hy, hz⟩ := List.any_eq_true.1 h
    have hpair : made.Pairwise fun a b => ¬(a.same z = true ∧ b.same z = true) := hp.imp fun hab h => by
      rw [ListStep.same_trans h.1 h.2] at hab
      cases hab
    rw [if_pos h, filter_eq_of_apart (P := fun y => y.same z) hpair hy hz]
    rfl
  · rw [if_neg h, List.filter_eq_nil_iff.2 fun y hy hy' => h (List.any_eq_true.2 ⟨y, hy, hy'⟩)]
    rfl

end

theorem tagsOf_eq_nil {tags : List Nat} {made : List ListStep} {P : ListStep → Bool} (h : made.any P = false) : tagsOf tags made P = [] := by
  unfold tagsOf
  rw [List.map_eq_nil_iff, List.filter_eq_nil_iff]
  exact fun x hx hs => List.any_eq_false.1 h x.2 (List.of_mem_zip (a := x.1) (b := x.2) hx).2 hs

end Sys2Proof.Machine
end

section
/-! Frames that pass the frame-level checks (O19): single targets and lists, and the statement. -/
namespace Sys2Proof.Machine

section
variable {s : State} {p : Port} {n : RingSlot} {g : Lanes} {d : Descriptor} {f : Forming}

/-! ## What replication reads behind learning -/

/-- Replication reads of the admitting state what it reads of the state before the taking. -/
structure Reads (s u : State) (f : Forming) : Prop where
  tables : u.tables = s.tables
  live : u.live = s.live
  groups : ∀ g, u.groupState g = s.groupState g
  choice : ∀ g h, u.memberChoice g h = s.memberChoice g h
  fits : ∀ q, u.fits f q = s.fits f q
  freeCopies : u.cells.freeCopies = s.cells.freeCopies
  holdCount : u.holdCount = s.holdCount
  hold : u.failover.hold = s.failover.hold

theorem State.admitting_reads : Reads s (s.admitting p n g d f) f := by
  have hout := State.admitting_outside (s := s) (p := p) (n := n) (g := g) (d := d) (f := f)
  refine ⟨hout.tables, hout.live, fun g => State.groupState_congr (by rw [hout.failover]) g,
    fun g h => State.memberChoice_congr hout.tables (by rw [hout.live]) g h, fun q => ?_, rfl, ?_, by rw [hout.failover]⟩
  · exact State.fits_of (State.cellDepth_of (State.queue_congr hout.queues q f.cls) (fun _ _ => rfl) fun _ _ _ _ => rfl) hout.tables rfl
  · unfold State.holdCount
    rw [hout.failover]

theorem State.admitting_start (h : s.admits p n g d f) : Copied (s.admitting p n g d f) (s.admitting p n g d f) f [] [] [] :=
  .start h.2.2.2.2.2.2.2.2.2.2.2.2

/-- The ingress check (R64, R68). -/
theorem Reads.ingress {u : State} (h : Reads s u f) (q : Port) :
    u.ingressExcluded f q = true ↔ q = f.port ∧ (s.portEntry q).hairpin = false := by
  unfold State.ingressExcluded
  rw [State.portEntry_congr h.tables]
  simp

/-! ## Single targets -/

/-- A target port, or the member chosen for one, that receives no copy. -/
theorem Reads.port_refused {u : State} (h : Reads s u f) (hc : Copied u u f [] [] []) {q : Port} {counted : State}
    (hr : s.portRefusal (s.learn f) f q = some counted) (via : Option GroupId) :
    ∃ drops, Copied u (if u.ingressExcluded f q then u else u.offerCopy f q via) f [] drops [] ∧
      counted = (s.learn f).countDrops f.tenant drops := by
  unfold State.portRefusal at hr
  by_cases hin : q = f.port ∧ (s.portEntry q).hairpin = false
  · rw [if_pos hin] at hr
    rw [if_pos ((h.ingress q).2 hin)]
    exact ⟨[], hc, (Option.some.inj hr).symm⟩
  · rw [if_neg hin] at hr
    rw [if_neg fun e => hin ((h.ingress q).1 e)]
    cases hf : s.fits f q with
    | true =>
      rw [if_pos hf] at hr
      split at hr
      · rename_i hnil
        refine ⟨[.noCopy], hc.offer_none rfl via ((h.fits q).trans hf) (.inr ?_), (Option.some.inj hr).symm⟩
        rw [h.freeCopies, hnil]
        rfl
      · cases hr
    | false =>
      rw [if_neg (by rw [hf]; decide)] at hr
      exact ⟨[.queueFull], hc.offer_full rfl via ((h.fits q).trans hf), (Option.some.inj hr).symm⟩

/-- A single target that comes to no copy (R67 to R69). -/
theorem Reads.target_refused {u : State} (h : Reads s u f) (hc : Copied u u f [] [] []) {tgt : Target} {counted : State}
    (hr : s.targetRefusal (s.learn f) f tgt = some counted) :
    ∃ drops, Copied u (u.replicate f tgt) f [] drops [] ∧ counted = (s.learn f).countDrops f.tenant drops := by
  cases tgt with
  | port q => exact h.port_refused hc hr none
  | group grp =>
    show ∃ drops, Copied u (u.directGroup f grp) f [] drops [] ∧ _
    change (if s.groupState grp = .evacuating then _ else _ : Option State) = _ at hr
    unfold State.directGroup
    rw [h.groups, h.choice]
    by_cases he : s.groupState grp = .evacuating
    · rw [if_pos he] at hr ⊢
      by_cases hh : 4096 ≤ s.holdCount
      · rw [if_pos hh] at hr
        exact ⟨[.holdFull], hc.hold_full grp (by rw [h.holdCount]; exact hh), (Option.some.inj hr).symm⟩
      · rw [if_neg hh] at hr
        split at hr
        · rename_i hnil
          refine ⟨[.noCopy], hc.hold_none grp (by rw [h.holdCount]; omega) (.inr ?_), (Option.some.inj hr).symm⟩
          rw [h.freeCopies, hnil]
          rfl
        · cases hr
    · rw [if_neg he] at hr ⊢
      cases hm : s.memberChoice grp f.flowHash with
      | none =>
        rw [hm] at hr
        exact ⟨[.noPath], hc.drop .noPath, (Option.some.inj hr).symm⟩
      | some q =>
        rw [hm] at hr
        exact h.port_refused hc hr (some grp)
  | list l => cases hr

/-- A port that receives a copy. -/
theorem Reads.port_copied {u : State} (h : Reads s u f) (hc : Copied u u f [] [] []) {q : Port} {via : Option GroupId} {tgt : Target}
    (htgt : match tgt with
      | .port r => r = q ∧ via = none
      | .group grp => via = some grp ∧ s.groupState grp ≠ .evacuating ∧ s.memberChoice grp f.flowHash = some q
      | .list _ => False)
    (hin : q = f.port → (s.portEntry q).hairpin = true) (hf : s.fits f q = true) {tag : Nat} {tail : List Nat}
    (hfree : Runs.toList s.cells.freeCopies = tag :: tail) : Copied u (u.replicate f tgt) f [.port q via] [] [] := by
  have hoffer : Copied u (if u.ingressExcluded f q then u else u.offerCopy f q via) f [.port q via] [] [] := by
    rw [if_neg fun e => by
      obtain ⟨h1, h2⟩ := (h.ingress q).1 e
      rw [hin h1] at h2
      cases h2]
    exact hc.offer_copy rfl via (tag := tag) (rest := tail) ((h.fits q).trans hf) (show 0 < 48 by decide) (by rw [h.freeCopies, hfree]; rfl)
      List.not_mem_nil
  cases tgt with
  | port r =>
    obtain ⟨rfl, rfl⟩ := htgt
    exact hoffer
  | group grp =>
    obtain ⟨rfl, he, hm⟩ := htgt
    show Copied u (u.directGroup f grp) f _ _ _
    unfold State.directGroup
    rw [h.groups, h.choice, if_neg he, hm]
    exact hoffer
  | list l => exact htgt.elim

/-- A group that is EVACUATING, with room in the pool. -/
theorem Reads.group_held {u : State} (h : Reads s u f) (hc : Copied u u f [] [] []) {grp : GroupId} (he : s.groupState grp = .evacuating)
    (hh : s.holdCount < 4096) {tag : Nat} {tail : List Nat} (hfree : Runs.toList s.cells.freeCopies = tag :: tail) :
    Copied u (u.replicate f (.group grp)) f [.held grp] [] [] := by
  show Copied u (u.directGroup f grp) f _ _ _
  unfold State.directGroup
  rw [h.groups, if_pos he]
  exact hc.hold_copy grp (tag := tag) (rest := tail) (by rw [h.holdCount]; exact hh) (show 0 < 48 by decide)
    (by rw [h.freeCopies, hfree]; rfl) List.not_mem_nil

/-- A list, with its verdicts. -/
theorem Reads.list_copied {u : State} (h : Reads s u f) (hc : Copied u u f [] [] []) {l : ListId}
    {verdicts : List (ListStep × Option DropCause)} {tags tail : List Nat} (hcan : s.canonical)
    (hcount : ∀ m : ListId, (s.repList m).count ≤ 16) (hv : verdicts = s.listVerdicts f l)
    (hfree : Runs.toList s.cells.freeCopies = tags ++ tail) (hlen : tags.length = (madeOf verdicts).length) (hnd : tags.Nodup)
    (hold : ∀ x ∈ verdicts, ∀ q via, x.1 = .port q via → ∀ j ∈ s.queue q f.cls, j ∉ tags ∧ ∀ k, s.copy j = some k → k.frame ≠ f.first)
    (hcopies : u.cells.copies = s.cells.copies) (hqueues : u.queues = s.queues) :
    Copied u (u.replicate f (.list l)) f (madeOf verdicts) (dropsOf verdicts) (s.depthAsks f l) := by
  have hsteps := State.listSteps_congr (f := f) h.tables h.groups h.choice 4 l
  have hverdicts : verdicts = u.verdictsOf f (s.listSteps f 4 l) := by
    rw [State.verdictsOf_congr h.tables (fun q => congrArg LivePort.state (livePort_congr (by rw [h.live]) q)) h.fits h.freeCopies
      h.holdCount, hv]
    unfold State.listVerdicts State.verdictsOf
    rw [State.servedBy_eq]
  have htake : (Runs.toList u.cells.freeCopies).take tags.length = tags := by rw [h.freeCopies, hfree, List.take_left]
  have hso : Table.sorted u.failover.hold = true := by
    rw [h.hold]
    exact ((State.canonical_iff s).1 hcan).hold
  have hserved := Served.fold (s := u) (f := f) (N := tags.length) hc.frame l (s.listSteps f 4 l) hso (by rw [htake]; exact hnd)
    (by rw [← hverdicts, hlen]) fun q via hin j hj => by
      rw [htake]
      obtain ⟨c, hmem⟩ := u.mem_verdicts f (min 48 (Runs.size u.cells.freeCopies)) (4096 - u.holdCount) _ hin
      have hmem' : (ListStep.port q via, c) ∈ verdicts := by rw [hverdicts]; exact hmem
      rw [State.queue_congr hqueues] at hj
      have := hold _ hmem' q via rfl j hj
      unfold State.copy
      rw [hcopies]
      exact this
  rw [State.replicate_list (fun m => by unfold State.repList; rw [h.tables]; exact hcount m), hsteps, State.depthAsks_eq, hverdicts]
  exact hserved.copied

end

end Sys2Proof.Machine
end

section
/-! Frames that pass the frame-level checks (O19): the statement. -/
namespace Sys2Proof.Machine

theorem same_port_comm (q r : Port) (via : Option GroupId) : (ListStep.port q via).same (.port r none) = decide (r = q) := by
  simp [ListStep.same, eq_comm]

/-- One copy on a port alone: its frame's target-port set. -/
theorem ports_single (q : Port) (via : Option GroupId) :
    (allPorts.filter fun r => [ListStep.port q via].any (·.same (.port r none))) = [q] := by
  rw [← filter_eq_singleton q]
  refine List.filter_congr fun r _ => ?_
  rw [List.any_cons, List.any_nil, Bool.or_false, same_port_comm]

theorem ports_held (grp : GroupId) : (allPorts.filter fun r => [ListStep.held grp].any (·.same (.port r none))) = [] :=
  List.filter_eq_nil_iff.2 fun _ _ => Bool.false_ne_true

/-- Settles O19. -/
theorem unicastFrameIsQueued : Obligations.UnicastFrameIsQueued := fun p n g s s0 d f tgt own counted h hs0 hres hown => by
  subst hs0 hown
  have hrow := exec_admitted h hres
  have hreads := State.admitting_reads (s := s) (p := p) (n := n) (g := g) (d := d) (f := f)
  have hstart := State.admitting_start h
  have hport : f.port = p := (State.admits_frame h).2.1
  refine ⟨fun hr => ?_, fun q via tag tail htgt hin hf hfree => ?_, fun grp tag tail htgt he hh hfree => ?_,
    fun l verdicts made tags tail htgt hcan hcount hv hmade hfree hlen hnd hold => ?_⟩
  · obtain ⟨drops, hc, hcounted⟩ := hreads.target_refused hstart hr
    rw [hcounted]
    exact ⟨_, hrow, hc.noFrame h⟩
  · have hc := hreads.port_copied hstart htgt (fun e => by rw [e, hport]; exact hin (e.trans hport)) hf hfree
    obtain ⟨hentered, hstand⟩ := hc.entered h (List.cons_ne_nil _ _)
    rw [ports_single] at hentered
    have htags (r : Port) : tagsOf (tag :: tail) [.port q via] (·.same (.port r none)) = if r = q then [tag] else [] := by
      unfold tagsOf
      by_cases hr : r = q
      · subst hr; simp [ListStep.same]
      · have hr' : ¬q = r := fun e => hr e.symm
        simp [ListStep.same, hr, hr']
    refine ⟨_, hrow, hentered, ?_, fun j hj => ?_, ?_, ?_, fun r c hrc => ?_, ?_, fun r hr => ?_, ?_⟩
    · exact hstand.copyNew (tag, .port q via) (by rw [hfree]; exact List.mem_cons_self)
    · exact hstand.copyOld j (by rw [hfree]; simpa using hj)
    · rw [hstand.free, hfree]; rfl
    · rw [hstand.queue, if_pos rfl, hfree, htags, if_pos rfl]
    · rw [hstand.queue, hfree, htags]
      by_cases hc' : c = f.cls
      · rw [if_pos hc', if_neg fun e => hrc (by rw [e, hc']), List.append_nil]
      · rw [if_neg hc', List.append_nil]
    · rw [hstand.egress]
      simp [ListStep.same]
    · have hr' : ¬q = r := fun e => hr e.symm
      rw [hstand.egress]
      simp [ListStep.same, hr']
    · have hout := hstand.outside
      exact ⟨.inr hout.path, .inr hout.tables, .inl (by decide), .inl (by decide), .inl (by decide), .inl (by decide), .inl (by decide),
        .inr hout.live, .inr (hstand.poolIdle rfl), .inl (by decide), .inl (by decide), .inr hout.slots, .inl (by decide),
        .inr hout.freeDraws, .inr hout.pending⟩
  · subst htgt
    obtain ⟨hentered, hstand⟩ := (hreads.group_held hstart he hh hfree).entered h (List.cons_ne_nil _ _)
    rw [ports_held] at hentered
    refine ⟨_, hrow, hentered, ?_, fun j hj => ?_, ?_, ?_, fun k hk => ?_, hstand.failover, ?_⟩
    · exact hstand.copyNew (tag, .held grp) (by rw [hfree]; exact List.mem_cons_self)
    · exact hstand.copyOld j (by rw [hfree]; simpa using hj)
    · rw [hstand.free, hfree]; rfl
    · rw [hstand.held, hfree]
      simp [tagsOf, ListStep.same]
    · have hk' : ¬grp = k := fun e => hk e.symm
      rw [hstand.held, hfree]
      simp [tagsOf, ListStep.same, hk']
    · have hout := hstand.outside
      exact ⟨.inr hout.path, .inr hout.tables, .inl (by decide), .inl (by decide), .inl (by decide), .inl (by decide),
        .inr (hstand.queuesIdle rfl), .inr hout.live, .inl (by decide), .inl (by decide), .inl (by decide), .inr hout.slots,
        .inl (by decide), .inr hout.freeDraws, .inr hout.pending⟩
  · subst htgt
    have hmade' : made = madeOf verdicts := hmade
    have hM := State.admitting_outside (s := s) (p := p) (n := n) (g := g) (d := d) (f := f)
    have hc := hreads.list_copied hstart hcan hcount hv hfree (by rw [hlen, hmade']) hnd hold rfl hM.queues
    rw [← hmade'] at hc
    refine ⟨fun hnil => ?_, fun hne => ?_⟩
    · rw [hnil] at hc
      exact ⟨_, hrow, hc.noFrame h⟩
    · have hverdicts : verdicts = s.verdictsOf f (s.listSteps f 4 l) := by
        rw [hv]
        unfold State.listVerdicts State.verdictsOf
        rw [State.servedBy_eq]
      have hapart : made.Pairwise fun a b => a.same b = false := by rw [hmade', hverdicts]; exact s.madeOf_apart f _
      obtain ⟨hentered, hstand⟩ := hc.entered h hne
      have hzip : (Runs.toList s.cells.freeCopies).zip made = tags.zip made := by
        have := List.zip_append (l₁ := tags) (r₁ := tail) (l₂ := made) (r₂ := []) hlen
        rw [List.append_nil, List.zip_nil_right, List.append_nil] at this
        rw [hfree, this]
      have htake : (Runs.toList s.cells.freeCopies).take made.length = tags := by rw [hfree, ← hlen, List.take_left]
      have htagsOf (P : ListStep → Bool) : tagsOf (Runs.toList s.cells.freeCopies) made P = tagsOf tags made P := by
        unfold tagsOf
        rw [hzip]
      refine ⟨_, hrow, hentered, fun x hx => ?_, fun j hj => ?_, ?_, fun r c hrc => ?_, fun k hk => ?_, fun r => ?_, hstand.failover,
        hstand.outside⟩
      · have hnew := hstand.copyNew x (by rw [hzip]; exact hx)
        have hone (z : ListStep) (hz : x.2.same z = true) : tagsOf tags made (·.same z) = [x.1] :=
          tagsOf_mem hapart (by omega) hx hz
        obtain ⟨j, y⟩ := x
        cases y with
        | port q via =>
          refine ⟨hnew, ?_⟩
          rw [hstand.queue, if_pos rfl, htagsOf, hone (.port q none) (by simp [ListStep.same])]
        | held grp =>
          refine ⟨hnew, ?_⟩
          rw [hstand.held, htagsOf, hone (.held grp) (by simp [ListStep.same])]
        | deep a b c =>
          have hmem : ListStep.deep a b c ∈ madeOf (s.verdictsOf f (s.listSteps f 4 l)) := by
            rw [← hverdicts, ← hmade']
            exact (List.of_mem_zip hx).2
          exact Bool.false_ne_true (s.madeOf_serves f _ _ hmem)
      · exact hstand.copyOld j (by rw [htake]; exact hj)
      · rw [hstand.free, hfree, ← hlen, List.drop_left]
      · rw [hstand.queue]
        by_cases hcls : c = f.cls
        · rw [if_pos hcls, tagsOf_eq_nil (by simpa using fun e => hrc ⟨e, hcls⟩), List.append_nil]
        · rw [if_neg hcls, List.append_nil]
      · rw [hstand.held, tagsOf_eq_nil hk, List.append_nil]
      · rw [hstand.egress, length_filter_same hapart]
        split <;> rfl

end Sys2Proof.Machine
end

section
/-! The cell law taken apart (R1, R9, R10): chains of the link map, and the law with cells under way between an issued list
and a frame or the free list, as a taking has them. -/
namespace Sys2Proof.Machine

/-! ## Chains of the link map (R9) -/

/-- The link map leads from cell to cell along this list, and has the end mark at its last. -/
def Chained (m : Table (Option Nat)) : List Nat → Prop
  | [] => False
  | [c] => m.find c = some none
  | c :: d :: rest => m.find c = some (some d) ∧ Chained m (d :: rest)

namespace Chained

variable {m m' : Table (Option Nat)} {c : Nat} {l : List Nat}

theorem congr (h : Chained m l) (hm : ∀ x ∈ l, m'.find x = m.find x) : Chained m' l := by
  induction l with
  | nil => exact h
  | cons c rest ih =>
    cases rest with
    | nil => exact (hm c List.mem_cons_self).trans h
    | cons d rest =>
      obtain ⟨hc, hrest⟩ := h
      exact ⟨(hm c List.mem_cons_self).trans hc, ih hrest fun x hx => hm x (List.mem_cons_of_mem _ hx)⟩

theorem found (h : Chained m l) : ∀ x ∈ l, m.find x ≠ none := by
  induction l with
  | nil => nofun
  | cons c rest ih =>
    cases rest with
    | nil =>
      intro x hx
      rw [List.mem_singleton.1 hx, show m.find c = some none from h]
      exact Option.some_ne_none _
    | cons d rest =>
      obtain ⟨hc, hrest⟩ := h
      intro x hx
      rcases List.mem_cons.1 hx with rfl | hx
      · rw [hc]; exact Option.some_ne_none _
      · exact ih hrest x hx

theorem getLast (h : Chained m l) : l.getLast?.bind m.find = some none := by
  induction l with
  | nil => exact h.elim
  | cons c rest ih =>
    cases rest with
    | nil => exact h
    | cons d rest =>
      rw [List.getLast?_cons_cons]
      exact ih h.2

/-- The cells that the link map gives are those of the chain, the bound allowing it. -/
theorem linked {n : Nat} (h : Chained m (c :: l)) (hn : (c :: l).length ≤ n) : linkedCells m n c = c :: l := by
  induction l generalizing c n with
  | nil =>
    obtain ⟨n, rfl⟩ : ∃ k, n = k + 1 := ⟨n - 1, by simp at hn; omega⟩
    unfold linkedCells
    rw [show m.find c = some none from h]
  | cons d rest ih =>
    obtain ⟨n, rfl⟩ : ∃ k, n = k + 1 := ⟨n - 1, by simp at hn; omega⟩
    obtain ⟨hc, hrest⟩ := h
    unfold linkedCells
    rw [hc]
    dsimp only
    rw [ih hrest (by simpa using hn)]

/-- Cells that the link map gives up to an end mark are a chain from the first. -/
theorem of_linked {n : Nat} (h : (linkedCells m n c).getLast?.bind m.find = some none) :
    ∃ rest, linkedCells m n c = c :: rest ∧ Chained m (c :: rest) := by
  induction n generalizing c with
  | zero => cases h
  | succ n ih =>
    unfold linkedCells at h ⊢
    cases hc : m.find c with
    | none => rw [hc] at h; cases h
    | some o =>
      rw [hc] at h
      cases o with
      | none => exact ⟨[], rfl, hc⟩
      | some d =>
        dsimp only at h ⊢
        cases hl : linkedCells m n d with
        | nil =>
          rw [hl] at h
          have h' : m.find c = some none := h
          rw [hc] at h'
          cases h'
        | cons x rest =>
          rw [hl, List.getLast?_cons_cons, ← hl] at h
          obtain ⟨rest', he, hch⟩ := ih h
          rw [hl] at he
          obtain ⟨rfl, rfl⟩ := List.cons.inj he
          exact ⟨x :: rest, rfl, hc, hch⟩

theorem linkEach (hnd : (c :: l).Nodup) (m : Table (Option Nat)) : Chained (Machine.linkEach (c :: l) m) (c :: l) := by
  induction l generalizing c m with
  | nil => exact Table.find_put_self ..
  | cons d rest ih =>
    obtain ⟨hc, hnd'⟩ := List.nodup_cons.1 hnd
    exact ⟨(linkEach_find _ hc).trans (Table.find_put_self ..), ih hnd' _⟩

end Chained

/-! ## The cells of a frame -/

/-- The cells the link map gives from this one are a chain of this length. -/
def State.chainOf (s : State) (first n : Nat) : Prop :=
  ∃ rest, s.frameCells first = first :: rest ∧ (first :: rest).length = n ∧ Chained s.cells.links (first :: rest)

theorem State.chainOf_iff (s : State) (first n : Nat) :
    s.chainOf first n ↔ 1 ≤ n ∧ (s.frameCells first).length = n ∧
      (s.frameCells first).getLast?.bind s.cells.links.find = some none := by
  constructor
  · rintro ⟨rest, he, hn, hc⟩
    rw [he]
    exact ⟨hn ▸ Nat.succ_le_succ (Nat.zero_le _), hn, hc.getLast⟩
  · rintro ⟨-, hn, hl⟩
    obtain ⟨rest, he, hc⟩ := Chained.of_linked hl
    exact ⟨rest, he, by rw [← hn]; exact congrArg List.length he.symm, hc⟩

/-- A frame keeps its cells where the link map keeps their entries. -/
theorem State.frameCells_keep {s t : State} {first n : Nat} (h : s.chainOf first n) (hnd : (s.frameCells first).Nodup)
    (ht : ∀ x ∈ s.frameCells first, t.cells.links.find x = s.cells.links.find x) :
    t.frameCells first = s.frameCells first ∧ t.chainOf first n := by
  obtain ⟨rest, he, hn, hc⟩ := h
  rw [he] at hnd ht ⊢
  have hc' := hc.congr ht
  have hcells : t.frameCells first = first :: rest := hc'.linked (Table.length_le_of_found hnd hc'.found)
  exact ⟨hcells, rest, hcells, hn, hc'⟩

/-! ## The law with cells under way -/

/-- The cell law while the cells `fly` are under way, those of `linked` with their entries in the link map. -/
structure CellsKept (s : State) (fly linked : List Nat) : Prop where
  place : (Runs.toList s.cells.freeList ++ (s.cellsIssued ++ (s.cellsHeld ++ fly))).Perm (List.range 65536)
  frames : ∀ e ∈ s.cells.frames, s.chainOf e.1 e.2.cellCount
  links : ∀ c, (s.cells.links.find c).isSome = true ↔ c ∈ s.cellsHeld ∨ c ∈ linked
  sub : linked ⊆ fly
  frameOrder : Table.sorted s.cells.frames = true
  linkOrder : Table.sorted s.cells.links = true
  passive : s.path.mode = .passive → s.cells.frames = [] ∧ s.cellsIssued = []

theorem State.cellLaw_iff (s : State) : s.cellLaw ↔ CellsKept s [] [] := by
  constructor
  · rintro ⟨h1, h2, h3, h4, h5, h6⟩
    refine ⟨by rwa [List.append_nil], fun e he => (s.chainOf_iff _ _).2 (h2 e he), fun c => ?_, nofun, h4, h5, h6⟩
    rw [h3 c]
    simp
  · rintro ⟨h1, h2, h3, -, h4, h5, h6⟩
    refine ⟨by rwa [List.append_nil] at h1, fun e he => (s.chainOf_iff _ _).1 (h2 e he), fun c => ?_, h4, h5, h6⟩
    rw [h3 c]
    simp

theorem State.cellsHeld_eq (s : State) : s.cellsHeld = (s.cells.frames.map (·.1)).flatMap s.frameCells :=
  (List.flatMap_map ..).symm

theorem State.cellsIssued_congr {s t : State} (h : t.cells.ports = s.cells.ports) : t.cellsIssued = s.cellsIssued := by
  unfold State.cellsIssued
  simp only [cellPort_congr h]

theorem State.cellsHeld_congr {s t : State} (h : t.cells.frames = s.cells.frames) (hl : t.cells.links = s.cells.links) :
    t.cellsHeld = s.cellsHeld := by
  unfold State.cellsHeld State.frameCells
  rw [h, hl]

theorem State.chainOf_congr {s t : State} (h : t.cells.links = s.cells.links) {a n : Nat} (hs : s.chainOf a n) : t.chainOf a n := by
  unfold State.chainOf State.frameCells at *
  rwa [h]

namespace CellsKept

variable {s t : State} {fly linked : List Nat}

/-- Nothing outside the cell manager's lists, frames and link map is in the law. -/
theorem congr (h : CellsKept s fly linked) (hf : t.cells.freeList = s.cells.freeList) (hp : t.cells.ports = s.cells.ports)
    (hr : t.cells.frames = s.cells.frames) (hl : t.cells.links = s.cells.links) (hm : t.path.mode = s.path.mode) :
    CellsKept t fly linked := by
  have hheld := State.cellsHeld_congr hr hl
  have hissued := State.cellsIssued_congr hp
  obtain ⟨h1, h2, h3, h4, h5, h6, h7⟩ := h
  refine ⟨by rwa [hf, hissued, hheld], fun e he => State.chainOf_congr hl (h2 e (hr ▸ he)), fun c => ?_, h4, hr ▸ h5, hl ▸ h6, ?_⟩
  · rw [hl, hheld]; exact h3 c
  · rw [hm, hr, hissued]; exact h7

/-- No cell is held twice, or held and under way. -/
theorem nodup (h : CellsKept s fly linked) : (s.cellsHeld ++ fly).Nodup := by
  have := (h.place.nodup_iff.2 List.nodup_range)
  exact (List.nodup_append.1 (List.nodup_append.1 this).2.1).2.1

theorem heldNodup (h : CellsKept s fly linked) : s.cellsHeld.Nodup := (List.nodup_append.1 h.nodup).1

theorem flyNodup (h : CellsKept s fly linked) : fly.Nodup := (List.nodup_append.1 h.nodup).2.1

theorem notHeld (h : CellsKept s fly linked) {c : Nat} (hc : c ∈ fly) : c ∉ s.cellsHeld := fun hh =>
  (List.nodup_append.1 h.nodup).2.2 c hh c hc rfl

theorem mem_held {e : Nat × Frame} (he : e ∈ s.cells.frames) {c : Nat} (hc : c ∈ s.frameCells e.1) : c ∈ s.cellsHeld :=
  List.mem_flatMap.2 ⟨e, he, hc⟩

theorem frameNodup (h : CellsKept s fly linked) {e : Nat × Frame} (he : e ∈ s.cells.frames) : (s.frameCells e.1).Nodup :=
  (List.nodup_flatMap.1 h.heldNodup).1 e he

/-- The key of a frame is one of its cells. -/
theorem first_mem (h : CellsKept s fly linked) {e : Nat × Frame} (he : e ∈ s.cells.frames) : e.1 ∈ s.frameCells e.1 := by
  obtain ⟨rest, hr, -, -⟩ := h.frames e he
  rw [hr]
  exact List.mem_cons_self

/-- A cell under way is the first of no frame. -/
theorem noFrame (h : CellsKept s fly linked) {c : Nat} (hc : c ∈ fly) : s.frame c = none := by
  cases hf : s.frame c with
  | none => rfl
  | some f =>
    have he := Table.find_mem hf
    exact absurd (mem_held he (h.first_mem he)) (h.notHeld hc)

end CellsKept

end Sys2Proof.Machine
end

section
/-! The cell law under the elementary effects (R1, R4, R6, R9, R17, R19). -/
namespace Sys2Proof.Machine

/-! ## Lists gathered over an index -/

/-- A gathering that changes at one index exchanges what stood there for what stands there now. -/
theorem flatMap_update {ι α : Type} [DecidableEq ι] {l : List ι} (hnd : l.Nodup) {p : ι} (hp : p ∈ l) {f g : ι → List α}
    (h : ∀ q, q ≠ p → g q = f q) : (l.flatMap g ++ f p).Perm (l.flatMap f ++ g p) := by
  have hl := List.perm_cons_erase hp
  have hrest : (l.erase p).flatMap g = (l.erase p).flatMap f :=
    List.flatMap_congr fun q hq => h q fun e => (List.Nodup.mem_erase_iff hnd).1 hq |>.1 e
  have hg := hl.flatMap_right g
  have hf := hl.flatMap_right f
  rw [List.flatMap_cons] at hg hf
  rw [hrest] at hg
  refine ((hg.append_right (f p)).trans ?_).trans (hf.symm.append_right (g p))
  refine List.perm_append_comm.trans ?_
  rw [List.append_assoc]
  exact .append_left _ List.perm_append_comm

/-- The issued cells of all ports once one port's are others. -/
theorem State.cellsIssued_setCellPort (s : State) (p : Port) (v : CellPort) :
    ((s.setCellPort p v).cellsIssued ++ Runs.toList (s.cellPort p).issued).Perm (s.cellsIssued ++ Runs.toList v.issued) := by
  have h := flatMap_update (f := fun q => Runs.toList (s.cellPort q).issued)
    (g := fun q => Runs.toList ((s.setCellPort p v).cellPort q).issued) nodup_allPorts (mem_allPorts p)
    fun q hq => by rw [State.setCellPort_cellPort, if_neg hq]
  unfold State.cellsIssued
  simpa only [State.setCellPort_cellPort, if_true] using h

/-! ## Frames entered, changed and removed -/

/-- An entry written over one that stands leaves the numbers listed as they were. -/
theorem Table.keys_put_perm {α : Type} {m : Table α} (h : Table.sorted m = true) {k : Nat} {v w : α} (hf : m.find k = some w) :
    ((Table.put m k v).map (·.1)).Perm (m.map (·.1)) :=
  ((Table.put_perm h k v).map _).trans ((Table.perm_of_find h hf).map (·.1)).symm

theorem Table.sorted_linkEach (cells : List Nat) {m : Table (Option Nat)} (h : Table.sorted m = true) :
    Table.sorted (linkEach cells m) = true := by
  induction cells generalizing m with
  | nil => exact h
  | cons c rest ih => exact ih (Table.sorted_put _ _ _ h)

namespace CellsKept

variable {s t : State} {fly linked : List Nat}

theorem setFrame (h : CellsKept s fly linked) {n : Nat} {f v : Frame} (hf : s.frame n = some f) (hc : v.cellCount = f.cellCount) :
    CellsKept (s.setFrame n v) fly linked := by
  have hkeys := Table.keys_put_perm h.frameOrder (v := v) hf
  have hheld : (s.setFrame n v).cellsHeld.Perm s.cellsHeld := by
    rw [State.cellsHeld_eq, State.cellsHeld_eq]
    exact hkeys.flatMap_right _
  refine ⟨((((hheld.append_right _).append_left _).append_left _)).trans h.place, fun e he => ?_, fun c => ?_, h.sub,
    Table.sorted_put _ _ _ h.frameOrder, h.linkOrder, fun hm => ?_⟩
  · rcases Table.mem_put_value he with rfl | he
    · rw [hc]
      exact h.frames (n, f) (Table.find_mem hf)
    · exact h.frames e he
  · rw [hheld.mem_iff]
    exact h.links c
  · have := Table.find_mem hf
    rw [(h.passive hm).1] at this
    cases this

/-- The cells of a frame that goes join the free list and leave the link map (R17). -/
theorem freeFrame (h : CellsKept s fly linked) {n : Nat} {f : Frame} (hf : s.frame n = some f) :
    CellsKept (s.freeFrame n f) fly linked := by
  have he := Table.find_mem hf
  have hperm := Table.perm_of_find h.frameOrder hf
  have hmem : ∀ e ∈ Table.erase s.cells.frames n, e ∈ s.cells.frames := fun e he => (List.mem_filter.1 he).1
  have hheld : s.cellsHeld.Perm (s.frameCells n ++ (Table.erase s.cells.frames n).flatMap fun e => s.frameCells e.1) :=
    hperm.flatMap_right _
  have hnd := hheld.nodup_iff.1 h.heldNodup
  have hout : ∀ e ∈ Table.erase s.cells.frames n, ∀ x ∈ s.frameCells e.1, x ∉ s.frameCells n := fun e he x hx hn =>
    (List.nodup_append.1 hnd).2.2 x hn x (List.mem_flatMap.2 ⟨e, he, hx⟩) rfl
  have hlinks : ∀ c, (s.freeFrame n f).cells.links.find c = if c ∈ s.frameCells n then none else s.cells.links.find c := fun c => by
    rw [State.freeFrame_links, Table.find_without]
  have hkeep : ∀ e ∈ Table.erase s.cells.frames n,
      (s.freeFrame n f).frameCells e.1 = s.frameCells e.1 ∧ (s.freeFrame n f).chainOf e.1 e.2.cellCount := fun e he =>
    State.frameCells_keep (h.frames e (hmem e he)) (h.frameNodup (hmem e he)) fun x hx => by
      rw [hlinks, if_neg (hout e he x hx)]
  have hheld' : (s.freeFrame n f).cellsHeld = (Table.erase s.cells.frames n).flatMap fun e => s.frameCells e.1 :=
    List.flatMap_congr fun e he => (hkeep e he).1
  have hfree : Runs.toList (s.freeFrame n f).cells.freeList = Runs.toList s.cells.freeList ++ s.frameCells n :=
    Runs.toList_pushAll _ _
  refine ⟨?_, fun e he => (hkeep e he).2, fun c => ?_, h.sub, Table.sorted_erase _ _ h.frameOrder, ?_, fun hm => ?_⟩
  · rw [hfree, hheld']
    refine .trans (List.perm_iff_count.2 fun a => ?_) h.place
    have hc := List.perm_iff_count.1 hheld a
    rw [show (s.freeFrame n f).cellsIssued = s.cellsIssued from rfl]
    simp only [List.count_append] at hc ⊢
    omega
  · rw [hlinks, hheld']
    have hc := (h.links c).trans (or_congr_left hheld.mem_iff)
    rw [List.mem_append] at hc
    split
    · rename_i hcn
      refine iff_of_false (by simp) (not_or.2 ⟨fun hh => ?_, fun hl => ?_⟩)
      · obtain ⟨e, he, hx⟩ := List.mem_flatMap.1 hh
        exact hout e he c hx hcn
      · exact h.notHeld (h.sub hl) (hheld.mem_iff.2 (List.mem_append_left _ hcn))
    · rename_i hcn
      rw [hc, or_iff_right hcn]
  · rw [State.freeFrame_links]
    exact Table.sorted_foldl_erase _ _ h.linkOrder
  · rw [(h.passive hm).1] at he
    cases he

/-- The frame that the cells under way become (R9, R14). -/
theorem newFrame {n : Nat} {rest : List Nat} (h : CellsKept s (n :: rest) (n :: rest)) (hch : Chained s.cells.links (n :: rest))
    {v : Frame} (hv : v.cellCount = (n :: rest).length) (hm : s.path.mode = .active) : CellsKept (s.setFrame n v) [] [] := by
  have hnone : s.frame n = none := h.noFrame List.mem_cons_self
  have hcells : s.frameCells n = n :: rest := hch.linked (Table.length_le_of_found h.flyNodup hch.found)
  have hheld : (s.setFrame n v).cellsHeld.Perm ((n :: rest) ++ s.cellsHeld) := by
    have hp := Table.put_perm h.frameOrder n v
    rw [Table.erase_of_find_none hnone] at hp
    have := hp.flatMap_right fun e => s.frameCells e.1
    rw [List.flatMap_cons] at this
    rw [← hcells]
    exact this
  refine ⟨?_, fun e he => ?_, fun c => ?_, nofun, Table.sorted_put _ _ _ h.frameOrder, h.linkOrder, fun hp => ?_⟩
  · rw [List.append_nil]
    exact .trans (.append_left _ (.append_left _ (hheld.trans List.perm_append_comm))) h.place
  · rcases Table.mem_put_value he with rfl | he
    · exact ⟨rest, hcells, hv.symm, hch⟩
    · exact h.frames e he
  · rw [hheld.mem_iff, List.mem_append]
    refine (h.links c).trans ?_
    rw [or_iff_left (show c ∉ ([] : List Nat) from List.not_mem_nil), or_comm]
  · rw [show (s.setFrame n v).path.mode = s.path.mode from rfl, hm] at hp
    cases hp

/-! ## Cells issued, claimed, linked and freed -/

theorem issueCells (h : CellsKept s fly linked) (p : Port) (n : Nat) (ha : s.isActive = true) :
    CellsKept (s.issueCells p n) fly linked := by
  obtain ⟨h1, h2, h3, h4, h5, h6, -⟩ := h
  refine ⟨?_, h2, h3, h4, h5, h6, fun hm => ?_⟩
  · have hi := State.cellsIssued_setCellPort s p
      { issued := Runs.append (s.cellPort p).issued (Runs.take n s.cells.freeList), pos := ((s.cellPort p).pos + n) % 512,
        lap := if 512 ≤ (s.cellPort p).pos + n then !(s.cellPort p).lap else (s.cellPort p).lap }
    have hi' : (s.issueCells p n).cellsIssued = (s.setCellPort p
      { issued := Runs.append (s.cellPort p).issued (Runs.take n s.cells.freeList), pos := ((s.cellPort p).pos + n) % 512,
        lap := if 512 ≤ (s.cellPort p).pos + n then !(s.cellPort p).lap else (s.cellPort p).lap }).cellsIssued := rfl
    rw [← hi'] at hi
    rw [show Runs.toList (s.issueCells p n).cells.freeList = (Runs.toList s.cells.freeList).drop n from Runs.toList_drop _ _]
    refine .trans (List.perm_iff_count.2 fun a => ?_) h1
    have hc := List.perm_iff_count.1 hi a
    have hsplit := congrArg (List.count a) (List.take_append_drop n (Runs.toList s.cells.freeList))
    rw [show (s.issueCells p n).cellsHeld = s.cellsHeld from rfl]
    simp only [Runs.toList_append, Runs.toList_take, List.count_append] at hc hsplit ⊢
    omega
  · have hm' : s.path.mode = .passive := hm
    simp [State.isActive, hm'] at ha

theorem resetCells (h : CellsKept s fly linked) (p : Port) : CellsKept (s.resetCells p) fly linked := by
  obtain ⟨h1, h2, h3, h4, h5, h6, h7⟩ := h
  have hi := State.cellsIssued_setCellPort s p CellPort.powerOn
  have hi' : (s.resetCells p).cellsIssued = (s.setCellPort p CellPort.powerOn).cellsIssued := rfl
  rw [← hi', show Runs.toList CellPort.powerOn.issued = [] from rfl, List.append_nil] at hi
  refine ⟨?_, h2, h3, h4, h5, h6, fun hm => ⟨(h7 hm).1, ?_⟩⟩
  · rw [show Runs.toList (s.resetCells p).cells.freeList = Runs.toList s.cells.freeList ++ Runs.toList (s.cellPort p).issued from
      Runs.toList_append _ _]
    refine .trans (List.perm_iff_count.2 fun a => ?_) h1
    have hc := List.perm_iff_count.1 hi a
    rw [show (s.resetCells p).cellsHeld = s.cellsHeld from rfl]
    simp only [List.count_append] at hc ⊢
    omega
  · rw [(h7 hm).2] at hi
    exact (List.append_eq_nil_iff.1 (List.perm_nil.1 hi)).1

theorem claim (h : CellsKept s [] []) (p : Port) (n : Nat) : CellsKept (s.claim p n) (s.claimed p n) [] := by
  obtain ⟨h1, h2, h3, -, h5, h6, h7⟩ := h
  have hi := State.cellsIssued_setCellPort s p { s.cellPort p with issued := Runs.drop n (s.cellPort p).issued }
  rw [show Runs.toList ({ s.cellPort p with issued := Runs.drop n (s.cellPort p).issued } : CellPort).issued =
    (Runs.toList (s.cellPort p).issued).drop n from Runs.toList_drop _ _] at hi
  have hcount : ∀ a, List.count a (s.claim p n).cellsIssued + List.count a (s.claimed p n) = List.count a s.cellsIssued := fun a => by
    have hc := List.perm_iff_count.1 hi a
    have hsplit := congrArg (List.count a) (List.take_append_drop n (Runs.toList (s.cellPort p).issued))
    unfold State.claim State.claimed
    simp only [Runs.toList_take, List.count_append] at hc hsplit ⊢
    omega
  refine ⟨.trans (List.perm_iff_count.2 fun a => ?_) h1, h2, h3, nofun, h5, h6, fun hm => ⟨(h7 hm).1, ?_⟩⟩
  · have := hcount a
    rw [show (s.claim p n).cellsHeld = s.cellsHeld from rfl, show (s.claim p n).cells.freeList = s.cells.freeList from rfl]
    simp only [List.count_append, List.count_nil] at this ⊢
    omega
  · refine List.eq_nil_iff_forall_not_mem.2 fun a ha => ?_
    have := hcount a
    rw [(h7 hm).2, List.count_nil] at this
    have := List.count_pos_iff.2 ha
    omega

/-- The link words of the cells under way (R9). -/
theorem writeLinks {cells : List Nat} (h : CellsKept s cells []) : CellsKept (State.writeLinks cells s) cells cells := by
  obtain ⟨t, ht⟩ : ∃ t, t = State.writeLinks cells s := ⟨_, rfl⟩
  have heq : t = s.carrying { s.cells with links := linkEach cells s.cells.links } s.intake (s.linkWrites cells ++ s.bus.writes) :=
    ht.trans (State.carrying_writeLinks (s := s) (c := s.cells) (i := s.intake) (ws := s.bus.writes) cells)
  have hlinks : t.cells.links = linkEach cells s.cells.links := by rw [heq]; rfl
  have hmode : t.path = s.path := by rw [heq]; rfl
  rw [← ht]
  have hfind : ∀ x, x ∉ cells → t.cells.links.find x = s.cells.links.find x := fun x hx => by rw [hlinks, linkEach_find _ hx]
  have hframes : t.cells.frames = s.cells.frames := by rw [heq]; rfl
  have hfree : t.cells.freeList = s.cells.freeList := by rw [heq]; rfl
  have hissued : t.cellsIssued = s.cellsIssued := State.cellsIssued_congr (by rw [heq]; rfl)
  have hkeep : ∀ e ∈ s.cells.frames, t.frameCells e.1 = s.frameCells e.1 ∧ t.chainOf e.1 e.2.cellCount := fun e he =>
    State.frameCells_keep (h.frames e he) (h.frameNodup he) fun x hx => hfind x fun hc => h.notHeld hc (mem_held he hx)
  have hheld : t.cellsHeld = s.cellsHeld := by
    unfold State.cellsHeld
    rw [hframes]
    exact List.flatMap_congr fun e he => (hkeep e he).1
  refine ⟨by rw [hfree, hissued, hheld]; exact h.place, fun e he => (hkeep e (hframes ▸ he)).2, fun c => ?_, List.Subset.refl _,
    hframes ▸ h.frameOrder, ?_, by rw [hmode, hframes, hissued]; exact h.passive⟩
  · rw [hheld]
    by_cases hc : c ∈ cells
    · refine iff_of_true ?_ (.inr hc)
      have := linkEach_found s.cells.links hc
      rw [hlinks]
      exact Option.isSome_iff_ne_none.2 this
    · rw [hfind c hc, h.links c, or_iff_left hc, or_iff_left (show c ∉ ([] : List Nat) from List.not_mem_nil)]
  · rw [hlinks]
    exact Table.sorted_linkEach _ h.linkOrder

/-- Cells under way that become no frame's join the free list (R8). -/
theorem freeCells (h : CellsKept s fly linked) : CellsKept (s.freeCells fly) [] [] := by
  have hlinks : ∀ c, (s.freeCells fly).cells.links.find c = if c ∈ fly then none else s.cells.links.find c := fun c =>
    Table.find_without _ _ _
  have hkeep : ∀ e ∈ s.cells.frames,
      (s.freeCells fly).frameCells e.1 = s.frameCells e.1 ∧ (s.freeCells fly).chainOf e.1 e.2.cellCount := fun e he =>
    State.frameCells_keep (h.frames e he) (h.frameNodup he) fun x hx => by
      rw [hlinks, if_neg fun hc => h.notHeld hc (mem_held he hx)]
  have hheld : (s.freeCells fly).cellsHeld = s.cellsHeld := List.flatMap_congr fun e he => (hkeep e he).1
  refine ⟨?_, fun e he => (hkeep e he).2, fun c => ?_, nofun, h.frameOrder, Table.sorted_foldl_erase _ _ h.linkOrder, h.passive⟩
  · rw [hheld, show Runs.toList (s.freeCells fly).cells.freeList = Runs.toList s.cells.freeList ++ fly from
      Runs.toList_pushAll _ _, show (s.freeCells fly).cellsIssued = s.cellsIssued from rfl]
    refine .trans (List.perm_iff_count.2 fun a => ?_) h.place
    simp only [List.count_append, List.count_nil]
    omega
  · rw [hlinks, hheld, or_iff_left (show c ∉ ([] : List Nat) from List.not_mem_nil)]
    split
    · rename_i hc
      exact iff_of_false (by simp) (h.notHeld hc)
    · rename_i hc
      rw [h.links c, or_iff_left fun hl => hc (h.sub hl)]

/-- START's restarts find no cell issued and no frame, and put every cell on the free list (R168). -/
theorem startBlocks (h : CellsKept s [] []) (hp : s.isActive = false) : CellsKept s.startBlocks [] [] := by
  have hm : s.path.mode = .passive := by
    cases hmode : s.path.mode with
    | passive => rfl
    | active => simp [State.isActive, hmode] at hp
  obtain ⟨hf, hi⟩ := h.passive hm
  have heq := s.startBlocks_eq
  have hcells : s.startCells.cells.frames = s.cells.frames ∧ s.startCells.cells.links = s.cells.links ∧
      s.startCells.cells.freeList = [(0, Config.cells)] := by
    rw [s.startCells_cells]
    exact ⟨rfl, rfl, rfl⟩
  have hframes : s.startBlocks.cells.frames = [] := by rw [heq]; exact hcells.1.trans hf
  have hlinks : s.startBlocks.cells.links = s.cells.links := by rw [heq]; exact hcells.2.1
  have hfree : s.startBlocks.cells.freeList = [(0, Config.cells)] := by rw [heq]; exact hcells.2.2
  have hissued : s.startBlocks.cellsIssued = [] := by
    rw [← hi]
    unfold State.cellsIssued
    simp only [State.startBlocks_cellPort]
  have hheld : s.cellsHeld = [] := by unfold State.cellsHeld; rw [hf]; rfl
  have hheld' : s.startBlocks.cellsHeld = [] := by unfold State.cellsHeld; rw [hframes]; rfl
  refine ⟨?_, fun e he => ?_, fun c => ?_, nofun, by rw [hframes]; rfl, hlinks ▸ h.linkOrder, fun _ => ⟨hframes, hissued⟩⟩
  · rw [hfree, hissued, hheld']
    exact .of_eq ((List.append_nil _).trans (Runs.toList_initial _))
  · rw [hframes] at he
    cases he
  · have hc := h.links c
    rw [hheld] at hc
    rw [hlinks, hheld']
    exact hc

end CellsKept

end Sys2Proof.Machine
end

section
/-! The cell law over an action: every chain of effects without a taking, and the taking itself (R1, R7 to R9, R25, R33). -/
namespace Sys2Proof.Machine

/-- The elementary effects but those of a taking keep the cell law, START's where no cell is under way. -/
theorem Act.cellsKept {ok : Special → Prop} {s t : State} (h : Act ok s t) (hk : ¬ok .taking) {fly linked : List Nat}
    (hf : ok .start → fly = [] ∧ linked = []) (hs : CellsKept s fly linked) : CellsKept t fly linked := by
  cases h
  case issueCells p n ha => exact hs.issueCells p n ha
  case resetCells p => exact hs.resetCells p
  case freeFrame n f hfr => exact hs.freeFrame hfr
  case setFrame n f v hfr hc => exact hs.setFrame hfr hc
  case claim p n hn => exact absurd hn hk
  case link c v hn => exact absurd hn hk
  case newFrame n v hn => exact absurd hn hk
  case freeCells l hn => exact absurd hn hk
  case startBlocks hst hp =>
    obtain ⟨rfl, rfl⟩ := hf hst
    exact hs.startBlocks hp
  case installCopy => rw [State.installCopy_eq]; exact hs.congr rfl rfl rfl rfl rfl
  case ask k a b c =>
    exact hs.congr (by rw [State.ask_cells]) (by rw [State.ask_cells]) (by rw [State.ask_cells]) (by rw [State.ask_cells])
      (by rw [State.ask_path])
  all_goals exact hs.congr rfl rfl rfl rfl rfl

/-- A chain of effects without a taking. -/
theorem Run.cellsKept {ok : Special → Prop} {s t : State} (h : Run ok s t) (hk : ¬ok .taking) (hs : CellsKept s [] []) :
    CellsKept t [] [] :=
  h.keeps (P := fun u => CellsKept u [] []) (fun _ _ ha hu => ha.cellsKept hk (fun _ => ⟨rfl, rfl⟩) hu) hs

/-- The special effects but a taking. -/
def Special.other (x : Special) : Prop := x ≠ .taking

/-! ## The taking -/

/-- The cells claimed for a frame, of which there is one at least, wait with their link words written, or the frame stands. -/
def FrameUnderWay (cells : List Nat) (u : State) : Prop :=
  u.path.mode = .active ∧
    ((CellsKept u cells cells ∧ Chained u.cells.links cells) ∨ (CellsKept u [] [] ∧ (u.frame (cells.headD 0)).isSome = true))

namespace FrameUnderWay

variable {cells : List Nat} {u v : State}

/-- What leaves the cell manager and the mode alone. -/
theorem outside (h : FrameUnderWay cells u) (hc : v.cells = u.cells) (hp : v.path = u.path) : FrameUnderWay cells v := by
  obtain ⟨hm, h⟩ := h
  refine ⟨by rw [hp]; exact hm, ?_⟩
  have hcongr : ∀ {a b : List Nat}, CellsKept u a b → CellsKept v a b := fun k =>
    k.congr (by rw [hc]) (by rw [hc]) (by rw [hc]) (by rw [hc]) (by rw [hp])
  unfold State.frame at *
  rw [hc]
  exact h.imp (fun ⟨h1, h2⟩ => ⟨hcongr h1, h2⟩) fun ⟨h1, h2⟩ => ⟨hcongr h1, h2⟩

/-- What changes a frame record that stands keeps the law and the frame. -/
theorem setFrame (h : FrameUnderWay cells u) {n : Nat} {f w : Frame} (hf : u.frame n = some f) (hc : w.cellCount = f.cellCount) :
    FrameUnderWay cells (u.setFrame n w) := by
  obtain ⟨hm, h⟩ := h
  refine ⟨hm, h.imp (fun ⟨h1, h2⟩ => ⟨h1.setFrame hf hc, h2⟩) fun ⟨h1, h2⟩ => ⟨h1.setFrame hf hc, ?_⟩⟩
  rw [State.setFrame_frame]
  split
  exacts [rfl, h2]

theorem raiseCopies (h : FrameUnderWay cells u) (n : Nat) : FrameUnderWay cells (u.raiseCopies n) := by
  unfold State.raiseCopies
  split
  · exact h
  · rename_i f hf; exact h.setFrame hf rfl

theorem joinPort (h : FrameUnderWay cells u) (n : Nat) (p : Port) : FrameUnderWay cells (u.joinPort n p) := by
  unfold State.joinPort
  split
  · exact h
  · rename_i f hf; exact h.setFrame hf rfl

/-- The frame is entered where it does not stand. -/
theorem enterFrame (h : FrameUnderWay cells u) {f : Forming} (hcells : f.cells = cells) (hcount : f.cellCount = cells.length)
    (hnone : u.frame f.first = none) : FrameUnderWay cells (u.enterFrame f) := by
  obtain ⟨hm, h⟩ := h
  have hfirst : f.first = cells.headD 0 := by rw [← hcells]; rfl
  have hnew : FrameUnderWay cells (u.setFrame f.first f.fresh) := by
    rcases h with ⟨hk, hch⟩ | ⟨-, hf⟩
    · cases cells with
      | nil => exact hch.elim
      | cons c rest =>
        rw [hfirst]
        refine ⟨hm, .inr ⟨hk.newFrame hch hcount hm, ?_⟩⟩
        rw [State.setFrame_frame]
        exact congrArg Option.isSome (if_pos rfl)
    · rw [← hfirst, hnone] at hf
      cases hf
  have heq := u.enterFrame_eq f
  exact hnew.outside (by rw [heq]; rfl) (by rw [heq]; rfl)

theorem createCopy (h : FrameUnderWay cells u) {f : Forming} (hcells : f.cells = cells) (hcount : f.cellCount = cells.length)
    (pl : Place) (via : Option GroupId) (m : Bool) : FrameUnderWay cells (u.createCopy f pl via m) := by
  unfold State.createCopy
  dsimp only
  split
  · generalize (Runs.toList (Runs.take 1 u.cells.freeCopies)).headD 0 = tag
    obtain ⟨v, hv⟩ : ∃ v, v = ({ u with cells := { u.cells with freeCopies := Runs.drop 1 u.cells.freeCopies } } : State).setCopy tag
        (({ u with cells := { u.cells with freeCopies := Runs.drop 1 u.cells.freeCopies } } : State).newCopy f pl via m) := ⟨_, rfl⟩
    have hk : FrameUnderWay cells v := by
      obtain ⟨hm, h⟩ := h
      have hcongr : ∀ {a b : List Nat}, CellsKept u a b → CellsKept v a b := fun k => by
        rw [hv]
        exact k.congr rfl rfl rfl rfl rfl
      exact ⟨hv ▸ hm, h.imp (fun ⟨h1, h2⟩ => ⟨hcongr h1, hv ▸ h2⟩) fun ⟨h1, h2⟩ => ⟨hcongr h1, hv ▸ h2⟩⟩
    rw [← hv]
    have hfr : FrameUnderWay cells (if (v.frame f.first).isNone = true then v.enterFrame f else v) := by
      split
      · exact hk.enterFrame hcells hcount (Option.isNone_iff_eq_none.1 ‹_›)
      · exact hk
    generalize (if (v.frame f.first).isNone = true then v.enterFrame f else v) = w at hfr
    have hr := hfr.raiseCopies f.first
    cases pl with
    | queue p =>
      exact ((hr.outside (v := (w.raiseCopies f.first).setQueue p f.cls ((w.raiseCopies f.first).queue p f.cls ++ [tag])) rfl
        rfl).joinPort f.first p).outside rfl rfl
    | hold g => exact hr.outside rfl rfl
  · exact h.outside rfl rfl

/-- Replication leaves the law with the cells under way, or with the frame (R14, R33). -/
theorem replicate (h : FrameUnderWay cells u) {f : Forming} (hcells : f.cells = cells) (hcount : f.cellCount = cells.length)
    (t : Target) : FrameUnderWay cells (u.replicate f t) := by
  refine State.replicate_induct (P := FrameUnderWay cells) (fun u p via hu => ?_) (fun u g hu => ?_) (fun u a b hu => ?_)
    (fun u hu => hu.outside rfl rfl) t h
  · unfold State.offerCopy
    split
    exacts [hu.createCopy hcells hcount _ _ _, hu.outside rfl rfl]
  · unfold State.offerHeld
    split
    exacts [hu.createCopy hcells hcount _ _ _, hu.outside rfl rfl]
  · exact hu.outside (State.ask_cells ..) (State.ask_path ..)

theorem admitFrame (h : FrameUnderWay cells u) {f : Forming} (hcells : f.cells = cells) (hcount : f.cellCount = cells.length)
    (t : Target) : FrameUnderWay cells (u.admitFrame f t) := by
  have hr : FrameUnderWay cells (u.refillMeter f.tenant) := h.outside rfl rfl
  unfold State.admitFrame
  dsimp only
  generalize u.refillMeter f.tenant = v at hr
  split
  · exact hr.outside rfl rfl
  · exact hr.replicate (by exact hcells) (by exact hcount) t

theorem forwardFrame {s : State} {f : Forming} (h : CellsKept s f.cells []) (hm : s.path.mode = .active)
    (hcount : f.cellCount = f.cells.length) (hne : f.cells ≠ []) : FrameUnderWay f.cells (s.forwardFrame f) := by
  have hk := h.writeLinks
  have hch : Chained (State.writeLinks f.cells s).cells.links f.cells := by
    rw [State.writeLinks_links]
    cases hc : f.cells with
    | nil => exact absurd hc hne
    | cons c rest => exact Chained.linkEach (hc ▸ h.flyNodup) _
  have hm' : (State.writeLinks f.cells s).path.mode = .active :=
    (congrArg (fun u : State => u.path.mode)
      (State.carrying_writeLinks (s := s) (c := s.cells) (i := s.intake) (ws := s.bus.writes) f.cells)).trans hm
  have hw : FrameUnderWay f.cells (State.writeLinks f.cells s) := ⟨hm', .inl ⟨hk, hch⟩⟩
  have hout := (State.writeLinks f.cells s).learn_outside f
  have hl := hw.outside hout.cells hout.path
  unfold State.forwardFrame
  dsimp only
  split
  · exact hl.outside rfl rfl
  · exact hl.admitFrame rfl hcount _

end FrameUnderWay

theorem Descriptor.sizeValid_cells {d : Descriptor} (h : d.sizeValid = true) : 1 ≤ d.cellCount := by
  unfold Descriptor.sizeValid at h
  obtain ⟨h1, -, h3⟩ := of_decide_eq_true h
  rw [h3]
  unfold cellsFor
  omega

/-- Every stage of a taking leaves the claimed cells under way, or in a frame that stands. -/
theorem State.takeStages_cells {s : State} {p : Port} {d : Descriptor} {cells : List Nat} (h : CellsKept s cells [])
    (hm : s.path.mode = .active) (hcount : d.cellCount = cells.length) :
    CellsKept (s.takeStages p d cells) cells [] ∨ FrameUnderWay cells (s.takeStages p d cells) := by
  unfold State.takeStages
  split
  · exact .inl (h.congr rfl rfl rfl rfl rfl)
  · rename_i hv
    dsimp only
    split
    · exact .inl (h.congr rfl rfl rfl rfl rfl)
    · refine .inr (FrameUnderWay.forwardFrame h hm hcount fun e => ?_)
      have hsz : d.sizeValid = true := by
        by_contra hn
        exact hv (by simp [hn])
      have := Descriptor.sizeValid_cells hsz
      rw [hcount, show cells = [] from e] at this
      simp at this

/-- The close of a taking returns the cells of a frame that does not stand (R33). -/
theorem State.closeTaking_cells {s : State} {cells : List Nat} (h : CellsKept s cells [] ∨ FrameUnderWay cells s) :
    CellsKept (s.closeTaking cells) [] [] := by
  have hend : ∀ {u v : State}, Run (fun _ => False) u v → CellsKept u [] [] → CellsKept v [] [] := fun hr hu =>
    hr.cellsKept id hu
  cases cells with
  | nil =>
    rcases h with h | ⟨-, ⟨-, hch⟩ | ⟨h, -⟩⟩
    exacts [h, hch.elim, h]
  | cons c rest =>
    show CellsKept (if (s.frame c).isSome = true then s.refill else ((s.freeCells (c :: rest)).report).refill) [] []
    have hfree : ∀ {linked : List Nat}, CellsKept s (c :: rest) linked →
        CellsKept (if (s.frame c).isSome = true then s.refill else ((s.freeCells (c :: rest)).report).refill) [] [] := fun hk => by
      rw [hk.noFrame List.mem_cons_self, if_neg (by simp)]
      exact hend (Run.refl _).report.refill hk.freeCells
    rcases h with h | ⟨-, ⟨h, -⟩ | ⟨h, hf⟩⟩
    · exact hfree h
    · exact hfree h
    · rw [if_pos (show (s.frame c).isSome = true from hf)]
      exact hend (Run.refl _).refill h

theorem State.takeDescriptor_cells {s : State} (h : CellsKept s [] []) (ha : s.isActive = true) (p : Port) :
    CellsKept (s.takeDescriptor p) [] [] := by
  have h1 : CellsKept (s.setIntakePort p (s.intakePort p).advance) [] [] := h.congr rfl rfl rfl rfl rfl
  have hm : (s.setIntakePort p (s.intakePort p).advance).path.mode = .active := of_decide_eq_true ha
  unfold State.takeDescriptor
  dsimp only
  generalize s.setIntakePort p (s.intakePort p).advance = u at *
  generalize Descriptor.read (s.intakePort p).staging = d
  split
  · exact ((Run.refl (ok := fun _ => False) u).ask _ _ _ _).cellsKept id h1
  · refine State.closeTaking_cells (State.takeStages_cells (h1.claim p d.cellCount) hm ?_)
    have hle : d.cellCount ≤ u.issuedCount p := Nat.le_of_not_lt ‹_›
    unfold State.claimed
    rw [Runs.toList_take, List.length_take, Runs.size_toList]
    exact (Nat.min_eq_left hle).symm

theorem State.ingressWrite_cells {s : State} (h : CellsKept s [] []) (p : Port) (n : Nat) (g : Lanes) :
    CellsKept (s.ingressWrite p n g) [] [] := by
  have hend : ∀ {v : State}, Run (fun _ => False) s v → CellsKept v [] [] := fun hr => hr.cellsKept id h
  have hstage := (Run.refl (ok := fun _ => False) s).stageIngress p g
  unfold State.ingressWrite
  split
  · exact h
  · rename_i ha
    split
    · split
      · split
        · exact State.takeDescriptor_cells (hend hstage) (show s.isActive = true by simpa using ha) p
        · exact hend (hstage.ask _ _ _ _)
      · exact hend hstage
    · split
      exacts [hend ((Run.refl s).ask _ _ _ _), h]

/-! ## Every command -/

theorem finish_cellsKept {s : State} (h : CellsKept s [] []) : CellsKept s.finish [] [] := h.congr rfl rfl rfl rfl rfl

theorem exec_taking_cells {s t : State} {p : Port} {n : RingSlot} {g : Lanes} (h : exec (.takingOfDescriptor p n g) s = .next t)
    (hs : CellsKept s [] []) : CellsKept t [] [] := by
  have hfwd : CellsKept (s.forward (s.windowAddr (ingressOffset p n)) g) [] [] := hs.congr rfl rfl rfl rfl rfl
  by_cases ht : s.takes p n g = true
  · have he : exec (.takingOfDescriptor p n g) s =
        .next (((s.forward (s.windowAddr (ingressOffset p n)) g).stageIngress p g).takeDescriptor p).finish := if_pos ht
    have ha : s.isActive = true := by
      unfold State.takes at ht
      simp only [Bool.and_eq_true] at ht
      exact ht.1.1.1
    rw [Host.Outcome.next.inj (h.symm.trans he)]
    have hstage : CellsKept ((s.forward (s.windowAddr (ingressOffset p n)) g).stageIngress p g) [] [] :=
      hfwd.congr rfl rfl rfl rfl rfl
    exact finish_cellsKept (State.takeDescriptor_cells hstage ha p)
  · have he : exec (.takingOfDescriptor p n g) s =
        .next ((s.forward (s.windowAddr (ingressOffset p n)) g).ingressWrite p n g).finish := if_neg ht
    rw [Host.Outcome.next.inj (h.symm.trans he)]
    exact finish_cellsKept (State.ingressWrite_cells hfwd p n g)

/-- A write of any address acts as the write it is (log entry 6): in an ingress ring it may take a descriptor. -/
theorem presentWrite_cells {s : State} (hs : CellsKept s [] []) (a : Nat) (g : Lanes) : CellsKept (s.presentWrite a g) [] [] := by
  have hfwd : CellsKept (s.forward a g) [] [] := hs.congr rfl rfl rfl rfl rfl
  refine State.presentWrite_elim (P := fun u => CellsKept u [] []) (fun _ => hfwd) fun off _ => ?_
  generalize areaOf off = area
  generalize s.forward a g = u at *
  have hend : ∀ {v : State}, Run Special.other u v → CellsKept v [] [] := fun hr => hr.cellsKept (fun hk => hk rfl) hfwd
  have h0 := Run.refl (ok := Special.other) u
  cases area with
  | ingress p n => exact State.ingressWrite_cells hfwd p n g
  | egress p n => exact hend (h0.egressWrite (by simp [Special.other]) p n g)
  | status p => exact hend (h0.statusWrite p g)
  | tables i => exact hend (h0.tableWrite (by simp [Special.other]) i g)
  | commandSlot k => exact hend (h0.slotWrite (by simp [Special.other]) (by simp [Special.other]) k g)
  | consumer => exact hend (h0.consumerWrite (by simp [Special.other]) g)
  | other => exact hfwd

theorem exec_cellsKept {c : Instr} {s t : State} (h : exec c s = .next t) (hs : CellsKept s [] []) : CellsKept t [] [] := by
  have hrun : (∀ straps, c ≠ .powerOnReset straps) → c ≠ .timebaseAdvance → ¬special c .taking → CellsKept t [] [] := by
    intro hp ht hk
    rcases exec_next h hp ht with rfl | ⟨u, hu, rfl⟩
    exacts [hs, finish_cellsKept (hu.cellsKept hk hs)]
  cases c with
  | powerOnReset straps =>
    rw [← Host.Outcome.next.inj (show Host.Outcome.next (s.powerOn straps).finish = _ from h)]
    exact finish_cellsKept (((State.cellLaw_iff _).1 State.reset_cellLaw).congr rfl rfl rfl rfl rfl)
  | timebaseAdvance =>
    rw [← Host.Outcome.next.inj (show Host.Outcome.next s.tick = _ from h)]
    exact hs.congr rfl rfl rfl rfl rfl
  | ingressSlotWrite p n g =>
    have he : exec (.ingressSlotWrite p n g) s =
        .next ((s.forward (s.windowAddr (ingressOffset p n)) g).ingressWrite p n g).finish := rfl
    rw [Host.Outcome.next.inj (h.symm.trans he)]
    have hfwd : CellsKept (s.forward (s.windowAddr (ingressOffset p n)) g) [] [] := hs.congr rfl rfl rfl rfl rfl
    exact finish_cellsKept (State.ingressWrite_cells hfwd p n g)
  | takingOfDescriptor p n g => exact exec_taking_cells h hs
  | windowWriteNoEffect a g =>
    have he : exec (.windowWriteNoEffect a g) s = .next (s.presentWrite a g).finish := rfl
    rw [Host.Outcome.next.inj (h.symm.trans he)]
    exact finish_cellsKept (presentWrite_cells hs a g)
  | _ => exact hrun nofun nofun (by simp [special])

theorem State.cellLaw_step {s t : State} (h : step s = .next t) (hs : s.cellLaw) : t.cellLaw := by
  rw [State.cellLaw_iff] at hs ⊢
  unfold Machine.step at h
  split at h
  · cases h; exact hs
  · exact exec_cellsKept h (hs.congr rfl rfl rfl rfl rfl)

/-! ## The statement -/

/-- The cells of the law counted (R1). -/
theorem State.cellLaw_count {s : State} (h : s.cellLaw) :
    s.freeCount + (allPorts.map s.issuedCount).sum + (s.cells.frames.map fun e => e.2.cellCount).sum = 65536 := by
  obtain ⟨hplace, hframes, -⟩ := h
  have hlen := hplace.length_eq
  rw [List.length_append, List.length_append, List.length_range] at hlen
  have hissued : s.cellsIssued.length = (allPorts.map s.issuedCount).sum := by
    unfold State.cellsIssued
    rw [List.length_flatMap]
    exact congrArg List.sum (List.map_congr_left fun p _ => Runs.size_toList _)
  have hheld : s.cellsHeld.length = (s.cells.frames.map fun e => e.2.cellCount).sum := by
    unfold State.cellsHeld
    rw [List.length_flatMap]
    exact congrArg List.sum (List.map_congr_left fun e he => (hframes e he).2.1)
  rw [hissued, hheld, show (Runs.toList s.cells.freeList).length = s.freeCount from Runs.size_toList _] at hlen
  omega

/-- Settles O59: the cell law over every command, its count, and the refill run by itself. -/
theorem refillRunConservesCells : Obligations.RefillRunConservesCells :=
  ⟨fun _ _ => State.cellLaw_step, fun _ => State.cellLaw_count, State.refillRun_conserves⟩

end Sys2Proof.Machine
end

section
/-! The copy law and the target-port law with copies on their way between places (R10 to R12, R94, R99, R142), and what
leaves them alone. -/
namespace Sys2Proof.Machine

/-! ## Effects that neither law reads -/

/-- What the copy law and the target-port law read is the same. -/
structure SameCopies (s t : State) : Prop where
  frames : t.cells.frames = s.cells.frames
  copies : t.cells.copies = s.cells.copies
  freeCopies : t.cells.freeCopies = s.cells.freeCopies
  queues : t.queues.queues = s.queues.queues
  slots : ∀ p, (t.egressPort p).slots = (s.egressPort p).slots
  hold : t.failover.hold = s.failover.hold
  mode : t.path.mode = s.path.mode

namespace SameCopies

variable {r s t : State}

theorem refl (s : State) : SameCopies s s := ⟨rfl, rfl, rfl, rfl, fun _ => rfl, rfl, rfl⟩

theorem trans (h : SameCopies r s) (k : SameCopies s t) : SameCopies r t :=
  ⟨k.frames.trans h.frames, k.copies.trans h.copies, k.freeCopies.trans h.freeCopies, k.queues.trans h.queues,
    fun p => (k.slots p).trans (h.slots p), k.hold.trans h.hold, k.mode.trans h.mode⟩

theorem copy (h : SameCopies s t) (j : Nat) : t.copy j = s.copy j := by unfold State.copy; rw [h.copies]
theorem frame (h : SameCopies s t) (j : Nat) : t.frame j = s.frame j := by unfold State.frame; rw [h.frames]
theorem queue (h : SameCopies s t) (p : Port) (c : Cls) : t.queue p c = s.queue p c := by unfold State.queue; rw [h.queues]
theorem heldCopies (h : SameCopies s t) (g : GroupId) : t.heldCopies g = s.heldCopies g := by unfold State.heldCopies; rw [h.hold]

end SameCopies

/-- Of the elementary effects those of a taking, of START and on the records alone touch what the laws read. -/
theorem Act.sameCopies {ok : Special → Prop} {s t : State} (h : Act ok s t) (hk : ¬ok .taking) (hst : ¬ok .start)
    (hrec : ¬ok .records) : SameCopies s t := by
  have hsame : SameCopies s s := .refl s
  cases h
  case freeFrame hr n f _ => exact absurd hr hrec
  case setFrame hr n f v _ _ => exact absurd hr hrec
  case setCopy hr n v => exact absurd hr hrec
  case releaseRecord hr n => exact absurd hr hrec
  case takeRecord hr => exact absurd hr hrec
  case setQueue hr p c q => exact absurd hr hrec
  case addHeld hr g n _ => exact absurd hr hrec
  case clearHeld hr g => exact absurd hr hrec
  case newFrame n v hn => exact absurd hn hk
  case startBlocks hs _ => exact absurd hs hst
  case setEgressPort p v _ hv =>
    refine { hsame with slots := fun q => ?_ }
    rw [State.setEgressPort_egressPort]
    split
    · subst_vars; exact hv.resolve_left hrec
    · rfl
  case installCopy => rw [State.installCopy_eq]; exact { hsame with }
  case ask k a b c =>
    have hc := State.ask_cells s k a b c
    have hq := State.ask_queues s k a b c
    exact ⟨by rw [hc], by rw [hc], by rw [hc], by rw [hq], fun p => by rw [egressPort_congr (s := s) (by rw [hq])],
      by rw [State.ask_failover], by rw [State.ask_path]⟩
  all_goals exact { hsame with }

/-- No command's own effect. -/
def Special.none (_ : Special) : Prop := False

/-- A chain of effects of no command of its own leaves what the laws read. -/
theorem Run.sameCopies {s t : State} (h : Run Special.none s t) : SameCopies s t :=
  h.keeps (P := SameCopies s) (fun _ _ ha hs => hs.trans (ha.sameCopies id id id)) (.refl s)

/-! ## The laws with copies on their way -/

/-- The frame's copy count and target-port set are those of these copies (R10, R11, R14). -/
structure Frame.Fits (f : Frame) (l : List Copy) : Prop where
  count : f.copyCount = l.length
  pos : 1 ≤ f.copyCount
  bound : f.copyCount ≤ 48
  order : f.ports.Pairwise (· < ·)
  ports : f.ports.Perm (l.filterMap (·.port))

theorem Frame.Fits.perm {f : Frame} {l m : List Copy} (h : f.Fits l) (hp : l.Perm m) : f.Fits m :=
  ⟨h.count.trans hp.length_eq, h.pos, h.bound, h.order, h.ports.trans (hp.filterMap _)⟩

/-- The copy law and the target-port law while the copies `loose`, their records standing, have no place. -/
structure CopiesKept (s : State) (loose : List Nat) : Prop where
  records : (Runs.toList s.cells.freeCopies ++ s.cells.copies.map (·.1)).Perm (List.range 131072)
  placed : (s.placedTags ++ loose).Perm (s.cells.copies.map (·.1))
  queued : ∀ (p : Port) (c : Cls), ∀ tag ∈ s.queue p c,
    ∃ k, s.copy tag = some k ∧ k.state = .queued ∧ k.port = some p ∧ k.cls = c
  posted : ∀ p : Port, ∀ x ∈ (s.egressPort p).slots, ∃ k, s.copy x.2.tag = some k ∧ k.state = .posted ∧ k.port = some p
  held : ∀ g : GroupId, ∀ tag ∈ s.heldCopies g,
    ∃ k, s.copy tag = some k ∧ k.state = .held ∧ k.port = none ∧ k.via = some g
  copyOrder : Table.sorted s.cells.copies = true
  slotOrder : ∀ p : Port, Table.sorted (s.egressPort p).slots = true
  passive : s.path.mode = .passive → s.cells.copies = []
  frameOrder : Table.sorted s.cells.frames = true
  named : ∀ tag k, s.copy tag = some k → (s.frame k.frame).isSome = true
  frames : ∀ n f, s.frame n = some f → f.Fits (s.copiesOf n)

/-- The two laws are those with no copy on its way. -/
theorem State.copiesKept_iff (s : State) : s.copyLaw ∧ s.portLaw ↔ CopiesKept s [] := by
  constructor
  · rintro ⟨⟨h1, h2, h3, h4, h5, h6, h7, h8⟩, h9, h10, h11⟩
    refine ⟨h1, by rwa [List.append_nil], h3, h4, h5, h6, h7, h8, h9, fun tag k hk => h10 _ (Table.find_mem hk), fun n f hf => ?_⟩
    obtain ⟨a, b, c, d, e⟩ := h11 _ (Table.find_mem hf)
    exact ⟨a, b, c, d, e⟩
  · rintro ⟨h1, h2, h3, h4, h5, h6, h7, h8, h9, h10, h11⟩
    refine ⟨⟨h1, by rwa [List.append_nil] at h2, h3, h4, h5, h6, h7, h8⟩, h9, fun e he => ?_, fun e he => ?_⟩
    · exact h10 e.1 e.2 ((Table.mem_iff_find _ h6 _ _).1 he)
    · obtain ⟨a, b, c, d, e⟩ := h11 e.1 e.2 ((Table.mem_iff_find _ h9 _ _).1 he)
      exact ⟨a, b, c, d, e⟩

/-! ## Tags in their places -/

/-- The tags in a port's four queues. -/
def State.queuedTags (s : State) (p : Port) : List Nat := allClasses.flatMap (s.queue p)

/-- The tags in a port's egress ring. -/
def State.postedTags (s : State) (p : Port) : List Nat := (s.egressPort p).slots.map fun x => x.2.tag

theorem State.placedTags_eq (s : State) :
    s.placedTags = allPorts.flatMap s.queuedTags ++ (allPorts.flatMap s.postedTags ++ s.heldTags) := rfl

theorem State.placedTags_congr {s t : State} (hq : ∀ p c, t.queue p c = s.queue p c)
    (he : ∀ p, (t.egressPort p).slots = (s.egressPort p).slots) (hh : ∀ g, t.heldCopies g = s.heldCopies g) :
    t.placedTags = s.placedTags := by
  have h1 : t.queue = s.queue := funext fun p => funext fun c => hq p c
  have h3 : t.heldCopies = s.heldCopies := funext hh
  unfold State.placedTags State.heldTags
  rw [h1, h3]
  simp only [he]

/-- The tags in all places once one class queue is another. -/
theorem State.placedTags_setQueue (s : State) (p : Port) (c : Cls) (q : List Nat) :
    ((s.setQueue p c q).placedTags ++ s.queue p c).Perm (s.placedTags ++ q) := by
  have hport : ((s.setQueue p c q).queuedTags p ++ s.queue p c).Perm (s.queuedTags p ++ q) := by
    have h := flatMap_update (f := s.queue p) (g := (s.setQueue p c q).queue p) nodup_allClasses (mem_allClasses c)
      fun d hd => by rw [State.setQueue_queue, if_neg fun e => hd e.2]
    rwa [State.setQueue_queue, if_pos ⟨rfl, rfl⟩] at h
  have hall := flatMap_update (f := s.queuedTags) (g := (s.setQueue p c q).queuedTags) nodup_allPorts (mem_allPorts p)
    fun r hr => by
      unfold State.queuedTags
      exact List.flatMap_congr fun d _ => by rw [State.setQueue_queue, if_neg fun e => hr e.1]
  rw [State.placedTags_eq, State.placedTags_eq, show (s.setQueue p c q).heldTags = s.heldTags from rfl,
    show (s.setQueue p c q).postedTags = s.postedTags from rfl]
  refine List.perm_iff_count.2 fun a => ?_
  have h1 := List.perm_iff_count.1 hport a
  have h2 := List.perm_iff_count.1 hall a
  simp only [List.count_append] at h1 h2 ⊢
  omega

/-- The tags in all places once one egress ring is another. -/
theorem State.placedTags_setEgressPort (s : State) (p : Port) (v : EgressPort) :
    ((s.setEgressPort p v).placedTags ++ s.postedTags p).Perm (s.placedTags ++ v.slots.map fun x => x.2.tag) := by
  have hall := flatMap_update (f := s.postedTags) (g := (s.setEgressPort p v).postedTags) nodup_allPorts (mem_allPorts p)
    fun r hr => by unfold State.postedTags; rw [State.setEgressPort_egressPort, if_neg hr]
  have hp : (s.setEgressPort p v).postedTags p = v.slots.map fun x => x.2.tag := by
    unfold State.postedTags
    rw [State.setEgressPort_egressPort, if_pos rfl]
  rw [hp] at hall
  rw [State.placedTags_eq, State.placedTags_eq, show (s.setEgressPort p v).heldTags = s.heldTags from rfl,
    show (s.setEgressPort p v).queuedTags = s.queuedTags from rfl]
  refine List.perm_iff_count.2 fun a => ?_
  have h2 := List.perm_iff_count.1 hall a
  simp only [List.count_append] at h2 ⊢
  omega

/-- The tags in all places once one group's held copies are others. -/
theorem State.placedTags_setHeldCopies (s : State) (g : GroupId) (q : List Nat) :
    ((s.setHeldCopies g q).placedTags ++ s.heldCopies g).Perm (s.placedTags ++ q) := by
  have hall := flatMap_update (f := s.heldCopies) (g := (s.setHeldCopies g q).heldCopies) nodup_allGroups (mem_allGroups g)
    fun r hr => by rw [State.setHeldCopies_heldCopies, if_neg hr]
  rw [State.setHeldCopies_heldCopies, if_pos rfl] at hall
  rw [State.placedTags_eq, State.placedTags_eq, show (s.setHeldCopies g q).queuedTags = s.queuedTags from rfl,
    show (s.setHeldCopies g q).postedTags = s.postedTags from rfl]
  unfold State.heldTags
  refine List.perm_iff_count.2 fun a => ?_
  have h2 := List.perm_iff_count.1 hall a
  simp only [List.count_append] at h2 ⊢
  omega

namespace CopiesKept

variable {s t : State} {loose : List Nat}

theorem same (h : CopiesKept s loose) (hs : SameCopies s t) : CopiesKept t loose := by
  obtain ⟨h1, h2, h3, h4, h5, h6, h7, h8, h9, h10, h11⟩ := h
  have hplaced : t.placedTags = s.placedTags := State.placedTags_congr hs.queue hs.slots hs.heldCopies
  refine ⟨by rw [hs.freeCopies, hs.copies]; exact h1, by rw [hplaced, hs.copies]; exact h2, fun p c tag ht => ?_,
    fun p x hx => ?_, fun g tag ht => ?_, hs.copies ▸ h6, fun p => by rw [hs.slots]; exact h7 p,
    by rw [hs.mode, hs.copies]; exact h8, hs.frames ▸ h9, fun tag k hk => ?_, fun n f hf => ?_⟩
  · rw [hs.copy]; exact h3 p c tag (hs.queue p c ▸ ht)
  · rw [hs.copy]; exact h4 p x (hs.slots p ▸ hx)
  · rw [hs.copy]; exact h5 g tag (hs.heldCopies g ▸ ht)
  · rw [hs.frame]; exact h10 tag k (hs.copy tag ▸ hk)
  · unfold State.copiesOf
    rw [hs.copies]
    exact h11 n f (hs.frame n ▸ hf)

/-- Loose copies in another order. -/
theorem perm (h : CopiesKept s loose) {other : List Nat} (hp : loose.Perm other) : CopiesKept s other :=
  { h with placed := (hp.symm.append_left _).trans h.placed }

theorem nodup (h : CopiesKept s loose) : (s.placedTags ++ loose).Nodup :=
  h.placed.nodup_iff.2 (Table.nodup_keys h.copyOrder)

/-- A loose copy's record stands. -/
theorem loose_copy (h : CopiesKept s loose) {tag : Nat} (ht : tag ∈ loose) : ∃ k, s.copy tag = some k := by
  obtain ⟨e, he, rfl⟩ := List.mem_map.1 (h.placed.subset (List.mem_append_right _ ht))
  exact ⟨e.2, (Table.mem_iff_find _ h.copyOrder _ _).1 he⟩

/-- A loose copy stands in no queue. -/
theorem loose_not_placed (h : CopiesKept s loose) {tag : Nat} (ht : tag ∈ loose) : tag ∉ s.placedTags := fun hp =>
  (List.nodup_append.1 h.nodup).2.2 tag hp tag ht rfl

theorem mem_placed_queue {p : Port} {c : Cls} {tag : Nat} (ht : tag ∈ s.queue p c) : tag ∈ s.placedTags :=
  List.mem_append_left _ (List.mem_flatMap.2 ⟨p, mem_allPorts p, List.mem_flatMap.2 ⟨c, mem_allClasses c, ht⟩⟩)

theorem mem_placed_slot {p : Port} {x : Nat × SlotRecord} (hx : x ∈ (s.egressPort p).slots) : x.2.tag ∈ s.placedTags :=
  List.mem_append_right _ (List.mem_append_left _ (List.mem_flatMap.2 ⟨p, mem_allPorts p, List.mem_map.2 ⟨x, hx, rfl⟩⟩))

theorem mem_placed_held {g : GroupId} {tag : Nat} (ht : tag ∈ s.heldCopies g) : tag ∈ s.placedTags :=
  List.mem_append_right _ (List.mem_append_right _ (List.mem_flatMap.2 ⟨g, mem_allGroups g, ht⟩))

/-! ## Places -/

/-- One class queue is rearranged, with loose copies joining it or copies of it becoming loose. -/
theorem setQueue (h : CopiesKept s loose) {p : Port} {c : Cls} {q rest : List Nat} (hp : (q ++ rest).Perm (s.queue p c ++ loose))
    (hq : ∀ tag ∈ q, ∃ k, s.copy tag = some k ∧ k.state = .queued ∧ k.port = some p ∧ k.cls = c) :
    CopiesKept (s.setQueue p c q) rest := by
  refine { h with placed := ?_, queued := fun p' c' tag ht => ?_ }
  · refine .trans (List.perm_iff_count.2 fun a => ?_) h.placed
    have h1 := List.perm_iff_count.1 (s.placedTags_setQueue p c q) a
    have h2 := List.perm_iff_count.1 hp a
    simp only [List.count_append] at h1 h2 ⊢
    omega
  · rw [State.setQueue_queue] at ht
    split at ht
    · rename_i e
      rw [e.1, e.2]
      exact hq tag ht
    · exact h.queued p' c' tag ht

/-- A copy leaves its class queue. -/
theorem dequeue (h : CopiesKept s loose) {p : Port} {c : Cls} {tag : Nat} (ht : tag ∈ s.queue p c) :
    CopiesKept (s.dequeue p c tag) (tag :: loose) := by
  refine h.setQueue ?_ fun j hj => h.queued p c j (List.mem_of_mem_erase hj)
  refine .trans ?_ ((List.perm_cons_erase ht).symm.append_right loose)
  exact List.perm_middle

/-- One egress ring is another, with loose copies joining it or copies of it becoming loose. -/
theorem setEgressPort (h : CopiesKept s loose) {p : Port} {v : EgressPort} {rest : List Nat}
    (hp : ((v.slots.map fun x => x.2.tag) ++ rest).Perm (s.postedTags p ++ loose)) (ho : Table.sorted v.slots = true)
    (hv : ∀ x ∈ v.slots, ∃ k, s.copy x.2.tag = some k ∧ k.state = .posted ∧ k.port = some p) :
    CopiesKept (s.setEgressPort p v) rest := by
  refine { h with placed := ?_, posted := fun p' x hx => ?_, slotOrder := fun p' => ?_ }
  · refine .trans (List.perm_iff_count.2 fun a => ?_) h.placed
    have h1 := List.perm_iff_count.1 (s.placedTags_setEgressPort p v) a
    have h2 := List.perm_iff_count.1 hp a
    simp only [List.count_append] at h1 h2 ⊢
    omega
  · rw [State.setEgressPort_egressPort] at hx
    split at hx
    · rename_i e
      rw [e]
      exact hv x hx
    · exact h.posted p' x hx
  · rw [State.setEgressPort_egressPort]
    split
    exacts [ho, h.slotOrder p']

/-- One group's held copies are others, with loose copies joining them or copies of them becoming loose. -/
theorem setHeldCopies (h : CopiesKept s loose) {g : GroupId} {q rest : List Nat} (hp : (q ++ rest).Perm (s.heldCopies g ++ loose))
    (hq : ∀ tag ∈ q, ∃ k, s.copy tag = some k ∧ k.state = .held ∧ k.port = none ∧ k.via = some g) :
    CopiesKept (s.setHeldCopies g q) rest := by
  refine { h with placed := ?_, held := fun g' tag ht => ?_ }
  · refine .trans (List.perm_iff_count.2 fun a => ?_) h.placed
    have h1 := List.perm_iff_count.1 (s.placedTags_setHeldCopies g q) a
    have h2 := List.perm_iff_count.1 hp a
    simp only [List.count_append] at h1 h2 ⊢
    omega
  · rw [State.setHeldCopies_heldCopies] at ht
    split at ht
    · rename_i e
      rw [e]
      exact hq tag ht
    · exact h.held g' tag ht

end CopiesKept

end Sys2Proof.Machine
end

section
/-! The record of a copy on its way changes, or goes: what the copy law and the target-port law then are (R11, R14, R16, R17). -/
namespace Sys2Proof.Machine

/-! ## A frame's copies, one of them apart -/

/-- The copies of a frame but this one. -/
def State.copiesBut (s : State) (tag n : Nat) : List Copy :=
  ((Table.erase s.cells.copies tag).filter fun e => decide (e.2.frame = n)).map (·.2)

/-- A copy, if it is one of this frame. -/
def Copy.ofFrame (k : Copy) (n : Nat) : List Copy := if k.frame = n then [k] else []

theorem copiesIn_cons (tag : Nat) (k : Copy) (m : Table Copy) (n : Nat) :
    (((tag, k) :: m).filter fun e => decide (e.2.frame = n)).map (·.2) =
      k.ofFrame n ++ (m.filter fun e => decide (e.2.frame = n)).map (·.2) := by
  unfold Copy.ofFrame
  rw [List.filter_cons]
  split <;> simp_all

theorem State.copiesOf_perm {s : State} (ho : Table.sorted s.cells.copies = true) {tag : Nat} {k : Copy}
    (hk : s.copy tag = some k) (n : Nat) : (s.copiesOf n).Perm (k.ofFrame n ++ s.copiesBut tag n) := by
  have h := ((Table.perm_of_find ho hk).filter fun e => decide (e.2.frame = n)).map (·.2)
  rwa [copiesIn_cons] at h

/-- The copies of a frame once one record is written. -/
theorem State.copiesOf_put {s t : State} (ho : Table.sorted s.cells.copies = true) {tag : Nat} {k : Copy}
    (ht : t.cells.copies = s.cells.copies.put tag k) (n : Nat) :
    (t.copiesOf n).Perm (k.ofFrame n ++ s.copiesBut tag n) := by
  have h := ((Table.put_perm ho tag k).filter fun e => decide (e.2.frame = n)).map (·.2)
  rw [copiesIn_cons] at h
  unfold State.copiesOf
  rw [ht]
  exact h

theorem Copy.ofFrame_self (k : Copy) : k.ofFrame k.frame = [k] := if_pos rfl
theorem Copy.ofFrame_ne {k : Copy} {n : Nat} (h : n ≠ k.frame) : k.ofFrame n = [] := if_neg (Ne.symm h)

theorem State.mem_copiesOf {s : State} {tag : Nat} {k : Copy} (hk : s.copy tag = some k) : k ∈ s.copiesOf k.frame :=
  List.mem_map.2 ⟨(tag, k), List.mem_filter.2 ⟨Table.find_mem hk, decide_eq_true rfl⟩, rfl⟩

theorem addPort_perm {q : Port} {l : List Port} (h : q ∉ l) : (addPort q l).Perm (q :: l) := by
  induction l with
  | nil => exact .refl _
  | cons r l ih =>
    obtain ⟨hne, hl⟩ := not_or.1 (mt List.mem_cons.2 h)
    unfold addPort
    rw [if_neg hne]
    split
    · exact .refl _
    · exact ((ih hl).cons r).trans (.swap q r l)

/-! ## A frame record with a copy's port gone, or joined -/

namespace Frame.Fits

variable {f : Frame} {k k' : Copy} {l : List Copy}

theorem nodup (h : f.Fits l) : f.ports.Nodup := h.order.imp fun hlt => ne_of_lt hlt

/-- Without the copy's port the set is that of the other copies. -/
theorem leaves (h : f.Fits (k :: l)) : (k.leaves f).Perm (l.filterMap (·.port)) := by
  have hp := h.ports
  cases hk : k.port with
  | none =>
    rw [Copy.leaves_of_none hk]
    rwa [List.filterMap_cons_none hk] at hp
  | some p =>
    rw [Copy.leaves_of_some hk]
    rw [List.filterMap_cons_some hk] at hp
    have hnd := hp.nodup_iff.1 h.nodup
    have hf := hp.filter fun q => decide (q ≠ p)
    have hrest : (l.filterMap (·.port)).filter (fun q => decide (q ≠ p)) = l.filterMap (·.port) :=
      List.filter_eq_self.2 fun q hq => decide_eq_true fun e => (List.nodup_cons.1 hnd).1 (e ▸ hq)
    rw [List.filter_cons_of_neg (by simp), hrest] at hf
    exact hf

theorem leaves_order (h : f.Fits l) (k : Copy) : (k.leaves f).Pairwise (· < ·) := h.order.filter _

/-- The copy's port leaves the target-port set. -/
theorem leave (h : f.Fits (k :: l)) (hk : k'.port = none) : ({ f with ports := k.leaves f } : Frame).Fits (k' :: l) :=
  ⟨h.count, h.pos, h.bound, h.leaves_order k, by rw [List.filterMap_cons_none hk]; exact h.leaves⟩

/-- The copy goes, and is not the last. -/
theorem lose (h : f.Fits (k :: l)) (h2 : 2 ≤ f.copyCount) :
    ({ f with copyCount := f.copyCount - 1, ports := k.leaves f } : Frame).Fits l :=
  ⟨by rw [h.count]; rfl, Nat.le_sub_of_add_le h2, (Nat.sub_le _ _).trans h.bound, h.leaves_order k, h.leaves⟩

/-- The copy gets a port that is not in the target-port set. -/
theorem join (h : f.Fits (k :: l)) (hk : k.port = none) {q : Port} (hq : q ∉ f.ports) (hk' : k'.port = some q) :
    ({ f with ports := addPort q f.ports } : Frame).Fits (k' :: l) := by
  refine ⟨h.count, h.pos, h.bound, pairwise_addPort h.order, ?_⟩
  rw [List.filterMap_cons_some hk']
  have hp := h.ports
  rw [List.filterMap_cons_none hk] at hp
  exact (addPort_perm hq).trans (hp.cons q)

/-- The copy's port stays. -/
theorem keep (h : f.Fits (k :: l)) (hk : k'.port = k.port) : f.Fits (k' :: l) :=
  ⟨h.count, h.pos, h.bound, h.order, by
    have hp := h.ports
    rw [List.filterMap_cons] at hp ⊢
    rwa [hk]⟩

end Frame.Fits

/-! ## The laws -/

namespace CopiesKept

variable {s t : State} {loose : List Nat} {tag : Nat} {k k' : Copy} {f f' : Frame}

/-- The record of a loose copy changes, and with it the record of its frame. -/
theorem rerecord (h : CopiesKept s (tag :: loose)) (hk : s.copy tag = some k) (hf : s.frame k.frame = some f)
    (hk' : k'.frame = k.frame) (hfit : ∀ l, f.Fits (k :: l) → f'.Fits (k' :: l))
    (hcopies : t.cells.copies = s.cells.copies.put tag k') (hfree : t.cells.freeCopies = s.cells.freeCopies)
    (hframe : ∀ j, t.frame j = if j = k.frame then some f' else s.frame j)
    (horder : Table.sorted t.cells.frames = true) (hq : t.queues = s.queues) (hh : t.failover = s.failover) (hp : t.path = s.path) :
    CopiesKept t (tag :: loose) := by
  have hkeys := Table.keys_put_perm h.copyOrder (v := k') hk
  rw [← hcopies] at hkeys
  have hcopy (j : Nat) : t.copy j = if j = tag then some k' else s.copy j := by
    unfold State.copy
    rw [hcopies]
    exact Table.find_put ..
  have hother {j : Nat} (hj : j ∈ s.placedTags) : t.copy j = s.copy j := by
    rw [hcopy, if_neg]
    rintro rfl
    exact h.loose_not_placed List.mem_cons_self hj
  have hqueue (p : Port) (c : Cls) : t.queue p c = s.queue p c := by unfold State.queue; rw [hq]
  have hslots (p : Port) : (t.egressPort p).slots = (s.egressPort p).slots := by unfold State.egressPort; rw [hq]
  have hheld (g : GroupId) : t.heldCopies g = s.heldCopies g := by unfold State.heldCopies; rw [hh]
  refine ⟨?_, ?_, fun p c j hj => ?_, fun p x hx => ?_, fun g j hj => ?_, ?_, fun p => ?_, fun hm => ?_, horder, fun j kj hj => ?_,
    fun n fn hn => ?_⟩
  · rw [hfree]; exact (hkeys.append_left _).trans h.records
  · rw [State.placedTags_congr hqueue hslots hheld]; exact h.placed.trans hkeys.symm
  · rw [hqueue] at hj; rw [hother (mem_placed_queue hj)]; exact h.queued p c j hj
  · rw [hslots] at hx; rw [hother (mem_placed_slot hx)]; exact h.posted p x hx
  · rw [hheld] at hj; rw [hother (mem_placed_held hj)]; exact h.held g j hj
  · rw [hcopies]; exact Table.sorted_put _ _ _ h.copyOrder
  · rw [hslots]; exact h.slotOrder p
  · have := Table.find_mem hk
    rw [h.passive (hp ▸ hm)] at this
    cases this
  · rw [hframe]
    split
    · rfl
    · rename_i hne
      rw [hcopy] at hj
      split at hj
      · cases hj; exact absurd hk' hne
      · exact h.named j kj hj
  · rw [hframe] at hn
    have hput := State.copiesOf_put h.copyOrder hcopies n
    have hwas := State.copiesOf_perm h.copyOrder hk n
    split at hn
    · rename_i e
      cases hn
      rw [e] at hput hwas
      rw [← hk', Copy.ofFrame_self, hk'] at hput
      rw [Copy.ofFrame_self] at hwas
      rw [e]
      exact (hfit _ ((h.frames _ f hf).perm hwas)).perm hput.symm
    · rename_i hne
      rw [Copy.ofFrame_ne (hk' ▸ hne)] at hput
      rw [Copy.ofFrame_ne hne] at hwas
      exact (h.frames n fn hn).perm (hwas.trans hput.symm)

/-- The record alone changes, not its frame and not its port. -/
theorem setCopy (h : CopiesKept s (tag :: loose)) (hk : s.copy tag = some k) (hk' : k'.frame = k.frame) (hp : k'.port = k.port) :
    CopiesKept (s.setCopy tag k') (tag :: loose) := by
  obtain ⟨f, hf⟩ := Option.isSome_iff_exists.1 (h.named tag k hk)
  refine h.rerecord (f' := f) hk hf hk' (fun l hl => hl.keep hp) rfl rfl (fun j => ?_) h.frameOrder rfl rfl rfl
  split
  · subst_vars; exact hf
  · rfl

/-- A loose copy leaves its port, and its record names none. -/
theorem detach (h : CopiesKept s (tag :: loose)) (hk : s.copy tag = some k) :
    CopiesKept ((s.leaveCopyPort k).setCopy tag { k with port := none }) (tag :: loose) := by
  obtain ⟨f, hf⟩ := Option.isSome_iff_exists.1 (h.named tag k hk)
  have heq := s.leaveCopyPort_eq k
  refine h.rerecord (f' := { f with ports := k.leaves f }) (k' := { k with port := none }) hk hf rfl (fun l hl => hl.leave rfl) ?_ ?_ ?_ ?_
    ?_ ?_ ?_
  · rw [heq]; rfl
  · rw [heq]; rfl
  · exact fun j => State.leaveCopyPort_frame hf j
  · show Table.sorted (s.leaveCopyPort k).cells.frames = true
    cases hp : k.port with
    | none => rw [State.leaveCopyPort_of_none hp]; exact h.frameOrder
    | some p => rw [State.leaveCopyPort_of_some hp hf]; exact Table.sorted_put _ _ _ h.frameOrder
  · rw [heq]; rfl
  · rw [heq]; rfl
  · rw [heq]; rfl

end CopiesKept

/-! ## Retirement -/

theorem State.releasedCopy_cells (u : State) (cause : RetireCause) (f : Frame) (k : Copy) (tag : Nat) :
    ((u.countRetired cause f k).releaseRecord tag).cells =
      { u.cells with copies := u.cells.copies.erase tag, freeCopies := Runs.push u.cells.freeCopies tag } := by
  cases cause <;> rfl

/-- The tables of copies and frames after a retirement. -/
theorem State.retire_tables {s : State} {tag : Nat} {k : Copy} {f : Frame} (hk : s.copy tag = some k)
    (hf : s.frame k.frame = some f) (ho : Table.sorted s.cells.frames = true) (cause : RetireCause) :
    (s.retire tag cause).cells.copies = s.cells.copies.erase tag ∧ Table.sorted (s.retire tag cause).cells.frames = true := by
  have hfr : (s.leaveCopyPort k).frame k.frame = some { f with ports := k.leaves f } := by
    rw [State.leaveCopyPort_frame hf, if_pos rfl]
  have hcopies : (s.leaveCopyPort k).cells.copies = s.cells.copies := by rw [State.leaveCopyPort_eq]
  have horder : Table.sorted (s.leaveCopyPort k).cells.frames = true := by
    cases hp : k.port with
    | none => rw [State.leaveCopyPort_of_none hp]; exact ho
    | some p => rw [State.leaveCopyPort_of_some hp hf]; exact Table.sorted_put _ _ _ ho
  rcases s.retire_cases tag cause with ⟨hn, -⟩ | ⟨k', hk', hcases⟩
  · rw [hk] at hn; cases hn
  rw [hk] at hk'
  cases hk'
  rcases hcases with ⟨hn, -⟩ | ⟨g, -, ⟨-, e⟩ | ⟨-, e⟩⟩
  · rw [hfr] at hn; cases hn
  · have hc := (s.leaveCopyPort k).releasedCopy_cells cause g k tag
    rw [e]
    generalize ((s.leaveCopyPort k).countRetired cause g k).releaseRecord tag = u at hc ⊢
    refine ⟨(show u.cells.copies = _ by rw [hc]).trans (by rw [hcopies]), ?_⟩
    show Table.sorted (u.cells.frames.erase k.frame) = true
    rw [hc]
    exact Table.sorted_erase _ _ horder
  · have hc := (s.leaveCopyPort k).releasedCopy_cells cause g k tag
    rw [e]
    generalize ((s.leaveCopyPort k).countRetired cause g k).releaseRecord tag = u at hc ⊢
    refine ⟨(show u.cells.copies = _ by rw [hc]).trans (by rw [hcopies]), ?_⟩
    show Table.sorted (u.cells.frames.put k.frame _) = true
    rw [hc]
    exact Table.sorted_put _ _ _ horder

/-- A loose copy is retired (R16, R17). -/
theorem CopiesKept.retire {s : State} {loose : List Nat} {tag : Nat} (h : CopiesKept s (tag :: loose)) (cause : RetireCause) :
    CopiesKept (s.retire tag cause) loose ∧ ∀ j, j ≠ tag → (s.retire tag cause).copy j = s.copy j := by
  obtain ⟨k, hk⟩ := h.loose_copy List.mem_cons_self
  obtain ⟨f, hf⟩ := Option.isSome_iff_exists.1 (h.named tag k hk)
  obtain ⟨hcopies, horder⟩ := State.retire_tables hk hf h.frameOrder cause
  have hret := State.retire_retired hk hf cause
  have hout := s.retire_outside tag cause
  generalize s.retire tag cause = t at *
  have hcopy := hret.copy
  have hframe := hret.frame
  have hne {j : Nat} (hj : j ≠ tag) : t.copy j = s.copy j := by rw [hcopy, if_neg hj]
  have hplaced {j : Nat} (hj : j ∈ s.placedTags) : t.copy j = s.copy j := hne fun e =>
    h.loose_not_placed List.mem_cons_self (e ▸ hj)
  have hqueue (p : Port) (c : Cls) : t.queue p c = s.queue p c := by unfold State.queue; rw [hout.queues]
  have hslots (p : Port) : (t.egressPort p).slots = (s.egressPort p).slots := by unfold State.egressPort; rw [hout.queues]
  have hheld (g : GroupId) : t.heldCopies g = s.heldCopies g := by unfold State.heldCopies; rw [hout.failover]
  have hkeys : (s.cells.copies.map (·.1)).Perm (tag :: t.cells.copies.map (·.1)) := by
    rw [hcopies]
    exact (Table.perm_of_find h.copyOrder hk).map _
  have hbut (n : Nat) : t.copiesOf n = s.copiesBut tag n := by
    unfold State.copiesOf State.copiesBut
    rw [hcopies]
  refine ⟨⟨?_, ?_, fun p c j hj => ?_, fun p x hx => ?_, fun g j hj => ?_, ?_, fun p => ?_, fun hm => ?_, horder, fun j kj hj => ?_,
    fun n fn hn => ?_⟩, fun j => hne⟩
  · rw [hret.freeCopies, Runs.toList_push, List.append_assoc]
    exact (hkeys.symm.append_left _).trans h.records
  · rw [State.placedTags_congr hqueue hslots hheld]
    have := h.placed.trans hkeys
    exact List.Perm.cons_inv (List.perm_middle.symm.trans this)
  · rw [hqueue] at hj; rw [hplaced (CopiesKept.mem_placed_queue hj)]; exact h.queued p c j hj
  · rw [hslots] at hx; rw [hplaced (CopiesKept.mem_placed_slot hx)]; exact h.posted p x hx
  · rw [hheld] at hj; rw [hplaced (CopiesKept.mem_placed_held hj)]; exact h.held g j hj
  · rw [hcopies]; exact Table.sorted_erase _ _ h.copyOrder
  · rw [hslots]; exact h.slotOrder p
  · have := Table.find_mem hk
    rw [h.passive (hout.path ▸ hm)] at this
    cases this
  · rw [hcopy] at hj
    split at hj
    · cases hj
    · have hnamed := h.named j kj hj
      rw [hframe]
      split
      · rename_i e
        split
        · rfl
        · have hmem := State.mem_copiesOf hj
          rw [e] at hmem
          have hfit := (h.frames _ f hf).perm (State.copiesOf_perm h.copyOrder hk k.frame)
          rw [Copy.ofFrame_self] at hfit
          have hin : kj ∈ s.copiesBut tag k.frame :=
            List.mem_map.2 ⟨(j, kj), List.mem_filter.2 ⟨List.mem_filter.2 ⟨Table.find_mem hj, by simpa using ‹¬j = tag›⟩, by
              simpa using e⟩, rfl⟩
          have hlen := hfit.count
          rw [List.singleton_append, List.length_cons] at hlen
          have := List.length_pos_of_mem hin
          omega
      · exact hnamed
  · rw [hframe] at hn
    have hwas := State.copiesOf_perm h.copyOrder hk n
    rw [hbut]
    split at hn
    · rename_i e
      split at hn
      · rename_i h2
        cases hn
        rw [e, Copy.ofFrame_self] at hwas
        rw [e]
        exact ((h.frames _ f hf).perm hwas).lose h2
      · cases hn
    · rename_i hne
      rw [Copy.ofFrame_ne hne] at hwas
      exact (h.frames n fn hn).perm hwas

end Sys2Proof.Machine
end

section
/-! The copy law and the target-port law under what an action does with one copy: requeued, held, chosen again, posted (R95,
R103, R104, R109, R137, R138, R142, R143). -/
namespace Sys2Proof.Machine

/-- The laws hold with the other loose copies once `tag` has a place or is retired, and the other records stand. -/
structure Settles (s t : State) (tag : Nat) (loose : List Nat) : Prop where
  kept : CopiesKept t loose
  others : ∀ j, j ≠ tag → t.copy j = s.copy j

namespace Settles

variable {r s t u : State} {tag : Nat} {loose : List Nat}

/-- Ahead of it, something that leaves the other records alone. -/
theorem after (h : Settles s t tag loose) (hc : ∀ j, j ≠ tag → s.copy j = r.copy j) : Settles r t tag loose :=
  ⟨h.kept, fun j hj => (h.others j hj).trans (hc j hj)⟩

end Settles

theorem State.setCopy_setCopy (s : State) (tag : Nat) (k k' : Copy) : (s.setCopy tag k).setCopy tag k' = s.setCopy tag k' := by
  unfold State.setCopy
  dsimp only
  rw [Table.put_put]

/-- A chain of effects of no command of its own, seen from its first state. -/
theorem CopiesKept.run {s t : State} {loose : List Nat} (h : CopiesKept s loose) (hr : Run Special.none s t) : CopiesKept t loose :=
  h.same hr.sameCopies

namespace CopiesKept

variable {s t : State} {loose : List Nat} {tag : Nat} {k k0 : Copy} {f : Frame}

theorem retired (h : CopiesKept s (tag :: loose)) (cause : RetireCause) : Settles s (s.retire tag cause) tag loose :=
  ⟨(h.retire cause).1, (h.retire cause).2⟩

/-- A loose copy that is QUEUED, by its record, joins its queue at the head or at the tail. -/
theorem joinQueue (h : CopiesKept s (tag :: loose)) {p : Port} {c : Cls} {q : List Nat} (hk : s.copy tag = some k)
    (hs : k.state = .queued) (hp : k.port = some p) (hc : k.cls = c) (hq : q.Perm (tag :: s.queue p c)) :
    CopiesKept (s.setQueue p c q) loose := by
  refine h.setQueue ?_ fun j hj => ?_
  · exact (hq.append_right loose).trans List.perm_middle.symm
  · rcases List.mem_cons.1 (hq.subset hj) with rfl | hj
    exacts [⟨k, hk, hs, hp, hc⟩, h.queued p c j hj]

/-- The queue manager appends a loose copy to its class queue on port `q` (R11, R95). -/
theorem appendQueued (h : CopiesKept s (tag :: loose)) (hk : s.copy tag = some k0) (hfr : k.frame = k0.frame)
    (hf : s.frame k.frame = some f) (hp : k0.port = none) {q : Port} (hq : q ∉ f.ports) :
    Settles s (s.appendQueued tag k q) tag loose := by
  have heq : s.appendQueued tag k q =
      ((s.setFrame k.frame { f with ports := addPort q f.ports }).setCopy tag { k with state := .queued, port := some q }).setQueue q
        k.cls (s.queue q k.cls ++ [tag]) := by
    unfold State.appendQueued State.joinPort
    rw [show ((s.setCopy tag { k with state := .queued, port := some q }).setQueue q k.cls
      (s.queue q k.cls ++ [tag])).frame k.frame = some f from hf]
    rfl
  have hre : CopiesKept ((s.setFrame k.frame { f with ports := addPort q f.ports }).setCopy tag
      { k with state := .queued, port := some q }) (tag :: loose) :=
    h.rerecord (k' := { k with state := .queued, port := some q }) (f' := { f with ports := addPort q f.ports }) hk (hfr ▸ hf) hfr
      (fun l hl => hl.join hp hq rfl) rfl rfl
      (fun j => by rw [← hfr]; exact State.setFrame_frame ..) (Table.sorted_put _ _ _ h.frameOrder) rfl rfl rfl
  have hcopy (j : Nat) : (s.appendQueued tag k q).copy j =
      if j = tag then some { k with state := .queued, port := some q } else s.copy j := by
    rw [heq]
    exact State.setCopy_copy ..
  refine ⟨?_, fun j hj => by rw [hcopy, if_neg hj]⟩
  rw [heq]
  refine hre.joinQueue (k := { k with state := .queued, port := some q }) ?_ rfl rfl rfl ?_
  · rw [State.setCopy_copy, if_pos rfl]
  · exact List.perm_append_singleton _ _

/-- A loose copy becomes HELD under its group (R142). -/
theorem hold (h : CopiesKept s (tag :: loose)) (hk : s.copy tag = some k) (hp : k.port = none) {g : GroupId} (hv : k.via = some g) :
    Settles s (s.hold tag k g) tag loose := by
  have hre := h.setCopy (k' := { k with state := .held, port := none }) hk rfl hp.symm
  have hcopy (j : Nat) : (s.setCopy tag { k with state := .held, port := none }).copy j =
      if j = tag then some { k with state := .held, port := none } else s.copy j := State.setCopy_copy ..
  refine ⟨hre.setHeldCopies (g := g) (q := s.heldCopies g ++ [tag]) ?_ fun j hj => ?_, fun j hj => (hcopy j).trans (if_neg hj)⟩
  · rw [List.append_assoc]
    exact .refl _
  · rcases List.mem_append.1 hj with hj | hj
    · exact hre.held g j hj
    · obtain rfl := List.mem_singleton.1 hj
      exact ⟨_, (hcopy _).trans (if_pos rfl), rfl, rfl, hv⟩

/-- The placing of a loose via-group copy by a fresh member choice (R137, R143, R145). -/
theorem rechoose (h : CopiesKept s (tag :: loose)) (hk : s.copy tag = some k) (hp : k.port = none) (g : GroupId) :
    Settles s (s.rechoose tag k g).1 tag loose := by
  obtain ⟨f, hf⟩ := Option.isSome_iff_exists.1 (h.named tag k hk)
  unfold State.rechoose
  rw [hf]
  dsimp only
  split
  · exact h.retired _
  · split
    · exact h.retired _
    · rename_i hq
      exact h.appendQueued hk rfl hf hp hq

/-- A late abort of a loose copy (R143). -/
theorem lateAbort (h : CopiesKept s (tag :: loose)) (hk : s.copy tag = some k) {g : GroupId} (hv : k.via = some g) :
    Settles s (s.lateAbort tag k g).1 tag loose := by
  have hd := h.detach hk
  have hcopy (j : Nat) : ((s.leaveCopyPort k).setCopy tag { k with port := none }).copy j =
      if j = tag then some { k with port := none } else s.copy j := by
    rw [State.setCopy_copy]
    split
    · rfl
    · rw [State.leaveCopyPort_eq]; rfl
  have hself := (hcopy tag).trans (if_pos rfl)
  have hother : ∀ j, j ≠ tag → ((s.leaveCopyPort k).setCopy tag { k with port := none }).copy j = s.copy j := fun j hj =>
    (hcopy j).trans (if_neg hj)
  have heq : s.lateAbort tag k g =
      let u := (s.leaveCopyPort k).setCopy tag { k with port := none }
      if u.walkWork then
        if u.holdCount < Config.holdRoom then (u.hold tag { k with port := none } g, none) else (u.retire tag .holdFull, none)
      else u.rechoose tag { k with port := none } g := rfl
  rw [heq]
  generalize (s.leaveCopyPort k).setCopy tag { k with port := none } = u at *
  dsimp only
  split
  · split
    · exact (hd.hold hself rfl hv).after hother
    · exact (hd.retired _).after hother
  · exact (hd.rechoose hself rfl g).after hother

/-- A loose direct copy of port `p` returns to the head of its queue, or is retired (R109). -/
theorem directReturn (h : CopiesKept s (tag :: loose)) (hk : s.copy tag = some k) {p : Port} (hp : k.port = some p) :
    Settles s (s.directReturn p tag k) tag loose := by
  unfold State.directReturn
  split
  · exact h.retired _
  · have hre := h.setCopy (k' := { k with state := .queued }) hk rfl rfl
    have hcopy (j : Nat) : (s.setCopy tag { k with state := .queued }).copy j =
        if j = tag then some { k with state := .queued } else s.copy j := State.setCopy_copy ..
    exact ⟨hre.joinQueue ((hcopy tag).trans (if_pos rfl)) rfl hp rfl (.refl _), fun j hj => (hcopy j).trans (if_neg hj)⟩

/-- An ABORTED copy of port `p`, its slot emptied (R109, R143). -/
theorem aborted (h : CopiesKept s (tag :: loose)) (hk : s.copy tag = some k) {p : Port} (hp : k.port = some p) :
    Settles s (s.aborted p tag k).1 tag loose := by
  unfold State.aborted
  split
  · exact h.lateAbort hk ‹_›
  · exact h.directReturn hk hp

/-- The copy of a completion, its slot emptied (R108, R109). -/
theorem completeCopy (h : CopiesKept s (tag :: loose)) (hk : s.copy tag = some k) {p : Port} (hp : k.port = some p)
    (status : Nat) : CopiesKept (s.completeCopy p tag status).1 loose := by
  unfold State.completeCopy
  rw [hk]
  dsimp only
  split
  · exact (h.retired _).kept
  · split
    · exact (h.aborted hk hp).kept
    · exact (h.retired _).kept

/-! ## Walks -/

/-- A move from port `p` to a port that is not in the target-port set (R138). -/
theorem moveCopy (h : CopiesKept s loose) (hk : s.copy tag = some k) (hf : s.frame k.frame = some f) {p q : Port} (hp : k.port = some p)
    (ht : tag ∈ s.queue p k.cls) (hq : q ∉ f.ports) : CopiesKept (s.moveCopy tag k p q) loose := by
  have hd := (h.dequeue ht).detach (k := k) hk
  have hleave : (s.dequeue p k.cls tag).leaveCopyPort k = (s.dequeue p k.cls tag).leavePort k.frame p := by
    unfold State.leaveCopyPort
    rw [hp]
  have hf1 : (s.dequeue p k.cls tag).frame k.frame = some f := hf
  rw [hleave] at hd
  have hframe : ((s.dequeue p k.cls tag).leavePort k.frame p).frame k.frame = some { f with ports := f.ports.filter (· ≠ p) } := by
    rw [State.leavePort_of_frame hf1, State.setFrame_frame, if_pos rfl]
  unfold State.moveCopy
  generalize (s.dequeue p k.cls tag).leavePort k.frame p = u at hd hframe
  have heq : u.appendQueued tag k q = (u.setCopy tag { k with port := none }).appendQueued tag k q := by
    unfold State.appendQueued
    rw [State.setCopy_setCopy]
    rfl
  rw [heq]
  refine (hd.appendQueued (k0 := { k with port := none }) ?_ rfl hframe rfl fun hm => hq (List.mem_filter.1 hm).1).kept
  rw [State.setCopy_copy, if_pos rfl]

/-! ## Post attempts -/

theorem discard (h : CopiesKept s loose) {p : Port} {c : Cls} (ht : tag ∈ s.queue p c) : CopiesKept (s.discard p c tag) loose :=
  (((h.dequeue ht).run (((Run.refl _).forgetInWalk p c tag).adoptIfEmpty p)).retired .stale).kept

/-- Posting the copy of a queue into an empty slot (R104). -/
theorem post (h : CopiesKept s loose) (hk : s.copy tag = some k) {p : Port} (ht : tag ∈ s.queue p k.cls)
    (hslot : (s.egressPort p).slots.find (s.egressPort p).nextWrite = none) (f : Frame) : CopiesKept (s.post p tag k f) loose := by
  obtain ⟨k', hk', -, hp, -⟩ := h.queued p k.cls tag ht
  rw [hk] at hk'
  cases hk'
  have h1 := (h.dequeue ht).run ((Run.refl _).forgetInWalk p k.cls tag)
  have hk1 : ((s.dequeue p k.cls tag).forgetInWalk p k.cls tag).copy tag = some k := hk
  have hring : ((s.dequeue p k.cls tag).forgetInWalk p k.cls tag).egressPort p = s.egressPort p := rfl
  have h2 := h1.setCopy (k' := { k with state := .posted }) hk1 rfl rfl
  unfold State.post
  dsimp only
  generalize (s.dequeue p k.cls tag).forgetInWalk p k.cls tag = u at h1 hk1 hring h2 ⊢
  have hcopy (j : Nat) : (u.setCopy tag { k with state := .posted }).copy j =
      if j = tag then some { k with state := .posted } else u.copy j := State.setCopy_copy ..
  have hring2 : (u.setCopy tag { k with state := .posted }).egressPort p = s.egressPort p := hring
  have hself := (hcopy tag).trans (if_pos rfl)
  generalize u.setCopy tag { k with state := .posted } = v at h2 hself hring2 ⊢
  rw [hring2]
  have h3 := h2.run ((Run.refl v).emit (egressOffset p (s.egressPort p).nextWrite) (descriptorBytes tag k f (s.egressPort p).lap))
  have hring3 : (v.emit (egressOffset p (s.egressPort p).nextWrite) (descriptorBytes tag k f (s.egressPort p).lap)).egressPort p =
      s.egressPort p := hring2
  have hself3 : (v.emit (egressOffset p (s.egressPort p).nextWrite) (descriptorBytes tag k f (s.egressPort p).lap)).copy tag =
      some { k with state := .posted } := hself
  generalize v.emit (egressOffset p (s.egressPort p).nextWrite) (descriptorBytes tag k f (s.egressPort p).lap) = w at h3 hring3 hself3 ⊢
  have hslots := h3.slotOrder p
  rw [hring3] at hslots
  have h4 : CopiesKept (w.setEgressPort p ((s.egressPort p).fill tag)) loose := by
    refine h3.setEgressPort ?_ (Table.sorted_put _ _ _ hslots) fun x hx => ?_
    · have hp := Table.put_perm hslots (s.egressPort p).nextWrite (⟨tag, (s.egressPort p).lap⟩ : SlotRecord)
      rw [Table.erase_of_find_none hslot] at hp
      have hm := (hp.map fun x : Nat × SlotRecord => x.2.tag).append_right loose
      refine hm.trans ?_
      unfold State.postedTags
      rw [hring3]
      exact List.perm_middle.symm
    · rcases Table.mem_put_value hx with rfl | hx
      · exact ⟨_, hself3, rfl, hp⟩
      · exact h3.posted p x (hring3 ▸ hx)
  refine h4.run (((?_ : Run Special.none _ _).adoptIfEmpty p).owe p)
  split
  exacts [(Run.refl _).setLivePort _ _, Run.refl _]

end CopiesKept

/-! ## The choice of an attempt -/

/-- The slots of a port's egress ring and its next write slot are as they were. -/
def RingStands (p : Port) (s t : State) : Prop :=
  (t.egressPort p).slots = (s.egressPort p).slots ∧ (t.egressPort p).nextWrite = (s.egressPort p).nextWrite

namespace RingStands

variable {p : Port} {r s t : State}

theorem refl (p : Port) (s : State) : RingStands p s s := ⟨rfl, rfl⟩

theorem trans (h : RingStands p r s) (k : RingStands p s t) : RingStands p r t := ⟨k.1.trans h.1, k.2.trans h.2⟩

theorem of_ports (h : t.queues.ports = s.queues.ports) : RingStands p s t := by
  unfold RingStands
  rw [egressPort_congr h]
  exact ⟨rfl, rfl⟩

theorem of_set {v : EgressPort} (hs : v.slots = (s.egressPort p).slots) (hn : v.nextWrite = (s.egressPort p).nextWrite) :
    RingStands p s (s.setEgressPort p v) := by
  unfold RingStands
  rw [State.setEgressPort_egressPort, if_pos rfl]
  exact ⟨hs, hn⟩

theorem adopt (s : State) (p : Port) : RingStands p s (s.adopt p) := of_set rfl rfl

theorem adoptIfEmpty (s : State) (p : Port) : RingStands p s (s.adoptIfEmpty p) := by
  unfold State.adoptIfEmpty
  split
  · exact (adopt s p).trans (of_set rfl rfl)
  · exact refl p s

theorem advancePhase (s : State) (p : Port) : RingStands p s (s.advancePhase p) := by
  unfold State.advancePhase
  dsimp only
  split
  · have h1 : RingStands p s (s.setEgressPort p { s.egressPort p with phase := 0 }) := of_set rfl rfl
    split
    exacts [h1.trans (adopt _ p), h1]
  · exact of_set rfl rfl

theorem discard (s : State) (p : Port) (c : Cls) (tag : Nat) : RingStands p s (s.discard p c tag) := by
  have h1 : RingStands p s ((s.dequeue p c tag).forgetInWalk p c tag) := of_ports rfl
  refine (h1.trans (adoptIfEmpty _ p)).trans (of_ports ?_)
  exact congrArg QueueManager.ports (State.retire_outside _ tag .stale).queues

end RingStands

/-- What an attempt's choice finds: the laws, the ring as it was, and the choice at the head of a queue of the port. -/
structure Picks (p : Port) (s : State) (loose : List Nat) (x : Option Nat × State) : Prop where
  kept : CopiesKept x.2 loose
  ring : RingStands p s x.2
  head : ∀ tag, x.1 = some tag → ∃ c, tag ∈ x.2.queue p c

namespace Picks

variable {p : Port} {r s : State} {loose : List Nat} {x : Option Nat × State}

theorem after (h : Picks p s loose x) (k : RingStands p r s) : Picks p r loose x := ⟨h.kept, k.trans h.ring, h.head⟩

theorem none (h : CopiesKept s loose) : Picks p s loose (.none, s) := ⟨h, .refl p s, nofun⟩

theorem strictPick (h : CopiesKept s loose) (n : Nat) : Picks p s loose (s.strictPick p n) := by
  induction n generalizing s with
  | zero => exact .none h
  | succ n ih =>
    unfold State.strictPick
    split
    · exact .none h
    · rename_i t rest hq
      have ht : t ∈ s.queue p 0 := by rw [hq]; exact List.mem_cons_self
      split
      · exact (ih (h.discard ht)).after (.discard s p 0 t)
      · refine ⟨h, .refl p s, fun tag e => ?_⟩
        cases e
        exact ⟨0, ht⟩

theorem scanPick (h : CopiesKept s loose) (n left : Nat) : Picks p s loose (s.scanPick p n left) := by
  induction n generalizing s left with
  | zero => exact .none h
  | succ n ih =>
    have hadvance := h.run ((Run.refl s).advancePhase p)
    have hring := RingStands.advancePhase s p
    unfold State.scanPick
    split
    · exact .none h
    · split
      · exact (ih hadvance _).after hring
      · rename_i c _
        split
        · exact (ih hadvance _).after hring
        · rename_i t rest hq
          have ht : t ∈ s.queue p c := by rw [hq]; exact List.mem_cons_self
          split
          · exact (ih (h.discard ht) _).after (.discard s p c t)
          · refine ⟨hadvance, hring, fun tag e => ?_⟩
            cases e
            refine ⟨c, ?_⟩
            have hsame := ((Run.refl s).advancePhase p : Run Special.none s (s.advancePhase p)).sameCopies
            show t ∈ (s.advancePhase p).queue p c
            rw [hsame.queue]
            exact ht

theorem pick (h : CopiesKept s loose) : Picks p s loose (s.pick p) := by
  have h1 := strictPick (p := p) h (s.waiting p + 1)
  unfold State.pick
  split
  · rename_i e; rw [e] at h1; exact h1
  · rename_i e; rw [e] at h1; exact (scanPick h1.kept _ _).after h1.ring

end Picks

namespace CopiesKept

variable {s : State} {loose : List Nat}

theorem postChosen (h : CopiesKept s loose) {p : Port} {choice : Option Nat}
    (hslot : (s.egressPort p).slots.find (s.egressPort p).nextWrite = none)
    (hhead : ∀ tag, choice = some tag → ∃ c, tag ∈ s.queue p c) : CopiesKept (s.postChosen p choice) loose := by
  unfold State.postChosen
  split
  · exact h
  · rename_i t
    split
    · exact h
    · rename_i k hk
      split
      · exact h
      · obtain ⟨c, ht⟩ := hhead t rfl
        obtain ⟨k', hk', -, -, hc⟩ := h.queued p c t ht
        rw [hk] at hk'
        cases hk'
        exact h.post hk (hc ▸ ht) hslot _

theorem attempt (h : CopiesKept s loose) (p : Port) : CopiesKept (s.attempt p) loose := by
  unfold State.attempt
  split
  · rename_i he
    have hslot : (s.egressPort p).slots.find (s.egressPort p).nextWrite = none := by
      unfold State.eligible at he
      simp only [Bool.and_eq_true] at he
      exact Option.isNone_iff_eq_none.1 he.1.2
    obtain ⟨hkept, hring, hhead⟩ := Picks.pick (p := p) h
    generalize s.pick p = x at hkept hring hhead ⊢
    have hset := (Run.refl (ok := Special.none) x.2).settle s.freeCount
    have hq : (x.2.settle s.freeCount).queues = x.2.queues := (x.2.settle_outside s.freeCount).queues
    refine (hkept.run hset).postChosen ?_ fun tag e => ?_
    · have hring' := hring.trans (.of_ports (t := x.2.settle s.freeCount) (by rw [hq]))
      rw [hring'.1, hring'.2]
      exact hslot
    · obtain ⟨c, ht⟩ := hhead tag e
      exact ⟨c, by rw [hset.sameCopies.queue]; exact ht⟩
  · exact h

end CopiesKept

end Sys2Proof.Machine
end

section
/-! The copy law and the target-port law under completions, walks, the calm point, PORT_RESET and START (R106 to R111, R136,
R145, R168). -/
namespace Sys2Proof.Machine

namespace CopiesKept

variable {s : State} {loose : List Nat} {tag : Nat}

/-! ## Completions -/

/-- The slot of a posted copy is emptied (R108). -/
theorem emptySlot (h : CopiesKept s loose) {p : Port} {n : Nat} {rec : SlotRecord} (hr : (s.egressPort p).slots.find n = some rec) :
    CopiesKept (s.emptySlot p n) (rec.tag :: loose) ∧ ∃ k, s.copy rec.tag = some k ∧ k.port = some p := by
  have hp := (Table.perm_of_find (h.slotOrder p) hr).map fun x : Nat × SlotRecord => x.2.tag
  refine ⟨h.setEgressPort ?_ (Table.sorted_erase _ _ (h.slotOrder p)) fun x hx => h.posted p x (List.mem_filter.1 hx).1, ?_⟩
  · exact List.perm_middle.trans (hp.symm.append_right loose)
  · obtain ⟨k, hk, -, hport⟩ := h.posted p _ (Table.find_mem hr)
    exact ⟨k, hk, hport⟩

theorem takeCompletion (h : CopiesKept s loose) {p : Port} {n : Nat} {rec : SlotRecord}
    (hr : (s.egressPort p).slots.find n = some rec) (w : CompletionWord) : CopiesKept (s.takeCompletion p n rec w) loose := by
  unfold State.takeCompletion
  split
  · exact h.run ((Run.refl s).ask _ _ _ _)
  · obtain ⟨hkept, k, hk, hport⟩ := h.emptySlot hr
    have hdone := hkept.completeCopy (k := k) hk hport w.status
    dsimp only
    exact hdone.run ((((Run.refl _).settle _).completionReport _).oweEach _)

theorem egressWrite (h : CopiesKept s loose) (p : Port) (n : Nat) (g : Lanes) : CopiesKept (s.egressWrite p n g) loose := by
  unfold State.egressWrite
  split
  · rename_i rec hrec
    refine h.takeCompletion ?_ _
    unfold State.completes at hrec
    split at hrec
    · split at hrec
      · rename_i found hf
        split at hrec
        · cases hrec; exact hf
        · cases hrec
      · cases hrec
    · cases hrec
  · exact h

/-! ## Walks -/

theorem afterResume_subset (q : List Nat) (r : Option Nat) : afterResume q r ⊆ q := by
  unfold afterResume
  split
  · exact List.Subset.refl _
  · split
    · exact ((List.drop_sublist _ _).trans (List.dropWhile_sublist _)).subset
    · exact List.Subset.refl _

/-- The copy a step visits next stands in the class queue (R135). -/
theorem next?_mem {tails : List (Option Nat)} {p : Port} {c : Cls} {x : StepState} (h : x.next? tails p c = some tag) :
    tag ∈ x.st.queue p c := by
  unfold StepState.next? at h
  split at h
  · cases h
  · split at h
    · exact afterResume_subset _ _ (List.mem_of_mem_head? h)
    · cases h

/-- A port that a visit moves a copy to is not in the target-port set of its frame (R137). -/
theorem visitOutcome_moves {kind : WorkKind} {p q : Port} {k : Copy} (h : s.visitOutcome kind p k = .moves q) :
    ∃ f, s.frame k.frame = some f ∧ q ∉ f.ports := by
  unfold State.visitOutcome at h
  split at h
  · split at h <;> cases h
  · split at h
    · cases h
    · rename_i f hf
      split at h
      · cases h
      · split at h
        · cases h
        · split at h
          · cases h
          · cases h
            exact ⟨f, hf, ‹_›⟩

theorem visit {x : StepState} (h : CopiesKept x.st loose) (kind : WorkKind) {p : Port} {c : Cls} (ht : tag ∈ x.st.queue p c) :
    CopiesKept (x.visit kind p c tag).st loose := by
  obtain ⟨k, hk, -, hport, hc⟩ := h.queued p c tag ht
  unfold StepState.visit
  rw [hk]
  dsimp only
  split
  · exact h
  · exact ((h.dequeue ht).retired _).kept
  · rename_i q hq
    obtain ⟨f, hf, hnot⟩ := visitOutcome_moves hq
    exact h.moveCopy hk hf hport (hc ▸ ht) hnot

theorem walkVisits (kind : WorkKind) (p : Port) (tails : List (Option Nat)) (n v : Nat) {x : StepState} (h : CopiesKept x.st loose) :
    CopiesKept (Machine.walkVisits kind p tails n v x).st loose := by
  induction n generalizing v x with
  | zero => exact h
  | succ n ih =>
    unfold Machine.walkVisits
    split
    · dsimp only
      split
      · exact ih v (x := { x with cls := x.cls + 1, resume := none }) h
      · rename_i t ht
        have hv := h.visit kind (next?_mem ht)
        split
        · exact h
        · split
          · exact ih _ (x := { x.visit kind p _ t with cls := (x.visit kind p _ t).cls + 1, resume := none }) hv
          · exact ih _ hv
    · exact h

/-! ## The calm point -/

/-- One released copy (R145). -/
theorem releaseOne {acc : State × List Port} (h : CopiesKept acc.1 (tag :: loose))
    (hport : ∃ k, acc.1.copy tag = some k ∧ k.port = none) (g : GroupId) :
    Settles acc.1 (State.releaseOne g acc tag).1 tag loose := by
  obtain ⟨k, hk, hp⟩ := hport
  unfold State.releaseOne
  rw [hk]
  dsimp only
  split
  · exact h.retired _
  · exact h.rechoose hk hp g

/-- Copies that are handled one after another, each given a place or retired by its turn. -/
theorem settleEach {f : State × List Port → Nat → State × List Port} {Q : Copy → Prop}
    (hf : ∀ (acc : State × List Port) (j : Nat) (m : List Nat), CopiesKept acc.1 (j :: m) → (∃ k, acc.1.copy j = some k ∧ Q k) →
      Settles acc.1 (f acc j).1 j m)
    (l : List Nat) {acc : State × List Port} (h : CopiesKept acc.1 (l ++ loose)) (hq : ∀ j ∈ l, ∃ k, acc.1.copy j = some k ∧ Q k) :
    CopiesKept (l.foldl f acc).1 loose := by
  induction l generalizing acc with
  | nil => exact h
  | cons j l ih =>
    have hstep := hf acc j (l ++ loose) h (hq j List.mem_cons_self)
    refine ih hstep.kept fun i hi => ?_
    have hne : i ≠ j := by
      rintro rfl
      exact (List.nodup_cons.1 (List.nodup_append.1 h.nodup).2.1).1 (List.mem_append_left _ hi)
    rw [hstep.others i hne]
    exact hq i (List.mem_cons_of_mem _ hi)

/-- The release of one group's held copies (R145). -/
theorem releaseGroup {acc : State × List Port} (h : CopiesKept acc.1 loose) (g : GroupId) :
    CopiesKept (State.releaseGroup acc g).1 loose := by
  have hclear : CopiesKept (acc.1.setHeldCopies g []) (acc.1.heldCopies g ++ loose) := h.setHeldCopies (.refl _) nofun
  refine settleEach (Q := fun k => k.port = none) (fun _ _ _ hk hp => hk.releaseOne hp g) _ (acc := (acc.1.setHeldCopies g [], acc.2))
    hclear fun j hj => ?_
  obtain ⟨k, hk, -, hp, -⟩ := h.held g j hj
  exact ⟨k, hk, hp⟩

theorem calmPoint (h : CopiesKept s loose) : CopiesKept s.calmPoint.1 loose := by
  have hgroups : CopiesKept (allGroups.foldl State.recomputeGroup s) loose :=
    h.run (Run.foldl _ (fun _ g k => k.recomputeGroup g) _ (Run.refl s))
  have hfold (l : List GroupId) (acc : State × List Port) (hacc : CopiesKept acc.1 loose) :
      CopiesKept (l.foldl State.releaseGroup acc).1 loose := by
    induction l generalizing acc with
    | nil => exact hacc
    | cons g l ih => exact ih _ (hacc.releaseGroup g)
  unfold State.calmPoint
  generalize allGroups.foldl State.recomputeGroup s = u at hgroups ⊢
  exact hfold _ (u, []) hgroups

theorem endWalk (h : CopiesKept s loose) (p : Port) : CopiesKept (s.endWalk p).1 loose := by
  have h1 := h.run (((Run.refl s).setWalk none).recomputeGroupsOf p)
  unfold State.endWalk
  dsimp only
  generalize (s.setWalk none).recomputeGroupsOf p = u at h1 ⊢
  split
  · exact h1.calmPoint
  · exact h1.run (Run.refl u).startWalk

theorem walkStep (h : CopiesKept s loose) (w : Walk) : CopiesKept (s.walkStep w) loose := by
  have hx := walkVisits w.kind w.port w.tails (Config.walkVisits + 5) Config.walkVisits
    (x := { st := s, cls := w.cls, resume := w.resume, received := [] }) h
  unfold State.walkStep
  dsimp only
  generalize Machine.walkVisits w.kind w.port w.tails (Config.walkVisits + 5) Config.walkVisits
    { st := s, cls := w.cls, resume := w.resume, received := [] } = x at hx ⊢
  have h1 : CopiesKept (if s.queuesEmpty w.port = true then x.st else x.st.adoptIfEmpty w.port) loose := by
    split
    exacts [hx, hx.run ((Run.refl _).adoptIfEmpty _)]
  generalize (if s.queuesEmpty w.port = true then x.st else x.st.adoptIfEmpty w.port) = u at h1 ⊢
  have h2 : CopiesKept (if x.cls < 4 then (u.setWalk (some { w with cls := x.cls, resume := x.resume }), [])
      else u.endWalk w.port).1 loose := by
    split
    exacts [h1.run ((Run.refl _).setWalk _), h1.endWalk _]
  exact h2.run (((Run.refl _).oweEach _).settle _)

theorem enterUp (h : CopiesKept s loose) (p : Port) : CopiesKept (s.enterUp p) loose := by
  have h3 : Run Special.none s ((((s.setLiveness p .up).stopTrial p).removeWork p).stopDrain p) :=
    ((((Run.refl s).setLivePort _ _).setLivePort _ _).removeWork _).setLivePort _ _
  unfold State.enterUp
  dsimp only
  generalize (((s.setLiveness p .up).stopTrial p).removeWork p).stopDrain p = u3 at h3 ⊢
  have h4 : Run Special.none s (if u3.drainWalkOf p = true then u3 else u3.setDrained p false) := by
    split; exacts [h3, h3.setDrained _ _]
  generalize (if u3.drainWalkOf p = true then u3 else u3.setDrained p false) = u4 at h4 ⊢
  have h5 : Run Special.none s (if 0 < u4.postedCount p then u4.startStall p else u4) := by
    split; exacts [h4.setLivePort _ _, h4]
  have h6 := h.run ((h5.askPortState p (s.liveness p) .trialExpiry).recomputeGroupsOf p)
  split
  · exact h6.calmPoint.run (((Run.refl _).settle _).oweEach _)
  · exact h6.run (((Run.refl _).settle _).oweEach _)

/-! ## PORT_RESET -/

theorem postedInOrder_perm (e : EgressPort) : e.postedInOrder.Perm (e.slots.map fun x => x.2.tag) := by
  have h := List.filter_append_perm (fun x : Nat × SlotRecord => decide (e.nextWrite ≤ x.1)) e.slots
  have hneg : (e.slots.filter fun x => decide (x.1 < e.nextWrite)) = e.slots.filter fun x => !decide (e.nextWrite ≤ x.1) :=
    List.filter_congr fun x _ => by
      show decide (x.1 < e.nextWrite) = !decide (e.nextWrite ≤ x.1)
      rw [← decide_not]
      exact decide_eq_decide.2 Nat.not_le.symm
  unfold EgressPort.postedInOrder
  rw [hneg]
  exact h.map _

theorem resetAbort {acc : State × List Port} (h : CopiesKept acc.1 (tag :: loose)) {p : Port}
    (hport : ∃ k, acc.1.copy tag = some k ∧ k.port = some p) : Settles acc.1 (State.resetAbort p acc tag).1 tag loose := by
  obtain ⟨k, hk, hp⟩ := hport
  unfold State.resetAbort
  rw [hk]
  exact h.aborted hk hp

/-- The queue manager's part of PORT_RESET (R111). -/
theorem resetEgress (h : CopiesKept s loose) (p : Port) : CopiesKept (s.resetEgress p) loose := by
  have hperm := postedInOrder_perm (s.egressPort p)
  unfold State.resetEgress
  dsimp only
  generalize (s.egressPort p).postedInOrder = tags at hperm ⊢
  have horder : (tags.filter s.isVia ++ (tags.filter fun t => !s.isVia t).reverse).Perm tags :=
    ((List.reverse_perm _).append_left _).trans (List.filter_append_perm _ _)
  generalize tags.filter s.isVia ++ (tags.filter fun t => !s.isVia t).reverse = order at horder ⊢
  have hall := horder.trans hperm
  have hempty : CopiesKept (s.setEgressPort p { s.egressPort p with slots := [], nextWrite := 0, lap := true }) (order ++ loose) :=
    h.setEgressPort (hall.append_right loose) rfl nofun
  have hfold := settleEach (Q := fun k => k.port = some p) (fun _ _ _ hk hp => hk.resetAbort hp) order
    (acc := (s.setEgressPort p { s.egressPort p with slots := [], nextWrite := 0, lap := true }, [])) hempty fun j hj => by
      obtain ⟨x, hx, rfl⟩ := List.mem_map.1 (hall.subset hj)
      obtain ⟨k, hk, -, hp⟩ := h.posted p x hx
      exact ⟨k, hk, hp⟩
  exact hfold.run ((Run.refl _).oweEach _)

theorem portReset (h : CopiesKept s loose) (p : Port) : CopiesKept (s.portReset p) loose := by
  have h1 : CopiesKept ((s.resetCells p).resetIntake p) loose :=
    h.run (((Run.refl s).act (.resetCells s p)).act (.resetIntake _ p))
  unfold State.portReset
  dsimp only
  generalize (s.resetCells p).resetIntake p = u at h1 ⊢
  have h2 := h1.resetEgress p
  generalize u.resetEgress p = v at h2 ⊢
  refine h2.run (Run.resetLiveness ?_ p)
  split
  exacts [(Run.refl v).refill, (Run.refl v).report.refill]

theorem portResetBody (h : CopiesKept s loose) (k : SlotId) : CopiesKept (s.portResetBody k) loose := by
  unfold State.portResetBody State.withPortArg State.requireActive
  split
  · split
    · exact (h.portReset _).run ((Run.refl _).done _ _ _)
    · exact h.run ((Run.refl s).fail _ _)
  · exact h.run ((Run.refl s).fail _ _)

/-! ## START -/

/-- START's restarts find no copy, so no frame and no tag in any place (R168). -/
theorem startBlocks (h : CopiesKept s []) (hp : s.isActive = false) : CopiesKept s.startBlocks [] := by
  have hm : s.path.mode = .passive := by
    cases hmode : s.path.mode with
    | passive => rfl
    | active => simp [State.isActive, hmode] at hp
  have hnil := h.passive hm
  have hplaced : s.placedTags = [] := by
    have := h.placed
    rw [hnil, List.append_nil] at this
    exact List.perm_nil.1 this
  have hslots (p : Port) : (s.egressPort p).slots = [] := by
    refine List.eq_nil_iff_forall_not_mem.2 fun x hx => ?_
    have := mem_placed_slot hx
    rw [hplaced] at this
    cases this
  have hnone (n : Nat) (f : Frame) : s.frame n ≠ some f := fun hf => by
    have hfit := h.frames n f hf
    have hlen : (s.copiesOf n).length = 0 := by unfold State.copiesOf; rw [hnil]; rfl
    have hc := hfit.count
    have hpos := hfit.pos
    omega
  have heq := s.startBlocks_eq
  have hcells := s.startCells_cells
  have hqueues : s.startBlocks.queues.queues = s.queues.queues := by
    rw [heq]
    show s.startCells.startIntake.startEgress.queues.queues = s.queues.queues
    rw [State.startEgress_queues, State.startIntake_queues, State.startCells_queues]
  have hcopies : s.startBlocks.cells.copies = [] := by
    rw [heq]
    show s.startCells.cells.copies = []
    rw [hcells]
    exact hnil
  have hframes : s.startBlocks.cells.frames = s.cells.frames := by
    rw [heq]
    show s.startCells.cells.frames = s.cells.frames
    rw [hcells]
  have hfree : s.startBlocks.cells.freeCopies = [(0, Config.copies)] := by
    rw [heq]
    show s.startCells.cells.freeCopies = _
    rw [hcells]
  have hhold : s.startBlocks.failover = s.failover := by rw [heq]
  have hqueue (p : Port) (c : Cls) : s.startBlocks.queue p c = s.queue p c := by unfold State.queue; rw [hqueues]
  have hslots' (p : Port) : (s.startBlocks.egressPort p).slots = [] := by rw [State.startBlocks_egressPort]
  have hheld (g : GroupId) : s.startBlocks.heldCopies g = s.heldCopies g := by unfold State.heldCopies; rw [hhold]
  have hplaced' : s.startBlocks.placedTags = [] :=
    (State.placedTags_congr hqueue (fun p => (hslots' p).trans (hslots p).symm) hheld).trans hplaced
  have hactive : s.startBlocks.path.mode = .active := by rw [heq]
  generalize s.startBlocks = t at *
  refine ⟨?_, by rw [hplaced', hcopies]; exact .refl _, fun p c j hj => ?_, fun p x hx => ?_, fun g j hj => ?_, by rw [hcopies]; rfl,
    fun p => by rw [hslots']; rfl, fun _ => hcopies, hframes ▸ h.frameOrder, fun j k hj => ?_, fun n f hf => ?_⟩
  · rw [hfree, hcopies]
    exact .of_eq ((List.append_nil _).trans (Runs.toList_initial _))
  · have := mem_placed_queue hj
    rw [hplaced'] at this
    cases this
  · rw [hslots'] at hx
    cases hx
  · have := mem_placed_held hj
    rw [hplaced'] at this
    cases this
  · unfold State.copy at hj
    rw [hcopies] at hj
    cases hj
  · unfold State.frame at hf
    rw [hframes] at hf
    exact absurd hf (hnone n f)

theorem startBody (h : CopiesKept s []) (k : SlotId) : CopiesKept (s.startBody k) [] := by
  unfold State.startBody
  split
  · exact h.run ((Run.refl s).fail _ _)
  · rename_i hp
    exact (h.startBlocks (by simpa using hp)).run (((Run.refl _).refillRun.report).done _ _ _)

end CopiesKept

end Sys2Proof.Machine
end

section
/-! The copy law and the target-port law under a taking (R14, R33, R64 to R69), and under every command (O8). -/
namespace Sys2Proof.Machine

/-! ## One copy created -/

/-- The port of a copy made for a place. -/
def Place.port? : Place → Option Port
  | .queue p => some p
  | .hold _ => none

/-- One copy more of the frame, with a port that is not in its target-port set, or none. -/
theorem Frame.Fits.grow {g : Frame} {l : List Copy} (hcount : g.copyCount = l.length) (hbound : g.copyCount < 48)
    (horder : g.ports.Pairwise (· < ·)) (hports : g.ports.Perm (l.filterMap (·.port))) {k : Copy} {place : Place}
    (hk : k.port = place.port?) (hnew : ∀ p, place = .queue p → p ∉ g.ports) :
    ({ g with copyCount := g.copyCount + 1, ports := place.joined g.ports } : Frame).Fits (k :: l) := by
  refine ⟨congrArg (· + 1) hcount, Nat.le_add_left 1 _, hbound, ?_, ?_⟩
  · cases place with
    | queue p => exact pairwise_addPort horder
    | hold g => exact horder
  · cases place with
    | queue p =>
      rw [List.filterMap_cons_some (show k.port = some p from hk)]
      exact (addPort_perm (hnew p rfl)).trans (hports.cons p)
    | hold g =>
      rw [List.filterMap_cons_none (show k.port = none from hk)]
      exact hports

/-- The tables of copies and frames after a creation. -/
theorem State.createCopy_tables {u : State} {f : Forming} (ha : u.copyAvailable f = true) {tag : Nat} {rest : List Nat}
    (ht : Runs.toList u.cells.freeCopies = tag :: rest) (ho : Table.sorted u.cells.frames = true) (place : Place)
    (via : Option GroupId) (mark : Bool) :
    (u.createCopy f place via mark).cells.copies = u.cells.copies.put tag (u.newCopy f place via mark) ∧
      Table.sorted (u.createCopy f place via mark).cells.frames = true := by
  rw [State.createCopy_eq ha ht]
  generalize u.newCopy f place via mark = k
  obtain ⟨heq, -⟩ := u.recorded_eq f tag k
  have hcopies : (u.recorded f tag k).cells.copies = u.cells.copies.put tag k := by rw [heq]
  have horder : Table.sorted (u.recorded f tag k).cells.frames = true := by
    have hraise (w : State) (n : Nat) (hw : Table.sorted w.cells.frames = true) : Table.sorted (w.raiseCopies n).cells.frames = true := by
      unfold State.raiseCopies
      split
      exacts [hw, Table.sorted_put _ _ _ hw]
    refine hraise _ _ ?_
    unfold State.framed
    split
    · rw [State.enterFrame_eq]
      exact Table.sorted_put _ _ _ ho
    · exact ho
  generalize u.recorded f tag k = w at hcopies horder
  cases place with
  | queue p =>
    have hjoin (v : State) : (v.joinPort f.first p).cells.copies = v.cells.copies ∧
        (Table.sorted v.cells.frames = true → Table.sorted (v.joinPort f.first p).cells.frames = true) := by
      unfold State.joinPort
      split
      exacts [⟨rfl, id⟩, ⟨rfl, Table.sorted_put _ _ _⟩]
    have h := hjoin (w.setQueue p f.cls (w.queue p f.cls ++ [tag]))
    exact ⟨h.1.trans hcopies, h.2 horder⟩
  | hold g => exact ⟨hcopies, horder⟩

namespace CopiesKept

variable {u v : State} {loose : List Nat}

/-- A copy is created where a record can be had, for a port that the frame has no copy for (R14). -/
theorem createCopy (h : CopiesKept u loose) (hm : u.path.mode = .active) (f : Forming) {place : Place} {via : Option GroupId}
    (mark : Bool) (hvia : ∀ g, place = .hold g → via = some g)
    (hnew : ∀ p, place = .queue p → ∀ fr, u.frame f.first = some fr → p ∉ fr.ports) :
    CopiesKept (u.createCopy f place via mark) loose := by
  by_cases ha : u.copyAvailable f = true
  swap
  · have he : u.createCopy f place via mark = u.countDrop .noCopy f.tenant := if_neg ha
    rw [he]
    exact h.run ((Run.refl u).countDrop _ _)
  have ha' := ha
  unfold State.copyAvailable at ha'
  rw [Bool.and_eq_true, decide_eq_true_eq, decide_eq_true_eq, ← Runs.size_toList] at ha'
  obtain ⟨tag, rest, ht⟩ := List.exists_cons_of_length_pos ha'.1
  have hc := State.createCopy_created ha ht place via mark
  obtain ⟨hcopies, horder⟩ := State.createCopy_tables ha ht h.frameOrder place via mark
  generalize hkdef : u.newCopy f place via mark = k at hc hcopies
  generalize u.createCopy f place via mark = v at *
  have hkframe : k.frame = f.first := by rw [← hkdef]; cases place <;> rfl
  have hkport : k.port = place.port? := by rw [← hkdef]; cases place <;> rfl
  have hrecords := h.records
  rw [ht] at hrecords
  have hfresh : tag ∉ u.cells.copies.map (·.1) := fun hin =>
    (List.nodup_append.1 (hrecords.nodup_iff.2 List.nodup_range)).2.2 tag List.mem_cons_self tag hin rfl
  have hnone : u.cells.copies.find tag = none := by
    cases hf : u.cells.copies.find tag with
    | none => rfl
    | some w => exact absurd (List.mem_map.2 ⟨(tag, w), Table.find_mem hf, rfl⟩) hfresh
  have hput := Table.put_perm h.copyOrder tag k
  rw [Table.erase_of_find_none hnone, ← hcopies] at hput
  have hkeys : (v.cells.copies.map (·.1)).Perm (tag :: u.cells.copies.map (·.1)) := hput.map _
  have hof (n : Nat) : (v.copiesOf n).Perm (k.ofFrame n ++ u.copiesOf n) := by
    have := (hput.filter fun e => decide (e.2.frame = n)).map (·.2)
    rwa [copiesIn_cons] at this
  have hcopy (j : Nat) : v.copy j = if j = tag then some k else u.copy j := hc.copy j
  have hold {j : Nat} {kj : Copy} (hj : u.copy j = some kj) : v.copy j = some kj := by
    rw [hcopy, if_neg]
    · exact hj
    · rintro rfl
      unfold State.copy at hj
      rw [hnone] at hj
      cases hj
  have hself : v.copy tag = some k := (hcopy tag).trans (if_pos rfl)
  have hslots (p : Port) : (v.egressPort p).slots = (u.egressPort p).slots := by rw [hc.egress]
  have hplaced : v.placedTags.Perm (tag :: u.placedTags) := by
    cases place with
    | queue p =>
      have hp := u.placedTags_setQueue p f.cls (u.queue p f.cls ++ [tag])
      have heq : v.placedTags = (u.setQueue p f.cls (u.queue p f.cls ++ [tag])).placedTags := by
        refine State.placedTags_congr (fun q c => ?_) hslots fun g => ?_
        · rw [hc.queue, State.setQueue_queue]
          by_cases hq : q = p ∧ c = f.cls
          · rw [if_pos hq, hq.1, hq.2, if_pos ⟨rfl, rfl⟩]
          · rw [if_neg hq, if_neg fun e => hq ⟨(Place.queue.inj e.1).symm, e.2⟩, List.append_nil]
        · rw [hc.held, if_neg nofun, List.append_nil]
          rfl
      rw [← heq] at hp
      refine List.perm_iff_count.2 fun a => ?_
      have := List.perm_iff_count.1 hp a
      simp only [List.count_append, List.count_cons, List.count_nil] at this ⊢
      omega
    | hold g =>
      have hp := u.placedTags_setHeldCopies g (u.heldCopies g ++ [tag])
      have heq : v.placedTags = (u.setHeldCopies g (u.heldCopies g ++ [tag])).placedTags := by
        refine State.placedTags_congr (fun q c => ?_) hslots fun g' => ?_
        · rw [hc.queue, if_neg (fun e => nomatch e.1), List.append_nil]
          rfl
        · rw [hc.held, State.setHeldCopies_heldCopies]
          by_cases hg : g' = g
          · rw [if_pos hg, hg, if_pos rfl]
          · rw [if_neg hg, if_neg fun e => hg (Place.hold.inj e).symm, List.append_nil]
      rw [← heq] at hp
      refine List.perm_iff_count.2 fun a => ?_
      have := List.perm_iff_count.1 hp a
      simp only [List.count_append, List.count_cons, List.count_nil] at this ⊢
      omega
  refine ⟨?_, ?_, fun p c j hj => ?_, fun p x hx => ?_, fun g j hj => ?_, ?_, fun p => ?_, fun hp => ?_, horder, fun j kj hj => ?_,
    fun n fn hn => ?_⟩
  · have hfree : Runs.toList v.cells.freeCopies = rest := by
      rw [hc.cells]
      show Runs.toList (Runs.drop 1 u.cells.freeCopies) = rest
      rw [Runs.toList_drop, ht]
      rfl
    rw [hfree]
    exact ((hkeys.append_left rest).trans List.perm_middle).trans hrecords
  · exact ((hplaced.append_right loose).trans (h.placed.cons tag)).trans hkeys.symm
  · rw [hc.queue] at hj
    rcases List.mem_append.1 hj with hin | hin
    · obtain ⟨kj, hkj, hrest⟩ := h.queued p c j hin
      exact ⟨kj, hold hkj, hrest⟩
    · by_cases e : place = .queue p ∧ c = f.cls
      · rw [if_pos e] at hin
        obtain ⟨rfl, rfl⟩ := e
        rw [List.mem_singleton.1 hin]
        exact ⟨k, hself, by rw [← hkdef]; rfl, by rw [← hkdef]; rfl, by rw [← hkdef]; rfl⟩
      · rw [if_neg e] at hin
        cases hin
  · rw [hslots] at hx
    obtain ⟨kj, hkj, hrest⟩ := h.posted p x hx
    exact ⟨kj, hold hkj, hrest⟩
  · rw [hc.held] at hj
    rcases List.mem_append.1 hj with hin | hin
    · obtain ⟨kj, hkj, hrest⟩ := h.held g j hin
      exact ⟨kj, hold hkj, hrest⟩
    · by_cases e : place = .hold g
      · rw [if_pos e] at hin
        subst e
        rw [List.mem_singleton.1 hin]
        exact ⟨k, hself, by rw [← hkdef]; rfl, by rw [← hkdef]; rfl, by rw [← hkdef]; exact hvia g rfl⟩
      · rw [if_neg e] at hin
        cases hin
  · rw [hcopies]; exact Table.sorted_put _ _ _ h.copyOrder
  · rw [hslots]; exact h.slotOrder p
  · rw [hc.outside.path, hm] at hp
    cases hp
  · rw [hc.frame]
    split
    · rfl
    · rename_i hne
      rw [hcopy] at hj
      split at hj
      · cases hj; exact absurd hkframe hne
      · exact h.named j kj hj
  · rw [hc.frame] at hn
    split at hn
    · rename_i e
      cases hn
      have hl := hof n
      rw [e, ← hkframe, Copy.ofFrame_self, hkframe] at hl
      rw [e]
      refine Frame.Fits.perm ?_ hl.symm
      unfold State.forming
      cases hf : u.frame f.first with
      | none =>
        have hnil : u.copiesOf f.first = [] := by
          refine List.eq_nil_iff_forall_not_mem.2 fun c hcm => ?_
          obtain ⟨⟨j, kj⟩, hjm, rfl⟩ := List.mem_map.1 hcm
          obtain ⟨hjm, hjf⟩ := List.mem_filter.1 hjm
          have := h.named j kj ((Table.mem_iff_find _ h.copyOrder _ _).1 hjm)
          rw [show kj.frame = f.first from of_decide_eq_true hjf, hf] at this
          cases this
        rw [hnil]
        exact .grow rfl (show 0 < 48 by decide) List.Pairwise.nil (.refl _) hkport fun _ _ => List.not_mem_nil
      | some fr =>
        obtain ⟨h1, h2, h3, h4, h5⟩ := h.frames _ fr hf
        refine .grow h1 ?_ h4 h5 hkport fun p hp => hnew p hp fr hf
        have hcc := ha'.2
        unfold State.copyCount at hcc
        rw [hf] at hcc
        exact hcc
    · rename_i hne
      have hl := hof n
      rw [Copy.ofFrame_ne (hkframe ▸ hne)] at hl
      exact (h.frames n fn hn).perm hl.symm

end CopiesKept

end Sys2Proof.Machine
end

section
/-! The copy law and the target-port law under a taking (R33, R61 to R69) and under every command (O8). -/
namespace Sys2Proof.Machine

/-! ## Replication -/

/-- The laws stand while copies of a frame are made, and its target-port set holds ports already served alone (R64). -/
structure Replicating (f : Forming) (served : List Port) (u : State) : Prop where
  kept : CopiesKept u []
  mode : u.path.mode = .active
  ports : ∀ fr, u.frame f.first = some fr → fr.ports ⊆ served

/-- A creation adds the port of its place to the target-port set and no other. -/
theorem State.createCopy_ports {u : State} {f : Forming} {place : Place} {via : Option GroupId} {mark : Bool} {fr : Frame}
    (h : (u.createCopy f place via mark).frame f.first = some fr) {q : Port} (hq : q ∈ fr.ports) :
    place = .queue q ∨ ∃ fr0, u.frame f.first = some fr0 ∧ q ∈ fr0.ports := by
  by_cases ha : u.copyAvailable f = true
  swap
  · have he : u.createCopy f place via mark = u.countDrop .noCopy f.tenant := if_neg ha
    rw [he] at h
    exact .inr ⟨fr, h, hq⟩
  have ha' := ha
  unfold State.copyAvailable at ha'
  rw [Bool.and_eq_true, decide_eq_true_eq, ← Runs.size_toList] at ha'
  obtain ⟨tag, rest, ht⟩ := List.exists_cons_of_length_pos ha'.1
  rw [(State.createCopy_created ha ht place via mark).frame, if_pos rfl] at h
  cases h
  have hold : q ∈ (u.forming f).ports → ∃ fr0, u.frame f.first = some fr0 ∧ q ∈ fr0.ports := fun hm => by
    unfold State.forming at hm
    cases hf : u.frame f.first with
    | none => rw [hf] at hm; cases hm
    | some fr0 => rw [hf] at hm; exact ⟨fr0, rfl, hm⟩
  cases place with
  | queue p =>
    rcases (mem_foldl_addPort (q := q) (u.forming f).ports [p]).1 hq with hm | hm
    · exact .inr (hold hm)
    · exact .inl (by rw [List.mem_singleton.1 hm])
  | hold g => exact .inr (hold hq)

namespace Replicating

variable {f : Forming} {served : List Port} {u v : State}

theorem run (h : Replicating f served u) (hr : Run Special.none u v) : Replicating f served v := by
  have hs := hr.sameCopies
  exact ⟨h.kept.same hs, hs.mode.trans h.mode, fun fr hf => h.ports fr (hs.frame _ ▸ hf)⟩

theorem createCopy_mode (h : u.path.mode = .active) (place : Place) (via : Option GroupId) (mark : Bool) :
    (u.createCopy f place via mark).path.mode = .active := by
  rw [(Replicates.createCopy u f place via mark).outside.path]
  exact h

theorem createQueued (h : Replicating f served u) {p : Port} (hp : p ∉ served) (via : Option GroupId) (mark : Bool) :
    Replicating f (served ++ [p]) (u.createCopy f (.queue p) via mark) := by
  refine ⟨h.kept.createCopy h.mode f mark nofun fun q e fr hf hm => ?_, createCopy_mode h.mode _ _ _, fun fr hf q hq => ?_⟩
  · obtain rfl := Place.queue.inj e
    exact hp (h.ports fr hf hm)
  · rcases State.createCopy_ports hf hq with e | ⟨fr0, hf0, hq0⟩
    · rw [Place.queue.inj e]
      exact List.mem_append_right _ List.mem_cons_self
    · exact List.mem_append_left _ (h.ports fr0 hf0 hq0)

theorem createHeld (h : Replicating f served u) (g : GroupId) (mark : Bool) :
    Replicating f served (u.createCopy f (.hold g) (some g) mark) := by
  refine ⟨h.kept.createCopy h.mode f mark (fun g' e => by rw [Place.hold.inj e]) nofun, createCopy_mode h.mode _ _ _, fun fr hf q hq => ?_⟩
  rcases State.createCopy_ports hf hq with e | ⟨fr0, hf0, hq0⟩
  · cases e
  · exact h.ports fr0 hf0 hq0

theorem offerCopy (h : Replicating f served u) {p : Port} (hp : p ∉ served) (via : Option GroupId) :
    Replicating f (served ++ [p]) (u.offerCopy f p via) := by
  unfold State.offerCopy
  split
  · exact h.createQueued hp _ _
  · have hd := h.run ((Run.refl u).countDrop .queueFull f.tenant)
    exact ⟨hd.kept, hd.mode, fun fr hf _ hq => List.mem_append_left _ (hd.ports fr hf hq)⟩

theorem offerHeld (h : Replicating f served u) (g : GroupId) : Replicating f served (u.offerHeld f g) := by
  unfold State.offerHeld
  split
  exacts [h.createHeld _ _, h.run ((Run.refl u).countDrop _ _)]

theorem repCandidate {x : RepWalk × State} (h : Replicating f x.1.served x.2) (p : Port) (via : Option GroupId) :
    Replicating f (Machine.repCandidate f p via x).1.served (Machine.repCandidate f p via x).2 := by
  unfold Machine.repCandidate
  split
  · exact h
  · rename_i he
    refine h.offerCopy (fun hm => he ?_) via
    unfold State.excluded
    simp [hm]

theorem repGroup {x : RepWalk × State} (h : Replicating f x.1.served x.2) (g : GroupId) :
    Replicating f (Machine.repGroup f g x).1.served (Machine.repGroup f g x).2 := by
  unfold Machine.repGroup
  split
  · split
    exacts [h, h.offerHeld g]
  · split
    exacts [h, h.repCandidate _ _]

theorem repSublist {x : RepWalk × State} (h : Replicating f x.1.served x.2) (l m : ListId) (i : Nat) :
    Replicating f (Machine.repSublist f l m i x).1.served (Machine.repSublist f l m i x).2 := by
  unfold Machine.repSublist
  split
  · exact h
  · split
    exacts [h, h.run ((Run.refl x.2).ask _ _ _ _)]

theorem repEntry {x : RepWalk × State} (h : Replicating f x.1.served x.2) (l : ListId) (i : Nat) :
    Replicating f (Machine.repEntry f l i x).1.served (Machine.repEntry f l i x).2 := by
  unfold Machine.repEntry
  dsimp only
  split
  · split
    exacts [h.repCandidate _ _, h]
  · split
    exacts [h.repGroup _, h]
  · split
    exacts [h.repSublist _ _ _, h]
  · exact h

theorem repWalk (n : Nat) {x : RepWalk × State} (h : Replicating f x.1.served x.2) : CopiesKept (Machine.repWalk f n x) [] := by
  induction n generalizing x with
  | zero => exact h.kept
  | succ n ih =>
    unfold Machine.repWalk
    split
    · exact h.kept
    · rename_i y hy
      unfold repPass at hy
      dsimp only at hy
      split at hy
      · split at hy
        · cases hy
        · cases hy; exact ih h
      · cases hy
        exact ih (Replicating.repEntry
          (x := ({ x.1 with pos := { x.1.pos with next := x.1.pos.next + 1, remaining := x.1.pos.remaining - 1 } }, x.2)) h _ _)

theorem replicate (h : Replicating f [] u) (t : Target) : CopiesKept (u.replicate f t) [] := by
  cases t with
  | port p =>
    show CopiesKept (u.directPort f p) []
    unfold State.directPort
    split
    exacts [h.kept, (h.offerCopy List.not_mem_nil _).kept]
  | group g =>
    show CopiesKept (u.directGroup f g) []
    unfold State.directGroup
    split
    · exact (h.offerHeld g).kept
    · split
      · exact (h.run ((Run.refl u).countDrop _ _)).kept
      · split
        exacts [h.kept, (h.offerCopy List.not_mem_nil _).kept]
  | list l => exact Replicating.repWalk Config.walkPasses (x := (u.startRep l, u)) h

end Replicating

namespace CopiesKept

variable {s : State}

/-! ## The taking -/

theorem admitFrame (h : CopiesKept s []) (hm : s.path.mode = .active) {f : Forming} (hnone : s.frame f.first = none) (t : Target) :
    CopiesKept (s.admitFrame f t) [] := by
  have hr : Replicating { f with colour := (s.refillMeter f.tenant).colourOf f.tenant f.length } [] (s.refillMeter f.tenant) :=
    Replicating.run ⟨h, hm, fun fr hf => by rw [show s.frame f.first = some fr from hf] at hnone; cases hnone⟩
      ((Run.refl s).refillMeter f.tenant)
  unfold State.admitFrame
  dsimp only
  generalize s.refillMeter f.tenant = u at hr ⊢
  split
  · exact (hr.run ((Run.refl u).countDrop _ _)).kept
  · exact hr.replicate t

theorem forwardFrame (h : CopiesKept s []) (hm : s.path.mode = .active) {f : Forming} (hnone : s.frame f.first = none) :
    CopiesKept (s.forwardFrame f) [] := by
  have heq := State.carrying_writeLinks (s := s) (c := s.cells) (i := s.intake) (ws := s.bus.writes) f.cells
  have hlinks : SameCopies s (State.writeLinks f.cells s) := by
    have hs : State.writeLinks f.cells s = _ := heq
    rw [hs]
    exact ⟨rfl, rfl, rfl, rfl, fun _ => rfl, rfl, rfl⟩
  have hlearn := ((Run.refl (ok := Special.none) (State.writeLinks f.cells s)).learn f).sameCopies
  have hall := hlinks.trans hlearn
  unfold State.forwardFrame
  dsimp only
  generalize (State.writeLinks f.cells s).learn f = u at hall ⊢
  split
  · exact (h.same hall).run ((Run.refl u).countDrop _ _)
  · exact (h.same hall).admitFrame (hall.mode.trans hm) ((hall.frame _).trans hnone) _

/-- The stages of a taking, whose cells are those of no frame that stands. -/
theorem takeStages (h : CopiesKept s []) (hm : s.path.mode = .active) (p : Port) {d : Descriptor} {cells : List Nat}
    (hnone : 1 ≤ d.cellCount → s.frame (cells.headD 0) = none) : CopiesKept (s.takeStages p d cells) [] := by
  unfold State.takeStages
  split
  · exact h.run ((Run.refl s).countDrop _ _)
  · rename_i hv
    dsimp only
    split
    · exact h.run ((Run.refl s).countDrop _ _)
    · have hsz : d.sizeValid = true := by
        by_contra hn
        exact hv (by simp [hn])
      exact h.forwardFrame hm (hnone (Descriptor.sizeValid_cells hsz))

theorem closeTaking (h : CopiesKept s []) (cells : List Nat) : CopiesKept (s.closeTaking cells) [] := by
  unfold State.closeTaking
  cases cells with
  | nil => exact h
  | cons c rest =>
    dsimp only
    split
    · exact h.run (Run.refl s).refill
    · refine (h.same (t := s.freeCells (c :: rest)) ⟨rfl, rfl, rfl, rfl, fun _ => rfl, rfl, rfl⟩).run ?_
      exact (Run.refl _).report.refill

theorem takeDescriptor (h : CopiesKept s []) (hc : CellsKept s [] []) (ha : s.isActive = true) (p : Port) :
    CopiesKept (s.takeDescriptor p) [] := by
  have h1 : CopiesKept (s.setIntakePort p (s.intakePort p).advance) [] := h.run ((Run.refl s).act (.advanceIntake s p))
  have hc1 : CellsKept (s.setIntakePort p (s.intakePort p).advance) [] [] := hc.congr rfl rfl rfl rfl rfl
  have hm : (s.setIntakePort p (s.intakePort p).advance).path.mode = .active := of_decide_eq_true ha
  unfold State.takeDescriptor
  dsimp only
  generalize s.setIntakePort p (s.intakePort p).advance = u at *
  generalize Descriptor.read (s.intakePort p).staging = d
  split
  · exact h1.run ((Run.refl u).ask _ _ _ _)
  · have hle : d.cellCount ≤ u.issuedCount p := Nat.le_of_not_lt ‹_›
    have hlen : (u.claimed p d.cellCount).length = d.cellCount := by
      unfold State.claimed
      rw [Runs.toList_take, List.length_take, Runs.size_toList]
      exact Nat.min_eq_left hle
    have hclaim : CopiesKept (u.claim p d.cellCount) [] := h1.same ⟨rfl, rfl, rfl, rfl, fun _ => rfl, rfl, rfl⟩
    refine (hclaim.takeStages (cells := u.claimed p d.cellCount) hm p fun h1 => ?_).closeTaking _
    have hcl := hc1.claim p d.cellCount
    obtain ⟨c, rest, hcells⟩ := List.exists_cons_of_length_pos (show 0 < (u.claimed p d.cellCount).length by omega)
    rw [hcells] at hcl ⊢
    exact hcl.noFrame List.mem_cons_self

theorem ingressWrite (h : CopiesKept s []) (hc : CellsKept s [] []) (p : Port) (n : Nat) (g : Lanes) :
    CopiesKept (s.ingressWrite p n g) [] := by
  have hstage := (Run.refl (ok := Special.none) s).stageIngress p g
  unfold State.ingressWrite
  split
  · exact h
  · rename_i ha
    split
    · split
      · split
        · exact (h.run hstage).takeDescriptor (hc.congr rfl rfl rfl rfl rfl) (show s.isActive = true by simpa using ha) p
        · exact h.run (hstage.ask _ _ _ _)
      · exact h.run hstage
    · split
      exacts [h.run ((Run.refl s).ask _ _ _ _), h]

/-! ## Command words -/

theorem commandBody (h : CopiesKept s []) (kind : Byte) (k : SlotId) : CopiesKept (s.commandBody kind k) [] := by
  by_cases h1 : kind = 1
  · subst h1
    exact h.startBody k
  by_cases h8 : kind = 8
  · subst h8
    exact h.portResetBody k
  exact h.run ((Run.refl s).commandBody kind k (fun e => absurd e h1) fun e => absurd e h8)

theorem commandWord (h : CopiesKept s []) (k : SlotId) (kind : Byte) (tag : BitVec 16) {body : State → State}
    (hb : ∀ u, CopiesKept u [] → CopiesKept (body u) []) : CopiesKept (s.commandWord k kind tag body) [] := by
  unfold State.commandWord
  split
  · exact h.run ((Run.refl s).ask _ _ _ _)
  · exact hb _ (h.run ((Run.refl s).startSlot k kind tag))

theorem commandWrite (h : CopiesKept s []) (kind : Byte) (w : SlotWrite) {body : State → State}
    (hb : ∀ u, CopiesKept u [] → CopiesKept (body u) []) : CopiesKept (s.commandWrite kind w body) [] :=
  (h.run (((Run.refl s).forward _ _).takeArgs _ _)).commandWord _ _ _ hb

theorem slotWrite (h : CopiesKept s []) (k : SlotId) (g : Lanes) : CopiesKept (s.slotWrite k g) [] := by
  have h1 := h.run ((Run.refl s).takeArgs k g)
  unfold State.slotWrite
  dsimp only
  split
  · exact h1.commandWord _ _ _ fun u hu => hu.commandBody _ _
  · exact h1

theorem presentWrite (h : CopiesKept s []) (hc : CellsKept s [] []) (a : Nat) (g : Lanes) : CopiesKept (s.presentWrite a g) [] := by
  have hfwd := h.run ((Run.refl s).forward a g)
  have hcfwd : CellsKept (s.forward a g) [] [] := hc.congr rfl rfl rfl rfl rfl
  refine State.presentWrite_elim (P := fun u => CopiesKept u []) (fun _ => hfwd) fun off _ => ?_
  generalize areaOf off = area
  generalize s.forward a g = u at *
  have hend : ∀ {v : State}, Run (fun x => x = .tables ∨ x = .consumer) u v → CopiesKept v [] := fun hr =>
    hfwd.same (hr.keeps (P := SameCopies u) (fun _ _ ha hs => hs.trans (ha.sameCopies (by simp) (by simp) (by simp))) (.refl u))
  have h0 := Run.refl (ok := fun x => x = .tables ∨ x = .consumer) u
  cases area with
  | ingress p n => exact hfwd.ingressWrite hcfwd p n g
  | egress p n => exact hfwd.egressWrite p n g
  | status p => exact hend (h0.statusWrite p g)
  | tables i => exact hend (h0.tableWrite (.inl rfl) i g)
  | commandSlot k => exact hfwd.slotWrite k g
  | consumer => exact hend (h0.consumerWrite (.inr rfl) g)
  | other => exact hfwd

end CopiesKept

/-! ## Every command -/

theorem finish_copiesKept {s : State} (h : CopiesKept s []) : CopiesKept s.finish [] :=
  h.same ⟨rfl, rfl, rfl, rfl, fun _ => rfl, rfl, rfl⟩

theorem exec_taking_copies {s t : State} {p : Port} {n : RingSlot} {g : Lanes} (h : exec (.takingOfDescriptor p n g) s = .next t)
    (hc : CellsKept s [] []) (hs : CopiesKept s []) : CopiesKept t [] := by
  have hrun := (Run.refl (ok := Special.none) s).forward (s.windowAddr (ingressOffset p n)) g
  by_cases ht : s.takes p n g = true
  · have he : exec (.takingOfDescriptor p n g) s =
        .next (((s.forward (s.windowAddr (ingressOffset p n)) g).stageIngress p g).takeDescriptor p).finish := if_pos ht
    have ha : s.isActive = true := by
      unfold State.takes at ht
      simp only [Bool.and_eq_true] at ht
      exact ht.1.1.1
    rw [Host.Outcome.next.inj (h.symm.trans he)]
    have hcells : CellsKept ((s.forward (s.windowAddr (ingressOffset p n)) g).stageIngress p g) [] [] :=
      hc.congr rfl rfl rfl rfl rfl
    exact finish_copiesKept ((hs.run (hrun.stageIngress p g)).takeDescriptor hcells ha p)
  · have he : exec (.takingOfDescriptor p n g) s =
        .next ((s.forward (s.windowAddr (ingressOffset p n)) g).ingressWrite p n g).finish := if_neg ht
    rw [Host.Outcome.next.inj (h.symm.trans he)]
    have hcells : CellsKept (s.forward (s.windowAddr (ingressOffset p n)) g) [] [] := hc.congr rfl rfl rfl rfl rfl
    exact finish_copiesKept ((hs.run hrun).ingressWrite hcells p n g)

/-- The events of the part's own that move copies: a post attempt, a trial expiry, a step of a walk. -/
theorem exec_event_copies {s t : State} (hs : CopiesKept s []) :
    (∀ p, exec (.postAttempt p) s = .next t → CopiesKept t []) ∧ (∀ p, exec (.trialExpiry p) s = .next t → CopiesKept t []) ∧
      (exec .evacuationWalkStep s = .next t → CopiesKept t []) ∧ (exec .drainWalkStep s = .next t → CopiesKept t []) := by
  refine ⟨fun p h => ?_, fun p h => ?_, fun h => ?_, fun h => ?_⟩
  · change execPostAttempt p s = .next t at h
    unfold execPostAttempt at h
    split at h
    · rw [← Host.Outcome.next.inj h]; exact hs
    · rw [← Host.Outcome.next.inj h]
      exact finish_copiesKept ((hs.run ((Run.refl s).setEgressPort p { s.egressPort p with owed := (s.egressPort p).owed - 1 }
        ⟨id, id, id⟩ (.inr rfl))).attempt p)
  · change execTrialExpiry p s = .next t at h
    unfold execTrialExpiry at h
    split at h
    · rw [← Host.Outcome.next.inj h]; exact finish_copiesKept (hs.enterUp p)
    · rw [← Host.Outcome.next.inj h]; exact hs
  · change execEvacuationWalkStep s = .next t at h
    unfold execEvacuationWalkStep at h
    split at h
    · rw [← Host.Outcome.next.inj h]; exact hs
    · split at h
      · rw [← Host.Outcome.next.inj h]; exact finish_copiesKept (hs.walkStep _)
      · rw [← Host.Outcome.next.inj h]; exact hs
  · change execDrainWalkStep s = .next t at h
    unfold execDrainWalkStep at h
    split at h
    · rw [← Host.Outcome.next.inj h]; exact hs
    · split at h
      · rw [← Host.Outcome.next.inj h]; exact finish_copiesKept (hs.walkStep _)
      · rw [← Host.Outcome.next.inj h]; exact hs

theorem exec_copiesKept {c : Instr} {s t : State} (h : exec c s = .next t) (hc : CellsKept s [] []) (hs : CopiesKept s []) :
    CopiesKept t [] := by
  have hrun : (∀ straps, c ≠ .powerOnReset straps) → c ≠ .timebaseAdvance → ¬special c .taking → ¬special c .start →
      ¬special c .records → CopiesKept t [] := by
    intro hp ht h1 h2 h3
    rcases exec_next h hp ht with rfl | ⟨u, hu, rfl⟩
    · exact hs
    · exact finish_copiesKept (hs.same (hu.keeps (P := SameCopies s) (fun _ _ ha hk => hk.trans (ha.sameCopies h1 h2 h3)) (.refl s)))
  have hfwd : ∀ a g, CopiesKept (s.forward a g) [] := fun a g => hs.run ((Run.refl s).forward a g)
  cases c with
  | powerOnReset straps =>
    rw [← Host.Outcome.next.inj (show Host.Outcome.next (s.powerOn straps).finish = _ from h)]
    have hreset := (State.copiesKept_iff _).1 ⟨State.reset_copyLaw, State.reset_portLaw⟩
    exact finish_copiesKept (hreset.same ⟨rfl, rfl, rfl, rfl, fun _ => rfl, rfl, rfl⟩)
  | timebaseAdvance =>
    rw [← Host.Outcome.next.inj (show Host.Outcome.next s.tick = _ from h)]
    exact hs.same ⟨rfl, rfl, rfl, rfl, fun _ => rfl, rfl, rfl⟩
  | ingressSlotWrite p n g =>
    have he : exec (.ingressSlotWrite p n g) s =
        .next ((s.forward (s.windowAddr (ingressOffset p n)) g).ingressWrite p n g).finish := rfl
    rw [Host.Outcome.next.inj (h.symm.trans he)]
    have hcells : CellsKept (s.forward (s.windowAddr (ingressOffset p n)) g) [] [] := hc.congr rfl rfl rfl rfl rfl
    exact finish_copiesKept ((hfwd _ _).ingressWrite hcells p n g)
  | takingOfDescriptor p n g => exact exec_taking_copies h hc hs
  | postAttempt p => exact (exec_event_copies hs).1 p h
  | trialExpiry p => exact (exec_event_copies hs).2.1 p h
  | evacuationWalkStep => exact (exec_event_copies hs).2.2.1 h
  | drainWalkStep => exact (exec_event_copies hs).2.2.2 h
  | completion p n g =>
    have he : exec (.completion p n g) s = .next ((s.forward (s.windowAddr (egressOffset p n)) g).egressWrite p n g).finish := rfl
    rw [Host.Outcome.next.inj (h.symm.trans he)]
    exact finish_copiesKept ((hfwd _ _).egressWrite p n g)
  | commandArgumentWrite k g =>
    have he : exec (.commandArgumentWrite k g) s = .next ((s.forward (s.windowAddr (slotOffset k)) g).slotWrite k g).finish := rfl
    rw [Host.Outcome.next.inj (h.symm.trans he)]
    exact finish_copiesKept ((hfwd _ _).slotWrite k g)
  | unknownCommand kind w =>
    have he : exec (.unknownCommand kind w) s = .next (s.commandWrite kind w fun u => u.commandBody kind w.slot).finish := rfl
    rw [Host.Outcome.next.inj (h.symm.trans he)]
    exact finish_copiesKept (hs.commandWrite kind w fun u hu => hu.commandBody kind w.slot)
  | start w =>
    have he : exec (.start w) s = .next (s.commandWrite 1 w fun u => u.startBody w.slot).finish := rfl
    rw [Host.Outcome.next.inj (h.symm.trans he)]
    exact finish_copiesKept (hs.commandWrite 1 w fun u hu => hu.startBody w.slot)
  | portReset w =>
    have he : exec (.portReset w) s = .next (s.commandWrite 8 w fun u => u.portResetBody w.slot).finish := rfl
    rw [Host.Outcome.next.inj (h.symm.trans he)]
    exact finish_copiesKept (hs.commandWrite 8 w fun u hu => hu.portResetBody w.slot)
  | windowWriteNoEffect a g =>
    have he : exec (.windowWriteNoEffect a g) s = .next (s.presentWrite a g).finish := rfl
    rw [Host.Outcome.next.inj (h.symm.trans he)]
    exact finish_copiesKept (hs.presentWrite hc a g)
  | _ => exact hrun nofun nofun (by simp [special]) (by simp [special]) (by simp [special])

theorem State.copyLaws_step {s t : State} (h : step s = .next t) (hc : s.cellLaw) (hcopy : s.copyLaw) (hport : s.portLaw) :
    t.copyLaw ∧ t.portLaw := by
  have hs := (State.copiesKept_iff s).1 ⟨hcopy, hport⟩
  rw [State.cellLaw_iff] at hc
  rw [State.copiesKept_iff]
  unfold Machine.step at h
  split at h
  · cases h; exact hs
  · exact exec_copiesKept h (hc.congr rfl rfl rfl rfl rfl) (hs.same ⟨rfl, rfl, rfl, rfl, fun _ => rfl, rfl, rfl⟩)

/-- Settles O8: the lists and the hold pool by their closed laws, the records with their places through every operation. -/
theorem queuesAndHoldPoolBoundedKept : Obligations.QueuesAndHoldPoolBoundedKept := fun _ _ h =>
  ⟨closed_listsOk.step h, closed_holdOk.step h, State.copyLaws_step h⟩

end Sys2Proof.Machine
end
